-- ==== Sys2Proof/Word.lean ====
section
/-! DEFINITION. The byte of the links, and the table type `Tab`: a fixed number of like things, indexed by `Fin n`.

A `Tab` keeps its entries in a list, so that the kernel evaluates it by structural recursion. -/

namespace Sys2Proof

/-- A byte as it travels on a link (R182: 8 data bits). -/
abbrev Byte := BitVec 8

/-- `n` entries of one type. -/
structure Tab (n : Nat) (α : Type) where
  list : List α
  len : list.length = n
  deriving DecidableEq, Repr

namespace Tab

variable {n : Nat} {α β : Type}

/-- The entry at `i`. -/
def get (t : Tab n α) (i : Fin n) : α := t.list[i.val]'(by rw [t.len]; exact i.isLt)

/-- The table with the entry at `i` replaced. -/
def set (t : Tab n α) (i : Fin n) (a : α) : Tab n α :=
  ⟨t.list.set i.val a, by rw [List.length_set]; exact t.len⟩

/-- The table with `f` applied to the entry at `i`. -/
def modify (t : Tab n α) (i : Fin n) (f : α → α) : Tab n α := t.set i (f (t.get i))

/-- The same value at every index. -/
def replicate (n : Nat) (a : α) : Tab n α := ⟨List.replicate n a, List.length_replicate⟩

/-- The table of a function's values. -/
def ofFn (f : Fin n → α) : Tab n α := ⟨List.ofFn f, List.length_ofFn⟩

/-- `f` applied to every entry. -/
def map (f : α → β) (t : Tab n α) : Tab n β := ⟨t.list.map f, by rw [List.length_map]; exact t.len⟩

@[simp] theorem get_set_self (t : Tab n α) (i : Fin n) (a : α) : (t.set i a).get i = a := by
  simp [get, set]

theorem get_set_ne (t : Tab n α) {i j : Fin n} (a : α) (h : j ≠ i) : (t.set i a).get j = t.get j := by
  have : i.val ≠ j.val := fun e => h (Fin.ext e.symm)
  simp [get, set, this]

/-- Reading after a write, both cases. -/
theorem get_set (t : Tab n α) (i j : Fin n) (a : α) :
    (t.set i a).get j = if j = i then a else t.get j := by
  by_cases h : j = i
  · subst h; simp
  · simp [h, get_set_ne]

@[simp] theorem get_modify_self (t : Tab n α) (i : Fin n) (f : α → α) :
    (t.modify i f).get i = f (t.get i) := by simp [modify]

theorem get_modify_ne (t : Tab n α) {i j : Fin n} (f : α → α) (h : j ≠ i) :
    (t.modify i f).get j = t.get j := by simp [modify, get_set_ne, h]

@[simp] theorem get_replicate (i : Fin n) (a : α) : (replicate n a).get i = a := by
  simp [get, replicate]

@[simp] theorem get_ofFn (f : Fin n → α) (i : Fin n) : (ofFn f).get i = f i := by
  simp [get, ofFn]

@[simp] theorem get_map (f : α → β) (t : Tab n α) (i : Fin n) : (t.map f).get i = f (t.get i) := by
  simp [get, map]

/-- Writing back what is there changes nothing. -/
@[simp] theorem set_get (t : Tab n α) (i : Fin n) : t.set i (t.get i) = t := by
  cases t; simp [get, set]

/-- A second write of one entry is the only one that counts. -/
theorem set_set (t : Tab n α) (i : Fin n) (a b : α) : (t.set i a).set i b = t.set i b := by
  cases t; simp [set]

/-- Two tables with the same entries are the same table. -/
theorem ext_get {t u : Tab n α} (h : ∀ i, t.get i = u.get i) : t = u := by
  cases t with | mk l hl => cases u with | mk m hm =>
  have : l = m := by
    apply List.ext_getElem (by omega)
    intro i h1 h2
    simpa [get] using h ⟨i, by omega⟩
  subst this; rfl

end Tab
end Sys2Proof
end

