-- ==== Sys2Proof/Config.lean ====
section
/-! DEFINITION. The numbers the manual fixes for the part. It leaves no value open that a run would need, so there is no
free value here (INVENTORY, "What the manual leaves open"). -/

namespace Sys2Proof.Config

/-- Samples in one period (R6, R21). -/
abbrev samplesPerPeriod : Nat := 3000
/-- Samples in one second of the period timer (R6). One sample is 10 ms. -/
abbrev samplesPerSecond : Nat := 100
/-- Samples in one minute (R13). -/
abbrev samplesPerMinute : Nat := 6000
/-- Samples in one decisecond. -/
abbrev samplesPerDs : Nat := 10
/-- Off samples that clear the stuck-on condition (R12). -/
abbrev stuckClearSamples : Nat := 200
/-- Quiet seconds that clear the chatter condition (R14). -/
abbrev quietSeconds : Nat := 30
/-- Samples between scrub reads (R162). -/
abbrev scrubInterval : Nat := 400
/-- The Button Run of the 4 s instant (R152). -/
abbrev holdRun : Nat := 400
/-- One half of a sign flash, 500 ms (R103). -/
abbrev signHalf : Nat := 50
/-- The inter-byte limit, 50 ms (R183). -/
abbrev interByteLimit : Nat := 5
/-- The capacity of an Answer Queue (R183, R184). -/
abbrev answerCapacity : Nat := 16
/-- The capacity of the Damaged List (R160). -/
abbrev damagedCapacity : Nat := 16
/-- The most records of a history ring (R32). -/
abbrev ringCapacity : Nat := 20
/-- The largest queue estimate (R30). -/
abbrev queueMax : Nat := 250
/-- The largest Held Count (R55). -/
abbrev heldMax : Nat := 255
/-- The Held Count above which coordination is suspended (R55). -/
abbrev heldSuspends : Nat := 10
/-- The largest Correction Count (R159). -/
abbrev correctionMax : Nat := 65535
/-- The largest Silence Timer, s (R145). -/
abbrev silenceMax : Nat := 65535
/-- The largest Later-Incident Count (R131). -/
abbrev laterMax : Nat := 255
/-- The start marker of a frame (R182). -/
abbrev startMarker : Byte := 0xA5
/-- The least and the greatest length byte of a frame (R182). -/
abbrev lengthMin : Nat := 3
abbrev lengthMax : Nat := 124
/-- Minutes in one week (R95). -/
abbrev weekMinutes : Nat := 10080

end Sys2Proof.Config
end

