-- ==== Sys2Proof/Syntax.lean ====
section
/-! DEFINITION. The commands of the block: one constructor of `Instr` for each row of spec/opcode_table.json, and the
names their operands use.

The table gives its rows no operands. Those below are the ones the rules name. Objects numbered from 1 in the manual
(§6.3) are indexed from 0 here: `Ramp` 0 is ramp 1. The index byte of a request keeps the manual's number. -/

namespace Sys2Proof

/-- Ramps 1 to 6. -/
abbrev Ramp := Fin 6
/-- Metered lanes 1 and 2 of a ramp. -/
abbrev LaneNo := Fin 2
/-- Loops 1 to 48. -/
abbrev LoopNo := Fin 48
/-- Plan slots 1 to 32. -/
abbrev PlanSlot := Fin 32
/-- Schedule slots 1 to 48. -/
abbrev ScheduleSlot := Fin 48
/-- Clock-shift records 1 and 2. -/
abbrev ShiftSlot := Fin 2

/-- The three request links (§4). -/
inductive Port where
  | centre | cabinet | service
  deriving DecidableEq, Repr

/-- The incident kinds of R131. -/
inductive IncidentKind where
  | conflict | strayGreen | redOut | greenOut | test
  deriving DecidableEq, Repr

/-- The object kinds of the stored records (R158). -/
inductive RecKind where
  | loop | plan | schedule | shift | safety | corridorSettings
  deriving DecidableEq, Repr

/-- The identifier of one of the 132 stored records (R158). -/
inductive RecId where
  | loop (i : LoopNo)
  | plan (i : PlanSlot)
  | schedule (i : ScheduleSlot)
  | shift (i : ShiftSlot)
  | safety
  | corridorSettings
  deriving DecidableEq, Repr

/-- The sixteen object kinds of R194. -/
inductive ObjectKind where
  | rampStatus | rampHistory | corridorStatus | corridorHistory | loop | plan | schedule | shift | safety
  | corridorSettings | clock | authority | incident | memory | port | device
  deriving DecidableEq, Repr

/-- What a WRITE carries: the clear mark, or the bytes of the fields (R194). -/
inductive WriteData where
  | clear
  | fields (bytes : List Byte)
  deriving DecidableEq, Repr

/-- The levels of the input lines at one sample (R6, R127, R152, R173). Bit `i` of `presence` is loop `i + 1`; bit
`2 * r + l` of a sense word is lane `l + 1` of ramp `r + 1`; bit `r` of `panel` is ramp `r + 1`. -/
structure Inputs where
  presence : BitVec 48
  redLit : BitVec 12
  greenLit : BitVec 12
  panel : BitVec 6
  supplyFail : Bool
  deriving DecidableEq, Repr

/-- The two strap lines of each port, `true` for tied; bits `2 * p` and `2 * p + 1` are strap lines 1 and 2 of the
centre, cabinet and service port in that order (R182). -/
structure Straps where
  tied : BitVec 6
  deriving DecidableEq, Repr

/-- The steps that follow from a sample, from time or from received bytes, and are taken when they are due (log 3). -/
inductive DueStep where
  | stuckOnEntry (l : LoopNo)
  | stuckOnClear (l : LoopNo)
  | silenceEntry (l : LoopNo)
  | chatterSecondJudgement
  | testPresenceEnd (l : LoopNo)
  | periodClose
  | scrubRead
  | clockAdvance
  | warningTimerExpiry (r : Ramp)
  | clearanceTimerExpiry (r : Ramp)
  | slotExpiry (r : Ramp)
  | greenEnd (r : Ramp) (ln : LaneNo)
  | redMinimumReached (r : Ramp) (ln : LaneNo)
  | signPhaseChange (r : Ramp)
  | incidentQualifies (r : Ramp) (ln : LaneNo) (k : IncidentKind)
  | panelShortPress (r : Ramp)
  | panelLongHold (r : Ramp)
  | supplyFailAsserted
  | supplyRestart
  | warmRestartTaken (inp : Inputs)
  | portLapse (p : Port)
  | badLength (p : Port)
  | interByteTimeout (p : Port)
  | frameComplete (p : Port)
  deriving DecidableEq, Repr

/-- A request as its frame carries it (R185, R194). `index` is the index byte, which the answer returns. A frame that
fails the checks of R185 is `bad`, and is answered BAD_REQUEST when it is taken. -/
inductive Req where
  | read (obj : ObjectKind) (index ramp : Byte)
  | write (kind : RecKind) (index : Byte) (w : WriteData)
  | claim (index : Byte)
  | yieldRecord (index : Byte)
  | select (index plan : Byte)
  | withdraw (index : Byte)
  | restartRamp (index : Byte)
  | clearHold (index : Byte)
  | clearIncident (index : Byte)
  | testIncident (index lane rank : Byte)
  | setClock (index year month day hour minute second : Byte)
  | lockSafety (index : Byte)
  | testPresence (index duration : Byte)
  | insertError (obj : ObjectKind) (index errors : Byte)
  | watch (index : Byte) (classes : BitVec 16)
  | takeEvents (index : Byte)
  | warmRestart (index : Byte)
  | bad (kind index : Byte)
  deriving DecidableEq, Repr

/-- The commands. A request row is the completion, at port `p`, of a valid frame that carries the request (log 4). -/
inductive Instr where
  /-- SAMPLE: 10 ms pass, then the inputs are sampled. The steps of `first` are taken between the two, when due: they
  are those that meet the sample and are taken before it (log 2, log 3). -/
  | sample (inp : Inputs) (first : List DueStep)
  | stuckOnEntry (l : LoopNo)
  | stuckOnClear (l : LoopNo)
  | silenceEntry (l : LoopNo)
  | chatterSecondJudgement
  | testPresenceEnd (l : LoopNo)
  | periodClose
  | scrubRead
  | storageFault (id : RecId)
  | clockAdvance
  | warningTimerExpiry (r : Ramp)
  | clearanceTimerExpiry (r : Ramp)
  | slotExpiry (r : Ramp)
  | greenEnd (r : Ramp) (ln : LaneNo)
  | redMinimumReached (r : Ramp) (ln : LaneNo)
  | signPhaseChange (r : Ramp)
  | incidentQualifies (r : Ramp) (ln : LaneNo) (k : IncidentKind)
  | panelShortPress (r : Ramp)
  | panelLongHold (r : Ramp)
  | supplyFailAsserted
  | supplyRestart
  /-- COLD_POWER: `off` is the time, in units of 10 ms, that the retained clock counted on the battery (R99). -/
  | coldPower (inp : Inputs) (straps : Straps) (off : Nat)
  | resetLineAsserted
  | coldLine (inp : Inputs) (straps : Straps) (off : Nat)
  | warmRestartTaken (inp : Inputs)
  | portLapse (p : Port)
  | badLength (p : Port)
  | interByteTimeout (p : Port)
  | frameComplete (p : Port)
  | answerSent (p : Port)
  | readRampStatus (p : Port) (index : Byte)
  | readRampHistory (p : Port) (age ramp : Byte)
  | readCorridorStatus (p : Port)
  | readCorridorHistory (p : Port) (age : Byte)
  | readLoop (p : Port) (index : Byte)
  | readPlan (p : Port) (index : Byte)
  | readSchedule (p : Port) (index : Byte)
  | readShift (p : Port) (index : Byte)
  | readSafety (p : Port)
  | readCorridorSettings (p : Port)
  | readClock (p : Port)
  | readAuthority (p : Port)
  | readIncident (p : Port)
  | readMemory (p : Port)
  | readPort (p : Port) (index : Byte)
  | readDevice (p : Port)
  | writeLoop (p : Port) (index : Byte) (w : WriteData)
  | writePlan (p : Port) (index : Byte) (w : WriteData)
  | writeSchedule (p : Port) (index : Byte) (w : WriteData)
  | writeShift (p : Port) (index : Byte) (w : WriteData)
  | writeSafety (p : Port) (w : WriteData)
  | writeCorridorSettings (p : Port) (w : WriteData)
  | claim (p : Port) (index : Byte)
  | yieldRecord (p : Port) (index : Byte)
  /-- SELECT: `plan` is 1 to 32, or 0xFF for OFF (R194). -/
  | select (p : Port) (index plan : Byte)
  | withdraw (p : Port) (index : Byte)
  | clearHold (p : Port) (index : Byte)
  | restartRamp (p : Port) (index : Byte)
  | clearIncident (p : Port)
  | testIncident (p : Port) (index lane rank : Byte)
  | setClock (p : Port) (year month day hour minute second : Byte)
  | lockSafety (p : Port)
  | testPresence (p : Port) (index duration : Byte)
  | insertError (p : Port) (obj : ObjectKind) (index errors : Byte)
  | watch (p : Port) (classes : BitVec 16)
  | takeEvents (p : Port)
  | warmRestart (p : Port)
  | byteReceived (p : Port) (b : Byte)
  | mainSupplyLost
  | batterySupplyLow
  deriving DecidableEq, Repr

end Sys2Proof
end

