-- ==== Sys2Proof/WellFormed.lean ====
section
/-! DEFINITION. Which commands and requests are well formed: the payload lengths of R194, and the incident kinds a
qualification can have (R129). A request that is not well formed is a frame that R185 answers BAD_REQUEST. -/

namespace Sys2Proof

/-- The number of field bytes of a stored record's WRITE, the clear-mark byte left out (R194). -/
def RecKind.fieldBytes : RecKind → Nat
  | .loop => 7
  | .plan => 22
  | .schedule => 5
  | .shift => 6
  | .safety => 9
  | .corridorSettings => 50

/-- A WRITE's payload has the length R194 gives for its object (R185). -/
def WriteData.wf (k : RecKind) : WriteData → Bool
  | .clear => true
  | .fields bytes => bytes.length == k.fieldBytes

/-- A request that a frame can carry: only READ of RAMP_HISTORY names a ramp in its payload, and `bad` is what is left of a
frame that carries no request (R185, R194). -/
def Req.wf : Req → Bool
  | .read obj _ ramp => obj == .rampHistory || ramp == 0
  | .write k _ w => w.wf k
  | .bad _ _ => false
  | _ => true

/-- A kind that qualifies from the lamps: every kind but TEST (R129, R135). -/
def IncidentKind.real : IncidentKind → Bool
  | .test => false
  | _ => true

/-- A due step names a real incident kind. -/
def DueStep.wf : DueStep → Bool
  | .incidentQualifies _ _ k => k.real
  | _ => true

/-- The checks on a command's operands. -/
def Instr.wf : Instr → Bool
  | .sample _ first => first.all DueStep.wf
  | .incidentQualifies _ _ k => k.real
  | .writeLoop _ _ w => w.wf .loop
  | .writePlan _ _ w => w.wf .plan
  | .writeSchedule _ _ w => w.wf .schedule
  | .writeShift _ _ w => w.wf .shift
  | .writeSafety _ w => w.wf .safety
  | .writeCorridorSettings _ w => w.wf .corridorSettings
  | _ => true

end Sys2Proof
end

