-- ==== Sys2Proof/Decode.lean ====
section
/-! DEFINITION. The table of commands gives its rows no bits, so no word spells a command. The one encoding the manual does
give is that of a request in a frame (R182, R194): its decoder and encoder stand here. -/

namespace Sys2Proof

/-- The command that a word spells by the table's bits: none, since spec/opcode_table.json gives no row any bits. -/
def decodeTableWord (_nbits _w : Nat) : Option Instr := none

/-- The object kind of a code (R194, second table). -/
def ObjectKind.ofCode (b : Byte) : Option ObjectKind :=
  match b.toNat with
  | 0x01 => some .rampStatus
  | 0x02 => some .rampHistory
  | 0x03 => some .corridorStatus
  | 0x04 => some .corridorHistory
  | 0x05 => some .loop
  | 0x06 => some .plan
  | 0x07 => some .schedule
  | 0x08 => some .shift
  | 0x09 => some .safety
  | 0x0A => some .corridorSettings
  | 0x0B => some .clock
  | 0x0C => some .authority
  | 0x0D => some .incident
  | 0x0E => some .memory
  | 0x0F => some .port
  | 0x10 => some .device
  | _ => none

/-- The code of an object kind (R194, second table). -/
def ObjectKind.code : ObjectKind → Byte
  | .rampStatus => 0x01
  | .rampHistory => 0x02
  | .corridorStatus => 0x03
  | .corridorHistory => 0x04
  | .loop => 0x05
  | .plan => 0x06
  | .schedule => 0x07
  | .shift => 0x08
  | .safety => 0x09
  | .corridorSettings => 0x0A
  | .clock => 0x0B
  | .authority => 0x0C
  | .incident => 0x0D
  | .memory => 0x0E
  | .port => 0x0F
  | .device => 0x10

/-- The stored-record kind of an object kind that can be written (R185 check 3). -/
def ObjectKind.recKind : ObjectKind → Option RecKind
  | .loop => some .loop
  | .plan => some .plan
  | .schedule => some .schedule
  | .shift => some .shift
  | .safety => some .safety
  | .corridorSettings => some .corridorSettings
  | _ => none

/-- The object kind of a stored record. -/
def RecKind.object : RecKind → ObjectKind
  | .loop => .loop
  | .plan => .plan
  | .schedule => .schedule
  | .shift => .shift
  | .safety => .safety
  | .corridorSettings => .corridorSettings

/-- The WRITE payload of R185 check 4 and R194: a clear-mark byte 0x00 and the fields, or the clear-mark byte 0x01 alone. -/
def decodeWrite (k : RecKind) (payload : List Byte) : Option WriteData :=
  match payload with
  | [] => none
  | mark :: bytes =>
    if mark = 0x01 then (if bytes = [] then some .clear else none)
    else if mark = 0x00 then (if bytes.length = k.fieldBytes then some (.fields bytes) else none)
    else none

/-- The request of a frame whose request kind, object kind, index and payload are given, by the checks of R185 in their order;
what fails them is `bad`. -/
def decodeRequest (kind obj index : Byte) (payload : List Byte) : Req :=
  match kind.toNat, payload with
  | 0x01, pl =>
    match ObjectKind.ofCode obj, pl with
    | some .rampHistory, [ramp] => .read .rampHistory index ramp
    | some .rampHistory, _ => .bad kind index
    | some o, [] => .read o index 0
    | _, _ => .bad kind index
  | 0x02, pl =>
    match (ObjectKind.ofCode obj).bind ObjectKind.recKind with
    | none => .bad kind index
    | some k =>
      match decodeWrite k pl with
      | some w => .write k index w
      | none => .bad kind index
  | 0x03, [] => .claim index
  | 0x04, [] => .yieldRecord index
  | 0x05, [plan] => .select index plan
  | 0x06, [] => .withdraw index
  | 0x07, [] => .restartRamp index
  | 0x08, [] => .clearHold index
  | 0x09, [] => .clearIncident index
  | 0x0A, [lane, rank] => .testIncident index lane rank
  | 0x0B, [y, mo, d, h, mi, s] => .setClock index y mo d h mi s
  | 0x0C, [] => .lockSafety index
  | 0x0D, [duration] => .testPresence index duration
  | 0x0E, [errors] =>
    match ObjectKind.ofCode obj with
    | some o => .insertError o index errors
    | none => .bad kind index
  | 0x0F, [hi, lo] => .watch index (hi ++ lo)
  | 0x10, [] => .takeEvents index
  | 0x11, [] => .warmRestart index
  | _, _ => .bad kind index

/-- The request kind's code (R194, first table). -/
def Req.kindByte : Req → Byte
  | .read _ _ _ => 0x01
  | .write _ _ _ => 0x02
  | .claim _ => 0x03
  | .yieldRecord _ => 0x04
  | .select _ _ => 0x05
  | .withdraw _ => 0x06
  | .restartRamp _ => 0x07
  | .clearHold _ => 0x08
  | .clearIncident _ => 0x09
  | .testIncident _ _ _ => 0x0A
  | .setClock _ _ _ _ _ _ _ => 0x0B
  | .lockSafety _ => 0x0C
  | .testPresence _ _ => 0x0D
  | .insertError _ _ _ => 0x0E
  | .watch _ _ => 0x0F
  | .takeEvents _ => 0x10
  | .warmRestart _ => 0x11
  | .bad kind _ => kind

/-- The object byte of a request; 0 where it is not used. -/
def Req.objectByte : Req → Byte
  | .read o _ _ => o.code
  | .write k _ _ => k.object.code
  | .insertError o _ _ => o.code
  | _ => 0

/-- The index byte, as received (R184). -/
def Req.indexByte : Req → Byte
  | .read _ i _ => i
  | .write _ i _ => i
  | .claim i => i
  | .yieldRecord i => i
  | .select i _ => i
  | .withdraw i => i
  | .restartRamp i => i
  | .clearHold i => i
  | .clearIncident i => i
  | .testIncident i _ _ => i
  | .setClock i _ _ _ _ _ _ => i
  | .lockSafety i => i
  | .testPresence i _ => i
  | .insertError _ i _ => i
  | .watch i _ => i
  | .takeEvents i => i
  | .warmRestart i => i
  | .bad _ i => i

/-- The payload bytes of a request (R194, first table). -/
def Req.payloadBytes : Req → List Byte
  | .read .rampHistory _ ramp => [ramp]
  | .write _ _ .clear => [0x01]
  | .write _ _ (.fields bytes) => 0x00 :: bytes
  | .select _ plan => [plan]
  | .testIncident _ lane rank => [lane, rank]
  | .setClock _ y mo d h mi s => [y, mo, d, h, mi, s]
  | .testPresence _ duration => [duration]
  | .insertError _ _ errors => [errors]
  | .watch _ classes => [classes.extractLsb' 8 8, classes.extractLsb' 0 8]
  | _ => []

/-- One bit of the CRC of R182: polynomial 0x1021, most significant bit first. -/
def crcBit (crc : BitVec 16) : BitVec 16 :=
  if crc.msb then (crc <<< 1) ^^^ 0x1021 else crc <<< 1

/-- The CRC after one more byte. -/
def crcByte (crc : BitVec 16) (b : Byte) : BitVec 16 :=
  Nat.iterate crcBit 8 (crc ^^^ (b.setWidth 16 <<< 8))

/-- CRC-16 of polynomial 0x1021, initial value 0xFFFF, no final inversion (R182). -/
def crc16 (bytes : List Byte) : BitVec 16 := bytes.foldl crcByte 0xFFFF

/-- A frame's bytes: marker, length, body, CRC high byte first (R182, R194). -/
def frameOf (body : List Byte) : List Byte :=
  let len : Byte := BitVec.ofNat 8 body.length
  let crc := crc16 (len :: body)
  Config.startMarker :: len :: body ++ [crc.extractLsb' 8 8, crc.extractLsb' 0 8]

/-- The frame that carries a request. -/
def Req.frame (q : Req) : List Byte :=
  frameOf (q.kindByte :: q.objectByte :: q.indexByte :: q.payloadBytes)

/-- The CRC of a complete frame matches (R182). -/
def frameCrcOk (bytes : List Byte) : Bool :=
  match bytes with
  | _ :: len :: rest =>
    let n := len.toNat
    let crc := crc16 (len :: rest.take n)
    rest.drop n == [crc.extractLsb' 8 8, crc.extractLsb' 0 8]
  | _ => false

/-- The request of a complete frame (R194). -/
def frameRequest (bytes : List Byte) : Req :=
  match bytes with
  | _ :: len :: kind :: obj :: index :: rest => decodeRequest kind obj index (rest.take (len.toNat - 3))
  | _ => .bad 0 0

end Sys2Proof
end

