-- ==== Sys2Proof/Machine/State.lean ====
section
/-! DEFINITION. The state of the part: every stored record, register, list, timer and line the manual names, block by
block (§3), and the queue of commands that wait. Plain data throughout. Times are counted in samples of 10 ms (log 2). -/

namespace Sys2Proof.Machine

/-! ### Stored records (chapters 1, 4, 5, 9) -/

/-- The Role of a loop (R1). -/
inductive Role where
  | unused | merge | bottleneck | demand | checkin | passage | queueEnd
  deriving DecidableEq, Repr

/-- The Role, Ramp and Lane of a loop, its identity (R1). The Lane keeps the manual's number. -/
structure Identity where
  role : Role
  ramp : Option Ramp
  lane : Option Nat
  deriving DecidableEq, Repr

/-- A loop configuration record (R1). -/
structure LoopRec where
  ident : Identity
  stuckOnTime : Nat
  silenceTime : Nat
  chatterLimit : Nat
  deriving DecidableEq, Repr

/-- The Mode of a plan (R66). -/
inductive Mode where
  | feedback | fixed
  deriving DecidableEq, Repr

/-- A plan number: the built-in plan 0, or a slot of the plan table (§6.3). -/
inductive PlanRef where
  | builtin
  | slot (k : PlanSlot)
  deriving DecidableEq, Repr

/-- A plan record (R66). -/
structure Plan where
  mode : Mode
  coordinated : Bool
  targetOccupancy : Nat
  feedbackGain : Nat
  fixedRate : Nat
  startRate : Nat
  rateMinimum : Nat
  rateMaximum : Nat
  vehiclesPerGreen : Nat
  greenTime : Nat
  queueKeep : Nat
  queueStorage : Nat
  queueEndThreshold : Nat
  flushPeriods : Nat
  fallbackPlan : PlanRef
  deriving DecidableEq, Repr

/-- What a COMMAND, a SCHEDULE entry or a schedule record places: a plan of the table, or OFF (R72, R92). -/
inductive Action where
  | off
  | plan (k : PlanSlot)
  deriving DecidableEq, Repr

/-- A schedule entry (R92). Bit 0 of the Day Mask is Monday, bit 0 of the Ramp Mask is ramp 1 (R194). -/
structure ScheduleRec where
  dayMask : BitVec 7
  hour : Nat
  minute : Nat
  rampMask : BitVec 6
  action : Action
  deriving DecidableEq, Repr

/-- The Week of a shift record (R89). -/
inductive Week where
  | nth (n : Nat)
  | last
  deriving DecidableEq, Repr

/-- The Direction of a shift (R89). -/
inductive Direction where
  | forward | back
  deriving DecidableEq, Repr

/-- A clock-shift record (R89). -/
structure ShiftRec where
  month : Nat
  week : Week
  weekday : Nat
  hour : Nat
  direction : Direction
  appliedYear : Option Nat
  deriving DecidableEq, Repr

/-- The safety table (R166). -/
structure SafetyRec where
  redMinimum : Nat
  greenMinimum : Nat
  greenMaximum : Nat
  rateFloor : Nat
  rateCeiling : Nat
  safeRate : Nat
  deriving DecidableEq, Repr

/-- The twelve event classes, in the order of R194. -/
inductive EventClass where
  | loopFault | stationData | rampState | fallback | authority | incident | allowance | queue | memory | schedule
  | restart | period
  deriving DecidableEq, Repr

/-- The route of an event class (R165, R188). -/
inductive Route where
  | none | centre | cabinet | both
  deriving DecidableEq, Repr

/-- The edge selection of an event class (R165). -/
inductive Edge where
  | entry | both
  deriving DecidableEq, Repr

/-- One route per event class other than AUTHORITY (R165). -/
structure Routes where
  loopFault : Route
  stationData : Route
  rampState : Route
  fallback : Route
  incident : Route
  allowance : Route
  queue : Route
  memory : Route
  schedule : Route
  restart : Route
  period : Route
  deriving DecidableEq, Repr

/-- The five edge selections (R165). -/
structure Edges where
  loopFault : Edge
  stationData : Edge
  fallback : Edge
  allowance : Edge
  queue : Edge
  deriving DecidableEq, Repr

/-- The Restart Policy (R165, R177). -/
inductive RestartPolicy where
  | resumeSchedule | resumePrior | stayOff
  deriving DecidableEq, Repr

/-- The corridor settings (R165). -/
structure CorridorRec where
  laneCount : Tab 6 Nat
  warnTime : Nat
  clearanceTime : Nat
  allowanceGain : Nat
  bottleneckTarget : Nat
  allowanceMinimum : Nat
  allowanceMaximum : Nat
  startAllowance : Nat
  coordinationEnable : Bool
  restartPolicy : RestartPolicy
  defaultHolder : Tab 7 (Option Port)
  lapseTime : Tab 3 Nat
  routes : Routes
  edges : Edges
  deriving DecidableEq, Repr

/-- The check state of a stored record (R158). -/
inductive Check where
  | good | oneError | twoErrors
  deriving DecidableEq, Repr

/-- The check state and the Damaged Mark of a stored record (R158, R160). -/
structure Health where
  check : Check
  damagedMark : Bool
  deriving DecidableEq, Repr

/-- Configuration memory (chapter 9). `health` is indexed by the turn of a record in the scrub (R162). -/
structure ConfigMemory where
  loops : Tab 48 LoopRec
  plans : Tab 32 (Option Plan)
  schedule : Tab 48 (Option ScheduleRec)
  shifts : Tab 2 (Option ShiftRec)
  safety : SafetyRec
  corridor : CorridorRec
  health : Tab 132 Health
  damagedList : List RecId
  overflow : Bool
  correctionCount : Nat
  safetyLock : Bool
  scrubPosition : RecId
  deriving DecidableEq, Repr

/-! ### Loop Input Unit (chapter 1) -/

/-- The state of a loop (table of 1.7). -/
inductive LoopState where
  | unused | ok | stuckOn | chatter | noActivity | configLost
  deriving DecidableEq, Repr

/-- The period value of a loop (R10): its identity or last identity as it stood at the close, `none` when unknown. -/
structure PeriodValue where
  ident : Option Identity
  onSamples : Nat
  count : Nat
  valid : Bool
  testSeen : Bool
  deriving DecidableEq, Repr

/-- What a LOOP answer shows of the last closed period (R18). -/
structure LastPeriod where
  onSamples : Nat
  count : Nat
  valid : Bool
  testSeen : Bool
  deriving DecidableEq, Repr

/-- The supervision state of one loop. `ident` is `none` when the identity is unknown (R5); `last` is the last closed period, a
copy of its period value (R10). -/
structure Loop where
  state : LoopState
  ident : Option Identity
  stuckOn : Bool
  chatter : Bool
  silence : Bool
  stuckRun : Nat
  clearRun : Nat
  silenceRun : Nat
  edges : Nat
  quietRun : Nat
  presence : Option Bool
  testActive : Bool
  testTimer : Nat
  onSamples : Nat
  count : Nat
  notOkSeen : Bool
  rewritten : Bool
  testSeen : Bool
  last : Option PeriodValue
  deriving DecidableEq, Repr

/-- The check-in condition of a lane (R16). -/
inductive CheckIn where
  | present | absent | unsupervised
  deriving DecidableEq, Repr

/-- The period timer and the counts driven by it (R21, R14, R162). -/
structure PeriodTimer where
  samples : Nat
  number : Nat
  secondDue : Bool
  scrubCount : Nat
  deriving DecidableEq, Repr

/-! ### Clock (chapter 5) -/

/-- A date and a time to the second. `year` is the year less 2000 (R84). -/
structure DateTime where
  year : Nat
  month : Nat
  day : Nat
  hour : Nat
  minute : Nat
  second : Nat
  deriving DecidableEq, Repr

/-! ### Ramp states, lists (chapters 4 and 6) -/

/-- The state of a ramp (R101). -/
inductive RampState where
  | unconfigured | off | warning | metering | ending | darkFault
  deriving DecidableEq, Repr

/-- Who placed a COMMAND entry (R72). -/
inductive Originator where
  | port (p : Port)
  | panel
  | restart
  deriving DecidableEq, Repr

/-- The origin of an entry of a plan selection list (R72). -/
inductive Origin where
  | hold | fallback | command | schedule
  deriving DecidableEq, Repr

/-- A plan selection list (R72): at most one entry of each origin, in the order of the fields. -/
structure PlanList where
  hold : Bool
  fallback : Option PlanRef
  command : Option (Action × Originator)
  schedule : Option Action
  deriving DecidableEq, Repr

/-! ### Measurement Unit (chapter 2) -/

/-- The station results of a configured ramp (R29). `none` is no data. -/
structure RampResults where
  merge : Option Nat
  mergeTest : Bool
  arrivals : Option Nat
  arrivalsTest : Bool
  queueEnd : Option Nat
  queueEndTest : Bool
  departures : Nat
  departuresTest : Bool
  substituted : Bool
  queueHeld : Bool
  deriving DecidableEq, Repr

/-- The flags of a ramp history record (R33). -/
structure HistoryFlags where
  noMergeData : Bool
  queueHeld : Bool
  substituted : Bool
  protectionActive : Bool
  protectionLimited : Bool
  rateClamped : Bool
  fallback : Bool
  testSeen : Bool
  deriving DecidableEq, Repr

/-- A ramp history record (R33). -/
structure RampHistory where
  period : Nat
  stamp : Option DateTime
  state : RampState
  plan : Option PlanRef
  origin : Option Origin
  merge : Option Nat
  arrivals : Option Nat
  departures : Nat
  queueEnd : Option Nat
  queueEstimate : Nat
  localRate : Option Int
  queueRate : Option Nat
  lowLimit : Option Nat
  highLimit : Option Nat
  desiredRate : Option Nat
  floor : Option Nat
  finalRate : Option Nat
  greens : List Nat
  flags : HistoryFlags
  deriving DecidableEq, Repr

/-- A corridor history record (R34). -/
structure CorridorHistory where
  period : Nat
  bottleneck : Option Nat
  allowance : Nat
  sumDesired : Option Nat
  excess : Option Int
  heldCount : Nat
  allowanceHeld : Bool
  coordinationSuspended : Bool
  allowanceNotMet : Bool
  deriving DecidableEq, Repr

/-- What the Measurement Unit holds for a ramp (R29, R30, R32, R36). -/
structure RampMeasure where
  results : Option RampResults
  mergeData : Bool
  arrivalsData : Bool
  queueEndData : Bool
  queueEstimate : Nat
  history : List RampHistory
  deriving DecidableEq, Repr

/-- The Bottleneck Occupancy of a close, with its test seen mark (R29). -/
structure Bottleneck where
  occupancy : Option Nat
  testSeen : Bool
  deriving DecidableEq, Repr

/-- What the Measurement Unit holds for the corridor (R29, R32, R36). -/
structure CorridorMeasure where
  bottleneck : Option Bottleneck
  bottleneckData : Bool
  history : List CorridorHistory
  deriving DecidableEq, Repr

/-! ### Rate Computation Unit (chapter 3) -/

/-- The Close Results of a ramp (R63). -/
structure CloseResults where
  localRate : Int
  queueRate : Option Nat
  minSlot : Nat
  timingCap : Nat
  lowLimit : Nat
  highLimit : Nat
  desiredRate : Nat
  floor : Nat
  margin : Nat
  finalRate : Nat
  slotInterval : Nat
  protectionActive : Bool
  protectionLimited : Bool
  rateClamped : Bool
  fallback : Bool
  deriving DecidableEq, Repr

/-- What the Rate Computation Unit holds for a ramp (R40). -/
structure RampRate where
  previousClose : Option Nat
  lastFinal : Option Nat
  close : Option CloseResults
  protection : Bool
  deriving DecidableEq, Repr

/-- The Corridor Results of a close (R40, R56): the sum of desired rates and the excess where coordination applied. -/
structure CorridorResults where
  coordination : Option (Nat × Int)
  deriving DecidableEq, Repr

/-- What the Rate Computation Unit holds for the corridor (R40). -/
structure CorridorRate where
  allowance : Nat
  heldCount : Nat
  results : Option CorridorResults
  allowanceHeld : Bool
  suspended : Bool
  notMet : Bool
  deriving DecidableEq, Repr

/-! ### Release Sequencer (chapter 6) -/

/-- The state of a lane (R102), with the Red Elapsed or the Green Remaining in samples. -/
inductive LaneState where
  | dark
  | restGreen
  | red (elapsed : Nat)
  | green (remaining : Nat)
  deriving DecidableEq, Repr

/-- A timing: slot interval and Green Time in ds, Vehicles Per Green (R115). -/
structure Timing where
  slotInterval : Nat
  greenTime : Nat
  vehiclesPerGreen : Nat
  deriving DecidableEq, Repr

/-- The advance-warning sign (R103). `elapsed` counts the samples of the running half. -/
inductive Sign where
  | off
  | flashing (on : Bool) (elapsed : Nat)
  deriving DecidableEq, Repr

/-- A Release Sequencer (table at the head of chapter 6). Timers hold the samples that remain; `none` is stopped. -/
structure Sequencer where
  state : RampState
  stopping : Bool
  lanes : Tab 2 LaneState
  slotTimer : Option Nat
  heldSlot : Bool
  lastLane : Option LaneNo
  timing : Option Timing
  pendingTiming : Option Timing
  lastVehicles : Nat
  redMinimum : Option Nat
  laneCount : Nat
  pendingCount : Option Nat
  warningTimer : Option Nat
  clearanceTimer : Option Nat
  sign : Sign
  greens : Tab 2 Nat
  supplyHold : Bool
  checkIn : Tab 2 (Option CheckIn)
  deriving DecidableEq, Repr

/-! ### Lamp Driver and Aspect Monitor (chapter 7) -/

/-- A commanded aspect (R126). -/
inductive Aspect where
  | none | red | green
  deriving DecidableEq, Repr

/-- A sensed aspect (R127). -/
inductive Sensed where
  | none | red | green | both
  deriving DecidableEq, Repr

/-- A qualification run and its reported mark (R128). -/
structure Qualification where
  run : Nat
  reported : Bool
  deriving DecidableEq, Repr

/-- The monitor's items of one lane. `sampled` is the aspect commanded at the latest sense sample, `none` before the first sample
after a COLD or WARM restart (R139, R140). -/
structure LaneMonitor where
  sensed : Sensed
  sampled : Option Aspect
  conflict : Qualification
  strayGreen : Qualification
  redOut : Qualification
  greenOut : Qualification
  deriving DecidableEq, Repr

/-- The rank of an incident (R129). -/
inductive Rank where
  | high | low
  deriving DecidableEq, Repr

/-- An incident that qualified at the latest sample and is not yet taken, with the aspects of that sample (log 7). -/
structure Qualified where
  ramp : Ramp
  lane : LaneNo
  kind : IncidentKind
  commanded : Aspect
  sensed : Sensed
  deriving DecidableEq, Repr

/-- The incident record when it holds an incident (R131). -/
structure IncidentRec where
  kind : IncidentKind
  rank : Rank
  ramp : Ramp
  lane : LaneNo
  stamp : Option DateTime
  commanded : Aspect
  sensed : Sensed
  later : Nat
  deriving DecidableEq, Repr

/-! ### Authority Arbiter and panel (chapter 8) -/

/-- The authority records: index 0 is the corridor, 1 to 6 the ramps (R141). -/
structure Arbiter where
  holders : Tab 7 (Option Port)
  defaults : Tab 7 (Option Port)
  deriving DecidableEq, Repr

/-- What a press of a panel button is (R152): none in progress, one to be judged, or one ignored to its end. -/
inductive Press where
  | none | judged | ignored
  deriving DecidableEq, Repr

/-- A panel button (R152, R157). `latest` is `none` before the first sample after a restart. -/
structure Button where
  latest : Option Bool
  press : Press
  run : Nat
  holdReported : Bool
  shortDue : Bool
  holdDue : Bool
  deriving DecidableEq, Repr

/-! ### Supply Monitor and Retained Store (chapter 10) -/

/-- Whether the part runs, is held at reset by its reset line, or is without main supply (R174, R175). -/
inductive Power where
  | running | heldAtReset | unpowered
  deriving DecidableEq, Repr

/-- The restart kinds (R175). -/
inductive RestartKind where
  | coldPower | coldLine | warm | supply
  deriving DecidableEq, Repr

/-- The Supply Monitor. `sampled` is the level of the latest sample, `input` the level last acted on (log 8). -/
structure Supply where
  power : Power
  resetLine : Bool
  input : Bool
  sampled : Bool
  cause : RestartKind
  storeFoundValid : Bool
  warmDue : Bool
  deriving DecidableEq, Repr

/-- The retained store (R171). `phase` is the sub-second phase in samples. -/
structure Retained where
  valid : Bool
  clock : DateTime
  clockValid : Bool
  phase : Nat
  hold : Tab 6 Bool
  faultDark : Tab 6 Bool
  wasMetering : Tab 6 Bool
  incident : Option IncidentRec
  deriving DecidableEq, Repr

/-! ### Answers (chapter 11) -/

/-- The status codes of R194. -/
inductive Status where
  | done | damaged | busy | badRequest | badValue | notHeld | heldElsewhere | notOnPort | locked | empty | rampActive
  | conditionPresent
  deriving DecidableEq, Repr

/-- An entry of a list as RAMP_STATUS shows it (R73). -/
inductive ListEntry where
  | hold
  | fallback (n : PlanRef)
  | command (a : Action) (o : Originator)
  | schedule (a : Action)
  deriving DecidableEq, Repr

/-- A lane as RAMP_STATUS shows it: its state with the Red Elapsed or Green Remaining in ds (R124). -/
inductive LaneShown where
  | dark
  | restGreen
  | red (elapsedDs : Nat)
  | green (remainingDs : Nat)
  deriving DecidableEq, Repr

/-- The lamps of a lane as RAMP_STATUS shows them: for each incident condition, whether it holds and its run (R139). -/
structure LampShown where
  commanded : Aspect
  sensed : Sensed
  conflict : Bool × Nat
  strayGreen : Bool × Nat
  redOut : Bool × Nat
  greenOut : Bool × Nat
  deriving DecidableEq, Repr

/-- The lane, slot and timing items of RAMP_STATUS, absent for an UNCONFIGURED ramp (R124). -/
structure SequencerShown where
  lanes : Tab 2 LaneShown
  slotTimerDs : Option Nat
  heldSlot : Bool
  lastLane : Option LaneNo
  timing : Option Timing
  pendingTiming : Option Timing
  redMinimum : Option Nat
  warningSeconds : Option Nat
  clearanceSeconds : Option Nat
  greens : Tab 2 Nat
  lastVehicles : Nat
  deriving DecidableEq, Repr

/-- The content of a RAMP_STATUS answer (R29, R63, R73, R124, R139). -/
structure RampStatus where
  state : RampState
  stopping : Bool
  signFlashing : Bool
  laneCount : Nat
  pendingCount : Option Nat
  sequencer : Option SequencerShown
  supplyHold : Bool
  wasMetering : Bool
  faultDark : Bool
  holdFlag : Bool
  list : List ListEntry
  demanded : Option PlanRef
  results : Option RampResults
  queueEstimate : Nat
  close : Option CloseResults
  previousClose : Option Nat
  lastFinal : Option Nat
  lamps : Tab 2 LampShown
  deriving DecidableEq, Repr

/-- The content of a CORRIDOR_STATUS answer (R21, R29, R63). -/
structure CorridorStatus where
  period : Nat
  elapsedSeconds : Nat
  bottleneck : Option Bottleneck
  allowance : Nat
  heldCount : Nat
  allowanceHeld : Bool
  suspended : Bool
  notMet : Bool
  applied : Bool
  sumDesired : Option Nat
  excess : Option Int
  deriving DecidableEq, Repr

/-- Whether an identity is the stored one, a last identity, or unknown (R18). -/
inductive IdentityShown where
  | stored | lastIdentity | unknown
  deriving DecidableEq, Repr

/-- The supervision part of a LOOP answer (R18). -/
structure LoopShown where
  state : LoopState
  identity : IdentityShown
  stuckOn : Bool
  chatter : Bool
  silence : Bool
  testRemainingDs : Nat
  onSamples : Nat
  count : Nat
  notOkSeen : Bool
  rewritten : Bool
  testSeen : Bool
  last : Option LastPeriod
  deriving DecidableEq, Repr

/-- One port in an AUTHORITY answer (R150). -/
structure PortAuthority where
  silent : Bool
  silenceSeconds : Nat
  lapseTime : Nat
  deriving DecidableEq, Repr

/-- One button in an AUTHORITY answer (R150). -/
structure ButtonShown where
  pressed : Bool
  run : Nat
  holdReported : Bool
  deriving DecidableEq, Repr

/-- The baud rates of R182. -/
inductive Baud where
  | b9600 | b19200 | b38400 | b115200
  deriving DecidableEq, Repr

/-- A set of event classes: bit `i` is the class of place `i` in R194's order. -/
abbrev ClassSet := BitVec 12

/-- The content of a PORT answer (R186). -/
structure PortShown where
  receiving : Bool
  current : Bool
  waiting : Bool
  answers : Nat
  pending : ClassSet
  attention : Bool
  baud : Baud
  watch : Option ClassSet
  deriving DecidableEq, Repr

/-- The content of a MEMORY answer (R168). -/
structure MemoryShown where
  correctionCount : Nat
  damagedList : List RecId
  overflow : Bool
  safetyLock : Bool
  scrubPosition : RecId
  deriving DecidableEq, Repr

/-- The content of a DEVICE answer (R181). -/
structure DeviceShown where
  vendor : String
  family : String
  part : Nat
  cause : RestartKind
  storeFoundValid : Bool
  supplyAsserted : Bool
  storeValid : Bool
  deriving DecidableEq, Repr

/-- The payload of an answer: bytes where the manual gives their layout, named content where it gives none (R185, log 19). -/
inductive Payload where
  | empty
  | bytes (bs : List Byte)
  | rampStatus (v : RampStatus)
  | corridorStatus (v : CorridorStatus)
  | corridorHistory (v : CorridorHistory)
  | loop (stored : List Byte) (v : LoopShown)
  | safety (stored : List Byte) (locked : Bool)
  | clock (v : DateTime) (weekday : Nat) (valid : Bool)
  | authority (holders defaults : Tab 7 (Option Port)) (ports : Tab 3 PortAuthority) (buttons : Tab 6 ButtonShown)
  | incident (v : Option IncidentRec)
  | memory (v : MemoryShown)
  | port (v : PortShown)
  | device (v : DeviceShown)
  deriving DecidableEq, Repr

/-- What the end of an answer means for the port (R184): the end of the Current Request, of an accepted WARM_RESTART, or of a
BUSY answer. -/
inductive AnswerRole where
  | current | warmRestart | busy
  deriving DecidableEq, Repr

/-- A composed answer (R184): request kind with its highest bit set, status, index, payload. -/
structure Answer where
  kind : Byte
  status : Status
  index : Byte
  payload : Payload
  role : AnswerRole
  deriving DecidableEq, Repr

/-! ### Link ports and Event Router (chapter 11) -/

/-- The receiver of a port (R182): its state, its Frame Buffer, and the samples since the last byte. -/
inductive Receiver where
  | hunting
  | receiving (buffer : List Byte) (idle : Nat)
  deriving DecidableEq, Repr

/-- A link port with its silence items of chapter 8. `silencePart` is the part second of the Silence Timer in samples; `spared`, the
model's own mark, holds back the lapse of the sender of a WRITE until the timer's next count (log 40). -/
structure LinkPort where
  receiver : Receiver
  current : Option Req
  waiting : Option Req
  answers : List Answer
  pending : ClassSet
  baud : Baud
  silent : Bool
  silenceSeconds : Nat
  silencePart : Nat
  lapseTime : Nat
  spared : Bool
  deriving DecidableEq, Repr

/-- The Event Router: routes and edge selections in force (R188), and the service port's Watch Set (R191). -/
structure Router where
  routes : Routes
  edges : Edges
  watch : ClassSet
  deriving DecidableEq, Repr

/-! ### The machine -/

/-- The state of the part. -/
structure State where
  pending : List Instr
  supply : Supply
  retained : Retained
  memory : ConfigMemory
  loops : Tab 48 Loop
  timer : PeriodTimer
  measure : Tab 6 RampMeasure
  corridorMeasure : CorridorMeasure
  rates : Tab 6 RampRate
  corridorRate : CorridorRate
  lists : Tab 6 PlanList
  sequencers : Tab 6 Sequencer
  lamps : Tab 6 (Tab 2 LaneMonitor)
  qualified : List Qualified
  arbiter : Arbiter
  buttons : Tab 6 Button
  ports : Tab 3 LinkPort
  router : Router
  deriving DecidableEq, Repr

/-- No condition of the manual stops the part, so there is no fault (INVENTORY, "Faults"). -/
inductive Fault where
  deriving DecidableEq, Repr

/-- The reasons a command has no meaning. -/
inductive Refusal where
  /-- A command whose meaning is not modelled, by its mnemonic. Raised by an arm of `exec` alone; no arm raises it now. Safe. -/
  | notModelled (mnemonic : String)
  deriving DecidableEq, Repr

/-! ### Delivered values and reset -/

/-- A loop record as delivered (R1). -/
def LoopRec.delivered : LoopRec :=
  { ident := { role := .unused, ramp := none, lane := none }, stuckOnTime := 240, silenceTime := 20, chatterLimit := 8 }

/-- The built-in safety table (R166). -/
def SafetyRec.builtin : SafetyRec :=
  { redMinimum := 20, greenMinimum := 10, greenMaximum := 40, rateFloor := 240, rateCeiling := 1800, safeRate := 900 }

/-- The routes as delivered and built in (R165). -/
def Routes.builtin : Routes :=
  { loopFault := .both, stationData := .both, rampState := .both, fallback := .both, incident := .both, allowance := .both,
    queue := .both, memory := .both, schedule := .both, restart := .both, period := .none }

/-- The edge selections as delivered and built in (R165). -/
def Edges.builtin : Edges :=
  { loopFault := .entry, stationData := .entry, fallback := .entry, allowance := .entry, queue := .entry }

/-- The built-in corridor defaults (R165). -/
def CorridorRec.builtin : CorridorRec :=
  { laneCount := Tab.replicate 6 0, warnTime := 30, clearanceTime := 60, allowanceGain := 0, bottleneckTarget := 200,
    allowanceMinimum := 0, allowanceMaximum := 20000, startAllowance := 20000, coordinationEnable := false,
    restartPolicy := .stayOff, defaultHolder := Tab.replicate 7 (some .centre), lapseTime := ⟨[120, 30, 600], rfl⟩,
    routes := Routes.builtin, edges := Edges.builtin }

/-- The corridor settings as delivered: they differ from the built-in ones only in the Restart Policy (R165). -/
def CorridorRec.delivered : CorridorRec := { CorridorRec.builtin with restartPolicy := .resumePrior }

/-- A record that is GOOD and not marked (R158). -/
def Health.sound : Health := { check := .good, damagedMark := false }

/-- Configuration memory as delivered, after a COLD restart (R158, R170). -/
def ConfigMemory.delivered : ConfigMemory :=
  { loops := Tab.replicate 48 LoopRec.delivered, plans := Tab.replicate 32 none, schedule := Tab.replicate 48 none,
    shifts := Tab.replicate 2 none, safety := SafetyRec.builtin, corridor := CorridorRec.delivered,
    health := Tab.replicate 132 Health.sound, damagedList := [], overflow := false, correctionCount := 0,
    safetyLock := false, scrubPosition := .loop 0 }

/-- A loop started afresh with an identity and a state (R19). -/
def Loop.afresh (st : LoopState) (ident : Option Identity) : Loop :=
  { state := st, ident := ident, stuckOn := false, chatter := false, silence := false, stuckRun := 0, clearRun := 0,
    silenceRun := 0, edges := 0, quietRun := 0, presence := none, testActive := false, testTimer := 0, onSamples := 0,
    count := 0, notOkSeen := false, rewritten := false, testSeen := false, last := none }

/-- 2000-01-01 00:00:00 (R99, R172). -/
def DateTime.epoch : DateTime := { year := 0, month := 1, day := 1, hour := 0, minute := 0, second := 0 }

/-- The retained store as the Supply Monitor initialises it, its validity mark then set (R172). -/
def Retained.initial : Retained :=
  { valid := true, clock := DateTime.epoch, clockValid := false, phase := 0, hold := Tab.replicate 6 false,
    faultDark := Tab.replicate 6 false, wasMetering := Tab.replicate 6 false, incident := none }

/-- The period timer at a COLD or WARM restart (R38, R162). -/
def PeriodTimer.start : PeriodTimer := { samples := 0, number := 0, secondDue := false, scrubCount := 0 }

/-- A ramp's measurements at a COLD or WARM restart (R38). -/
def RampMeasure.start : RampMeasure :=
  { results := none, mergeData := true, arrivalsData := true, queueEndData := true, queueEstimate := 0, history := [] }

/-- The corridor's measurements at a COLD or WARM restart (R38). -/
def CorridorMeasure.start : CorridorMeasure := { bottleneck := none, bottleneckData := true, history := [] }

/-- A ramp's rates at a COLD or WARM restart (R64). -/
def RampRate.start : RampRate := { previousClose := none, lastFinal := none, close := none, protection := false }

/-- The corridor's rate items at a COLD or WARM restart, from the Start Allowance (R64). -/
def CorridorRate.start (startAllowance : Nat) : CorridorRate :=
  { allowance := startAllowance, heldCount := 0, results := none, allowanceHeld := false, suspended := false,
    notMet := false }

/-- A sequencer in its start state at a COLD or WARM restart (R125). -/
def Sequencer.start (st : RampState) (laneCount : Nat) : Sequencer :=
  { state := st, stopping := false, lanes := Tab.replicate 2 .dark, slotTimer := none, heldSlot := false, lastLane := none,
    timing := none, pendingTiming := none, lastVehicles := 1, redMinimum := none, laneCount := laneCount,
    pendingCount := none, warningTimer := none, clearanceTimer := none, sign := .off, greens := Tab.replicate 2 0,
    supplyHold := false, checkIn := Tab.replicate 2 none }

/-- No run, no mark (R140). -/
def Qualification.clear : Qualification := { run := 0, reported := false }

/-- A lane's monitor started afresh with a sensed aspect, no condition yet judged (R140). -/
def LaneMonitor.afresh (sensed : Sensed) : LaneMonitor :=
  { sensed := sensed, sampled := none, conflict := .clear, strayGreen := .clear, redOut := .clear, greenOut := .clear }

/-- A panel button at a COLD or WARM restart (R157). -/
def Button.start : Button :=
  { latest := none, press := .none, run := 0, holdReported := false, shortDue := false, holdDue := false }

/-- A port at a COLD or WARM restart, with its baud rate and Lapse Time (R156, R193). -/
def LinkPort.start (baud : Baud) (lapse : Nat) : LinkPort :=
  { receiver := .hunting, current := none, waiting := none, answers := [], pending := 0, baud := baud, silent := false,
    silenceSeconds := 0, silencePart := 0, lapseTime := lapse, spared := false }

/-- The class set that holds RESTART alone (R194: its place is 10). -/
def ClassSet.restartOnly : ClassSet := 0x400

/-- The part right after the COLD_POWER restart of a part as delivered, whose retained store was found INVALID (log 5).
The delivered policy RESUME_PRIOR with every was-metering flag clear places COMMAND OFF (RESTART) on every list (R177), and
RESTART is pending at the two ports of its delivered route BOTH (R179). -/
def State.reset : State :=
  { pending := []
    supply := { power := .running, resetLine := false, input := false, sampled := false, cause := .coldPower,
                storeFoundValid := false, warmDue := false }
    retained := Retained.initial
    memory := ConfigMemory.delivered
    loops := Tab.replicate 48 (Loop.afresh .unused (some LoopRec.delivered.ident))
    timer := PeriodTimer.start
    measure := Tab.replicate 6 RampMeasure.start
    corridorMeasure := CorridorMeasure.start
    rates := Tab.replicate 6 RampRate.start
    corridorRate := CorridorRate.start 20000
    lists := Tab.replicate 6 { hold := false, fallback := none, command := some (.off, .restart), schedule := none }
    sequencers := Tab.replicate 6 (Sequencer.start .unconfigured 0)
    lamps := Tab.replicate 6 (Tab.replicate 2 (LaneMonitor.afresh .none))
    qualified := []
    arbiter := { holders := Tab.replicate 7 (some .centre), defaults := Tab.replicate 7 (some .centre) }
    buttons := Tab.replicate 6 Button.start
    ports := ⟨[{ LinkPort.start .b9600 120 with pending := ClassSet.restartOnly },
               { LinkPort.start .b9600 30 with pending := ClassSet.restartOnly },
               LinkPort.start .b9600 600], rfl⟩
    router := { routes := Routes.builtin, edges := Edges.builtin, watch := 0 } }

end Sys2Proof.Machine
end

