-- ==== Sys2Proof/Machine/Ops.lean ====
section
/-! DEFINITION. The one home of every register: reading and replacing an item of the state by its number. All other files read
and write the tables of the state through these. -/

namespace Sys2Proof.Machine

/-- All ramps, ascending. -/
def ramps : List Ramp := [0, 1, 2, 3, 4, 5]
/-- Both lanes of a ramp. -/
def laneNos : List LaneNo := [0, 1]
/-- All loops, ascending. -/
def loopNos : List LoopNo := List.finRange 48
/-- The three ports. -/
def ports3 : List Port := [.centre, .cabinet, .service]

/-- A port's place in the tables: centre, cabinet, service. -/
def portIdx : Port → Fin 3
  | .centre => 0
  | .cabinet => 1
  | .service => 2

namespace State

/-- Apply `f` for each element of a list in turn. -/
def each {α : Type} (xs : List α) (f : α → State → State) (s : State) : State := xs.foldl (fun s x => f x s) s

/-- The part is running: neither held at reset nor unpowered (R174, R175). -/
abbrev running (s : State) : Prop := s.supply.power = .running

/-- A change that only a running part makes; held at reset or unpowered it stays as it is (R175, log 10). -/
def whenRunning (f : State → State) (s : State) : State := if s.running then f s else s

/-- The link port `p`. -/
def port (s : State) (p : Port) : LinkPort := s.ports.get (portIdx p)
/-- Replace the link port `p`. -/
def setPort (p : Port) (x : LinkPort) (s : State) : State := { s with ports := s.ports.set (portIdx p) x }
/-- Change the link port `p`. -/
def modPort (p : Port) (f : LinkPort → LinkPort) (s : State) : State := s.setPort p (f (s.port p))

/-- The Release Sequencer of ramp `r`. -/
def seq (s : State) (r : Ramp) : Sequencer := s.sequencers.get r
/-- Replace the sequencer of ramp `r`. -/
def setSeq (r : Ramp) (q : Sequencer) (s : State) : State := { s with sequencers := s.sequencers.set r q }
/-- Change the sequencer of ramp `r`. -/
def modSeq (r : Ramp) (f : Sequencer → Sequencer) (s : State) : State := s.setSeq r (f (s.seq r))

/-- The plan selection list of ramp `r`. -/
def planList (s : State) (r : Ramp) : PlanList := s.lists.get r
/-- Replace the plan selection list of ramp `r`. -/
def setList (r : Ramp) (l : PlanList) (s : State) : State := { s with lists := s.lists.set r l }

/-- The supervision state of loop `i`. -/
def loop (s : State) (i : LoopNo) : Loop := s.loops.get i
/-- Replace the supervision state of loop `i`. -/
def setLoop (i : LoopNo) (l : Loop) (s : State) : State := { s with loops := s.loops.set i l }

/-- The measurements of ramp `r`. -/
def meas (s : State) (r : Ramp) : RampMeasure := s.measure.get r
/-- Replace the measurements of ramp `r`. -/
def setMeas (r : Ramp) (m : RampMeasure) (s : State) : State := { s with measure := s.measure.set r m }

/-- The rates of ramp `r`. -/
def rate (s : State) (r : Ramp) : RampRate := s.rates.get r
/-- Replace the rates of ramp `r`. -/
def setRate (r : Ramp) (m : RampRate) (s : State) : State := { s with rates := s.rates.set r m }

/-- The monitor of one lane. -/
def lamp (s : State) (r : Ramp) (ln : LaneNo) : LaneMonitor := (s.lamps.get r).get ln
/-- Replace the monitor of one lane. -/
def setLamp (r : Ramp) (ln : LaneNo) (m : LaneMonitor) (s : State) : State :=
  { s with lamps := s.lamps.set r ((s.lamps.get r).set ln m) }

/-- The panel button of ramp `r`. -/
def button (s : State) (r : Ramp) : Button := s.buttons.get r
/-- Replace the panel button of ramp `r`. -/
def setButton (r : Ramp) (b : Button) (s : State) : State := { s with buttons := s.buttons.set r b }

/-- Replace the retained hold flag of ramp `r` (R171). -/
def setHoldFlag (r : Ramp) (b : Bool) (s : State) : State :=
  { s with retained := { s.retained with hold := s.retained.hold.set r b } }
/-- Replace the retained fault-dark flag of ramp `r` (R171). -/
def setFaultDark (r : Ramp) (b : Bool) (s : State) : State :=
  { s with retained := { s.retained with faultDark := s.retained.faultDark.set r b } }
/-- Replace the retained was-metering flag of ramp `r` (R171). -/
def setWasMetering (r : Ramp) (b : Bool) (s : State) : State :=
  { s with retained := { s.retained with wasMetering := s.retained.wasMetering.set r b } }

/-- The Holder of an authority record: 0 the corridor, 1 to 6 the ramps (R141). -/
def holder (s : State) (i : Fin 7) : Option Port := s.arbiter.holders.get i
/-- Replace the Holder of an authority record. -/
def setHolder (i : Fin 7) (h : Option Port) (s : State) : State :=
  { s with arbiter := { s.arbiter with holders := s.arbiter.holders.set i h } }

/-- The Clock Stamp: the clock as it stands, absent while it is invalid (R33, R87, R131). -/
def stamp (s : State) : Option DateTime := if s.retained.clockValid then some s.retained.clock else none

end State
end Sys2Proof.Machine
end

