-- ==== Sys2Proof/Machine/Flags.lean ====
section
/-! DEFINITION. Event classes, class sets and the delivery of events (R188, R189), and the flags of a history record (R194). -/

namespace Sys2Proof.Machine

/-- The place of a class in R194's order. -/
def EventClass.place : EventClass → Nat
  | .loopFault => 0
  | .stationData => 1
  | .rampState => 2
  | .fallback => 3
  | .authority => 4
  | .incident => 5
  | .allowance => 6
  | .queue => 7
  | .memory => 8
  | .schedule => 9
  | .restart => 10
  | .period => 11

/-- A class is in a class set. -/
def classIn (c : EventClass) (cs : ClassSet) : Bool := cs.getLsbD c.place

/-- A class set with a class added; a class already present stays present once (R189). -/
def addClass (c : EventClass) (cs : ClassSet) : ClassSet := cs ||| BitVec.twoPow 12 c.place

/-- The two bytes of a class set (R194). -/
def classBytes (cs : ClassSet) : List Byte := [(cs.setWidth 16).extractLsb' 8 8, (cs.setWidth 16).extractLsb' 0 8]

/-- The route of a class; AUTHORITY has none, it goes to the losing port alone (R149, R188). -/
def Routes.of (r : Routes) : EventClass → Route
  | .loopFault => r.loopFault
  | .stationData => r.stationData
  | .rampState => r.rampState
  | .fallback => r.fallback
  | .authority => .none
  | .incident => r.incident
  | .allowance => r.allowance
  | .queue => r.queue
  | .memory => r.memory
  | .schedule => r.schedule
  | .restart => r.restart
  | .period => r.period

namespace State

/-- Delivery of a class to one port (R189). -/
def deliver (c : EventClass) (p : Port) (s : State) : State :=
  s.modPort p fun x => { x with pending := addClass c x.pending }

/-- Whether an event of class `c` is delivered to port `p` (R188): by route, by centre failover, by the Watch Set. -/
def delivers (s : State) (c : EventClass) : Port → Bool
  | .centre => s.router.routes.of c = .centre || s.router.routes.of c = .both
  | .cabinet =>
    s.router.routes.of c = .cabinet || s.router.routes.of c = .both
      || (s.router.routes.of c = .centre && (s.port .centre).silent)
  | .service => classIn c s.router.watch

/-- An event of class `c` other than AUTHORITY is raised and delivered at once (R188). -/
def raise (c : EventClass) (s : State) : State :=
  s.each ports3 fun p t => if s.delivers c p then t.deliver c p else t

/-- Raise when a condition holds. -/
def raiseIf (b : Bool) (c : EventClass) (s : State) : State := if b then s.raise c else s

/-- The attention line of a port: asserted while its Pending Set is non-empty (R189). -/
def attention (s : State) (p : Port) : Bool := (s.port p).pending != 0

end State

/-- The eight flags of a ramp history record, lowest bit first (R194). -/
def HistoryFlags.byte (f : HistoryFlags) : Byte :=
  BitVec.ofBoolListLE [f.noMergeData, f.queueHeld, f.substituted, f.protectionActive, f.protectionLimited, f.rateClamped,
    f.fallback, f.testSeen]

end Sys2Proof.Machine
end

