-- ==== Sys2Proof/Machine/Operands.lean ====
section
/-! DEFINITION. Operand forms: the numbers of requests and the payload encodings of the stored records and of RAMP_HISTORY
(R194), with the ranges of R1, R66, R89, R92, R165 and R166. A payload that names a value outside its range decodes to
`none`, which its WRITE answers with BAD_VALUE. -/

namespace Sys2Proof.Machine

/-- The object numbered `b` from 1 to `n`, as an index from 0. -/
def indexOf (n : Nat) (b : Nat) : Option (Fin n) := if h : 1 ≤ b ∧ b ≤ n then some ⟨b - 1, by omega⟩ else none

/-- The ramp an index byte names (R194). -/
def rampOf (b : Byte) : Option Ramp := indexOf 6 b.toNat

/-- The authority record an index byte names, 0 to 6 (R141). -/
def recordOf (b : Byte) : Option (Fin 7) := if h : b.toNat < 7 then some ⟨b.toNat, h⟩ else none

/-- The authority record of a ramp (R141). -/
def rampRecord (r : Ramp) : Fin 7 := ⟨r.val + 1, by omega⟩

/-- The corridor record (R141). -/
def corridorRecord : Fin 7 := 0

/-- A value in its range, or nothing. -/
def between (lo hi n : Nat) : Option Nat := if lo ≤ n ∧ n ≤ hi then some n else none

/-- The number of an object indexed from 0, as a byte. -/
def numberByte {n : Nat} (i : Fin n) : Byte := BitVec.ofNat 8 (i.val + 1)

/-- A number as one byte. -/
def byte1 (n : Nat) : Byte := BitVec.ofNat 8 n

/-- A number as two bytes, high byte first (R194). -/
def bytes2 (n : Nat) : List Byte := [BitVec.ofNat 8 (n / 256), BitVec.ofNat 8 n]

/-- The byte at an offset of the fields. -/
def byteAt (bs : List Byte) (i : Nat) : Nat := (bs.getD i 0).toNat

/-- The two-byte number at an offset of the fields, high byte first (R194). -/
def wordAt (bs : List Byte) (i : Nat) : Nat := byteAt bs i * 256 + byteAt bs (i + 1)

/-- An absent Ramp or Lane, OFF, and an Applied Year of none (R194). -/
abbrev absentByte : Nat := 0xFF

/-! ### LOOP (R1) -/

def Role.code : Role → Nat
  | .unused => 0
  | .merge => 1
  | .bottleneck => 2
  | .demand => 3
  | .checkin => 4
  | .passage => 5
  | .queueEnd => 6

def Role.ofCode : Nat → Option Role
  | 0 => some .unused
  | 1 => some .merge
  | 2 => some .bottleneck
  | 3 => some .demand
  | 4 => some .checkin
  | 5 => some .passage
  | 6 => some .queueEnd
  | _ => none

/-- A number that may be absent: 0xFF is absent, any other value must decode (R194). -/
def optionally {α : Type} (f : Nat → Option α) (n : Nat) : Option (Option α) :=
  if n = absentByte then some none else (f n).map some

/-- The fields of a loop record, each in the range of R1. -/
def decodeLoop (bs : List Byte) : Option LoopRec := do
  let role ← Role.ofCode (byteAt bs 0)
  let ramp ← optionally (indexOf 6) (byteAt bs 1)
  let lane ← optionally (between 1 5) (byteAt bs 2)
  let stuckOnTime ← between 30 900 (wordAt bs 3)
  let silenceTime ← between 1 60 (byteAt bs 5)
  let chatterLimit ← between 4 20 (byteAt bs 6)
  return { ident := { role, ramp, lane }, stuckOnTime, silenceTime, chatterLimit }

def encodeLoop (x : LoopRec) : List Byte :=
  [byte1 x.ident.role.code, (x.ident.ramp.map numberByte).getD 0xFF, (x.ident.lane.map byte1).getD 0xFF]
    ++ bytes2 x.stuckOnTime ++ [byte1 x.silenceTime, byte1 x.chatterLimit]

/-- A metered lane's number (R2). -/
def meteredLane : Option Nat → Bool
  | some n => 1 ≤ n && n ≤ 2
  | none => false

/-- A mainline lane's number (R2). -/
def mainlineLane : Option Nat → Bool
  | some n => 1 ≤ n && n ≤ 5
  | none => false

/-- The table of R2: which of Ramp and Lane each Role carries. -/
def Identity.wellFormed (x : Identity) : Bool :=
  match x.role with
  | .unused => x.ramp.isNone && x.lane.isNone
  | .merge => x.ramp.isSome && mainlineLane x.lane
  | .bottleneck => x.ramp.isNone && mainlineLane x.lane
  | .demand => x.ramp.isSome && x.lane.isNone
  | .checkin => x.ramp.isSome && meteredLane x.lane
  | .passage => x.ramp.isSome && meteredLane x.lane
  | .queueEnd => x.ramp.isSome && x.lane.isNone

/-! ### PLAN (R66, PLAN payload of R194) -/

/-- A plan number 0 to 32. -/
def PlanRef.ofNumber (n : Nat) : Option PlanRef := if n = 0 then some .builtin else (indexOf 32 n).map .slot

/-- The number of a plan (§6.3). -/
def PlanRef.number : PlanRef → Nat
  | .builtin => 0
  | .slot k => k.val + 1

def Mode.ofCode : Nat → Option Mode
  | 0 => some .feedback
  | 1 => some .fixed
  | _ => none

def Mode.code : Mode → Nat
  | .feedback => 0
  | .fixed => 1

/-- 0 no, 1 yes. -/
def yesOfCode : Nat → Option Bool
  | 0 => some false
  | 1 => some true
  | _ => none

/-- The fields of a plan record, each in the range of R66. -/
def decodePlan (bs : List Byte) : Option Plan := do
  let mode ← Mode.ofCode (byteAt bs 0)
  let coordinated ← yesOfCode (byteAt bs 1)
  let targetOccupancy ← between 20 600 (wordAt bs 2)
  let feedbackGain ← between 0 4095 (wordAt bs 4)
  let fixedRate ← between 120 3600 (wordAt bs 6)
  let startRate ← between 120 3600 (wordAt bs 8)
  let rateMinimum ← between 120 3600 (wordAt bs 10)
  let rateMaximum ← between 120 3600 (wordAt bs 12)
  let vehiclesPerGreen ← between 1 2 (byteAt bs 14)
  let greenTime ← between 10 60 (byteAt bs 15)
  let queueKeep ← between 0 250 (byteAt bs 16)
  let queueStorage ← between 1 250 (byteAt bs 17)
  let queueEndThreshold ← between 50 1000 (wordAt bs 18)
  let flushPeriods ← between 1 20 (byteAt bs 20)
  let fallbackPlan ← PlanRef.ofNumber (byteAt bs 21)
  return { mode, coordinated, targetOccupancy, feedbackGain, fixedRate, startRate, rateMinimum, rateMaximum,
           vehiclesPerGreen, greenTime, queueKeep, queueStorage, queueEndThreshold, flushPeriods, fallbackPlan }

def encodePlan (x : Plan) : List Byte :=
  [byte1 x.mode.code, byte1 x.coordinated.toNat] ++ bytes2 x.targetOccupancy ++ bytes2 x.feedbackGain
    ++ bytes2 x.fixedRate ++ bytes2 x.startRate ++ bytes2 x.rateMinimum ++ bytes2 x.rateMaximum
    ++ [byte1 x.vehiclesPerGreen, byte1 x.greenTime, byte1 x.queueKeep, byte1 x.queueStorage]
    ++ bytes2 x.queueEndThreshold ++ [byte1 x.flushPeriods, byte1 x.fallbackPlan.number]

/-! ### SCHEDULE (R92) -/

/-- A plan number 1 to 32, or 0xFF for OFF (R194). -/
def Action.ofCode (n : Nat) : Option Action := if n = absentByte then some .off else (indexOf 32 n).map .plan

def Action.code : Action → Byte
  | .off => 0xFF
  | .plan k => numberByte k

/-- A mask of `w` bits in a byte: no member and a bit above the mask are refused (R92, R194). -/
def maskOf (w : Nat) (n : Nat) : Option (BitVec w) := if 0 < n ∧ n < 2 ^ w then some (BitVec.ofNat w n) else none

/-- The fields of a schedule entry, each in the range of R92. -/
def decodeSchedule (bs : List Byte) : Option ScheduleRec := do
  let dayMask ← maskOf 7 (byteAt bs 0)
  let hour ← between 0 23 (byteAt bs 1)
  let minute ← between 0 59 (byteAt bs 2)
  let rampMask ← maskOf 6 (byteAt bs 3)
  let action ← Action.ofCode (byteAt bs 4)
  return { dayMask, hour, minute, rampMask, action }

def encodeSchedule (x : ScheduleRec) : List Byte :=
  [x.dayMask.setWidth 8, byte1 x.hour, byte1 x.minute, x.rampMask.setWidth 8, x.action.code]

/-! ### SHIFT (R89) -/

def Week.ofCode (n : Nat) : Option Week := if n = 5 then some .last else (between 1 4 n).map .nth

def Week.code : Week → Nat
  | .nth n => n
  | .last => 5

def Direction.ofCode : Nat → Option Direction
  | 0 => some .forward
  | 1 => some .back
  | _ => none

def Direction.code : Direction → Nat
  | .forward => 0
  | .back => 1

/-- The fields of a clock-shift record, each in the range of R89. -/
def decodeShift (bs : List Byte) : Option ShiftRec := do
  let month ← between 1 12 (byteAt bs 0)
  let week ← Week.ofCode (byteAt bs 1)
  let weekday ← between 1 7 (byteAt bs 2)
  let hour ← between 1 22 (byteAt bs 3)
  let direction ← Direction.ofCode (byteAt bs 4)
  let appliedYear ← optionally (between 0 99) (byteAt bs 5)
  return { month, week, weekday, hour, direction, appliedYear }

def encodeShift (x : ShiftRec) : List Byte :=
  [byte1 x.month, byte1 x.week.code, byte1 x.weekday, byte1 x.hour, byte1 x.direction.code,
    (x.appliedYear.map byte1).getD 0xFF]

/-! ### SAFETY (R166) -/

/-- The fields of the safety table, each in the range of R166. -/
def decodeSafety (bs : List Byte) : Option SafetyRec := do
  let redMinimum ← between 15 50 (byteAt bs 0)
  let greenMinimum ← between 10 30 (byteAt bs 1)
  let greenMaximum ← between 10 60 (byteAt bs 2)
  let rateFloor ← between 120 900 (wordAt bs 3)
  let rateCeiling ← between 600 3600 (wordAt bs 5)
  let safeRate ← between 240 1800 (wordAt bs 7)
  return { redMinimum, greenMinimum, greenMaximum, rateFloor, rateCeiling, safeRate }

def encodeSafety (x : SafetyRec) : List Byte :=
  [byte1 x.redMinimum, byte1 x.greenMinimum, byte1 x.greenMaximum] ++ bytes2 x.rateFloor ++ bytes2 x.rateCeiling
    ++ bytes2 x.safeRate

/-! ### CORRIDOR_SETTINGS (R165) -/

/-- Every entry of a table decodes, or nothing does. -/
def tabAll {n : Nat} {α : Type} [Inhabited α] (f : Fin n → Option α) : Option (Tab n α) :=
  if (List.finRange n).all (fun i => (f i).isSome) then some (Tab.ofFn fun i => (f i).getD default) else none

/-- A Holder byte 0 to 3 (R194). -/
def holderByte : Option Port → Byte
  | none => 0
  | some .centre => 1
  | some .cabinet => 2
  | some .service => 3

/-- A Default Holder: NONE, CENTRE or CABINET; SERVICE is not a value of the field (R141). -/
def defaultHolderOf : Nat → Option (Option Port)
  | 0 => some none
  | 1 => some (some .centre)
  | 2 => some (some .cabinet)
  | _ => none

def Route.ofCode : Nat → Option Route
  | 0 => some .none
  | 1 => some .centre
  | 2 => some .cabinet
  | 3 => some .both
  | _ => Option.none

def Route.code : Route → Nat
  | .none => 0
  | .centre => 1
  | .cabinet => 2
  | .both => 3

def Edge.ofCode : Nat → Option Edge
  | 0 => some .entry
  | 1 => some .both
  | _ => none

def Edge.code : Edge → Nat
  | .entry => 0
  | .both => 1

def RestartPolicy.ofCode : Nat → Option RestartPolicy
  | 0 => some .resumeSchedule
  | 1 => some .resumePrior
  | 2 => some .stayOff
  | _ => none

def RestartPolicy.code : RestartPolicy → Nat
  | .resumeSchedule => 0
  | .resumePrior => 1
  | .stayOff => 2

/-- Coordination Enable stands in R165's list as "on, off", so on carries 0 and off 1 (R194). -/
def onOfCode : Nat → Option Bool
  | 0 => some true
  | 1 => some false
  | _ => none

/-- The eleven routes in class order, AUTHORITY omitted (R194). -/
def decodeRoutes (bs : List Byte) (i : Nat) : Option Routes := do
  let loopFault ← Route.ofCode (byteAt bs i)
  let stationData ← Route.ofCode (byteAt bs (i + 1))
  let rampState ← Route.ofCode (byteAt bs (i + 2))
  let fallback ← Route.ofCode (byteAt bs (i + 3))
  let incident ← Route.ofCode (byteAt bs (i + 4))
  let allowance ← Route.ofCode (byteAt bs (i + 5))
  let queue ← Route.ofCode (byteAt bs (i + 6))
  let memory ← Route.ofCode (byteAt bs (i + 7))
  let schedule ← Route.ofCode (byteAt bs (i + 8))
  let restart ← Route.ofCode (byteAt bs (i + 9))
  let period ← Route.ofCode (byteAt bs (i + 10))
  return { loopFault, stationData, rampState, fallback, incident, allowance, queue, memory, schedule, restart, period }

def encodeRoutes (x : Routes) : List Byte :=
  ([x.loopFault, x.stationData, x.rampState, x.fallback, x.incident, x.allowance, x.queue, x.memory, x.schedule, x.restart,
    x.period]).map fun r => byte1 r.code

/-- The five edge selections in class order (R194: "the edge selections follow it for their five classes"). -/
def decodeEdges (bs : List Byte) (i : Nat) : Option Edges := do
  let loopFault ← Edge.ofCode (byteAt bs i)
  let stationData ← Edge.ofCode (byteAt bs (i + 1))
  let fallback ← Edge.ofCode (byteAt bs (i + 2))
  let allowance ← Edge.ofCode (byteAt bs (i + 3))
  let queue ← Edge.ofCode (byteAt bs (i + 4))
  return { loopFault, stationData, fallback, allowance, queue }

def encodeEdges (x : Edges) : List Byte :=
  ([x.loopFault, x.stationData, x.fallback, x.allowance, x.queue]).map fun e => byte1 e.code

/-- The fields of the corridor settings, each in the range of R165. -/
def decodeCorridor (bs : List Byte) : Option CorridorRec := do
  let laneCount ← tabAll fun r : Fin 6 => between 0 2 (byteAt bs r.val)
  let warnTime ← between 10 120 (byteAt bs 6)
  let clearanceTime ← between 15 300 (wordAt bs 7)
  let allowanceGain ← between 0 4095 (wordAt bs 9)
  let bottleneckTarget ← between 20 600 (wordAt bs 11)
  let allowanceMinimum ← between 0 20000 (wordAt bs 13)
  let allowanceMaximum ← between 0 20000 (wordAt bs 15)
  let startAllowance ← between 0 20000 (wordAt bs 17)
  let coordinationEnable ← onOfCode (byteAt bs 19)
  let restartPolicy ← RestartPolicy.ofCode (byteAt bs 20)
  let defaultHolder ← tabAll fun i : Fin 7 => defaultHolderOf (byteAt bs (21 + i.val))
  let lapseTime ← tabAll fun p : Fin 3 => between 10 3600 (wordAt bs (28 + 2 * p.val))
  let routes ← decodeRoutes bs 34
  let edges ← decodeEdges bs 45
  return { laneCount, warnTime, clearanceTime, allowanceGain, bottleneckTarget, allowanceMinimum, allowanceMaximum,
           startAllowance, coordinationEnable, restartPolicy, defaultHolder, lapseTime, routes, edges }

def encodeCorridor (x : CorridorRec) : List Byte :=
  x.laneCount.list.map byte1 ++ [byte1 x.warnTime] ++ bytes2 x.clearanceTime ++ bytes2 x.allowanceGain
    ++ bytes2 x.bottleneckTarget ++ bytes2 x.allowanceMinimum ++ bytes2 x.allowanceMaximum ++ bytes2 x.startAllowance
    ++ [byte1 (!x.coordinationEnable).toNat, byte1 x.restartPolicy.code] ++ x.defaultHolder.list.map holderByte
    ++ x.lapseTime.list.flatMap bytes2 ++ encodeRoutes x.routes ++ encodeEdges x.edges

/-! ### READ answers -/

/-- The slot byte 0x00 and the fields of a record; the slot byte 0x01 alone for an empty slot (R194). -/
def recordPayload {α : Type} (encode : α → List Byte) : Option α → List Byte
  | some x => 0x00 :: encode x
  | none => [0x01]

/-- Year less 2000, month, day, hour, minute, second (R194). -/
def encodeDateTime (t : DateTime) : List Byte :=
  [byte1 t.year, byte1 t.month, byte1 t.day, byte1 t.hour, byte1 t.minute, byte1 t.second]

/-- A two-byte field, 0xFFFF where it is absent or no data (R194). -/
def optional2 : Option Nat → List Byte
  | some n => bytes2 n
  | none => [0xFF, 0xFF]

/-- Four bytes, high byte first. -/
def bytes4 (w : BitVec 32) : List Byte :=
  [w.extractLsb' 24 8, w.extractLsb' 16 8, w.extractLsb' 8 8, w.extractLsb' 0 8]

def RampState.code : RampState → Nat
  | .unconfigured => 0
  | .off => 1
  | .warning => 2
  | .metering => 3
  | .ending => 4
  | .darkFault => 5

def Origin.code : Origin → Nat
  | .hold => 0
  | .fallback => 1
  | .command => 2
  | .schedule => 3

/-- The RAMP_HISTORY payload of R194, 41 bytes. -/
def encodeHistory (h : RampHistory) : List Byte :=
  bytes2 h.period
    ++ (match h.stamp with | some t => encodeDateTime t | none => List.replicate 6 0xFF)
    ++ [byte1 h.state.code, (h.plan.map fun p => byte1 p.number).getD 0xFF, (h.origin.map fun o => byte1 o.code).getD 0xFF]
    ++ optional2 h.merge ++ optional2 h.arrivals ++ bytes2 h.departures ++ optional2 h.queueEnd
    ++ [byte1 h.queueEstimate]
    ++ bytes4 ((h.localRate.map (BitVec.ofInt 32)).getD 0x80000000#32)
    ++ bytes4 ((h.queueRate.map (BitVec.ofNat 32)).getD 0xFFFFFFFF#32)
    ++ optional2 h.lowLimit ++ optional2 h.highLimit ++ optional2 h.desiredRate ++ optional2 h.floor ++ optional2 h.finalRate
    ++ [byte1 (h.greens.getD 0 0), (h.greens[1]?.map byte1).getD 0xFF]
    ++ [h.flags.byte]

/-! ### Answer frames (R182, R184, R194) -/

/-- The status code (R194, last table of codes). -/
def Status.code : Status → Byte
  | .done => 0x00
  | .damaged => 0x01
  | .busy => 0x02
  | .badRequest => 0x03
  | .badValue => 0x04
  | .notHeld => 0x05
  | .heldElsewhere => 0x06
  | .notOnPort => 0x07
  | .locked => 0x08
  | .empty => 0x09
  | .rampActive => 0x0A
  | .conditionPresent => 0x0B

/-- The bytes of a payload. `layout` lays out the content of the kinds whose byte layout the manual does not give (R185, log 19);
the bytes of a stored record stand before it. -/
def Payload.encode (layout : Payload → List Byte) : Payload → List Byte
  | .empty => []
  | .bytes bs => bs
  | .loop stored v => stored ++ layout (.loop stored v)
  | .safety stored locked => stored ++ layout (.safety stored locked)
  | x => layout x

/-- The frame of an answer, of the same form as a request's: the request kind with its highest bit set, the status code, the index
as received, the payload (R182, R184, R194). -/
def Answer.frame (layout : Payload → List Byte) (a : Answer) : List Byte :=
  frameOf (a.kind :: a.status.code :: a.index :: a.payload.encode layout)

end Sys2Proof.Machine
end

