-- ==== Sys2Proof/Machine/Memory.lean ====
section
/-! DEFINITION. Configuration memory (chapter 9): the use of a stored record, its correction and discovery, storing a record,
and the values a damaged record is replaced by. -/

namespace Sys2Proof.Machine

/-- The turn of a record in the scrub, from 0 (R162). -/
def RecId.turn : RecId → Fin 132
  | .loop i => ⟨i.val, by omega⟩
  | .plan i => ⟨48 + i.val, by omega⟩
  | .schedule i => ⟨80 + i.val, by omega⟩
  | .shift i => ⟨128 + i.val, by omega⟩
  | .safety => 130
  | .corridorSettings => 131

/-- The next identifier in the scrub's order, LOOP 1 after CORRIDOR_SETTINGS (R162). -/
def RecId.next : RecId → RecId
  | .loop i => if h : i.val + 1 < 48 then .loop ⟨i.val + 1, h⟩ else .plan 0
  | .plan i => if h : i.val + 1 < 32 then .plan ⟨i.val + 1, h⟩ else .schedule 0
  | .schedule i => if h : i.val + 1 < 48 then .schedule ⟨i.val + 1, h⟩ else .shift 0
  | .shift i => if h : i.val + 1 < 2 then .shift ⟨i.val + 1, h⟩ else .safety
  | .safety => .corridorSettings
  | .corridorSettings => .loop 0

/-- The record holds content: a plan, schedule or shift slot may be empty (R158). -/
def ConfigMemory.holds (m : ConfigMemory) : RecId → Bool
  | .plan i => (m.plans.get i).isSome
  | .schedule i => (m.schedule.get i).isSome
  | .shift i => (m.shifts.get i).isSome
  | _ => true

/-- One error more on a check state (R163). -/
def Check.worse : Check → Check
  | .good => .oneError
  | .oneError => .twoErrors
  | .twoErrors => .twoErrors

namespace State

/-- The check state and Damaged Mark of a record. -/
def health (s : State) (id : RecId) : Health := s.memory.health.get (RecId.turn id)

/-- Replace the check state and Damaged Mark of a record. -/
def setHealth (id : RecId) (h : Health) (s : State) : State :=
  { s with memory := { s.memory with health := s.memory.health.set (RecId.turn id) h } }

/-- The record is damaged: it has two errors (R159). An empty slot has no check state and is not damaged (R158). -/
def damaged (s : State) (id : RecId) : Bool := s.memory.holds id && (s.health id).check = .twoErrors

/-- A single error is corrected and the Correction Count increased (R159). -/
def correct (id : RecId) (s : State) : State :=
  let s := s.setHealth id { s.health id with check := .good }
  { s with memory := { s.memory with correctionCount := min Config.correctionMax (s.memory.correctionCount + 1) } }

/-- The discovery of a damaged record: its mark is set, it is listed or sets Overflow, and MEMORY is raised (R160). -/
def discover (id : RecId) (s : State) : State :=
  let s := s.setHealth id { s.health id with damagedMark := true }
  let m := s.memory
  let s := if m.damagedList.length < Config.damagedCapacity
    then { s with memory := { m with damagedList := m.damagedList ++ [id] } }
    else { s with memory := { m with overflow := true } }
  s.raise .memory

/-- A use of a stored record (R159, R160). After it the record is GOOD or damaged; a read of an empty slot does nothing. -/
def useRecord (id : RecId) (s : State) : State :=
  if s.memory.holds id then
    match (s.health id).check with
    | .good => s
    | .oneError => s.correct id
    | .twoErrors => if (s.health id).damagedMark then s else s.discover id
  else s

/-- The record is stored anew or its slot emptied: GOOD, its mark cleared, off the Damaged List (R161). -/
def storedAnew (id : RecId) (s : State) : State :=
  let s := s.setHealth id Health.sound
  { s with memory := { s.memory with damagedList := s.memory.damagedList.filter (· ≠ id) } }

/-- An error of the field or of INSERT_ERROR on a record that holds content (R158, R163). -/
def addError (id : RecId) (s : State) : State :=
  if s.memory.holds id then s.setHealth id { s.health id with check := (s.health id).check.worse } else s

/-! ### What a use hands over; each is read after `useRecord` -/

/-- The plan record of a slot, where it is present and readable (R66). -/
def readablePlan (s : State) (k : PlanSlot) : Option Plan := if s.damaged (.plan k) then none else s.memory.plans.get k

/-- The schedule entry of a slot, where it is present and readable (R93). -/
def readableSchedule (s : State) (i : ScheduleSlot) : Option ScheduleRec :=
  if s.damaged (.schedule i) then none else s.memory.schedule.get i

/-- The shift record of a slot, where it is present and readable (R90). -/
def readableShift (s : State) (i : ShiftSlot) : Option ShiftRec :=
  if s.damaged (.shift i) then none else s.memory.shifts.get i

/-- The safety table in use: the built-in values while the record is damaged (R164, R166). -/
def safetyInUse (s : State) : SafetyRec := if s.damaged .safety then SafetyRec.builtin else s.memory.safety

/-- The corridor settings in use: the built-in defaults while the record is damaged (R164, R165). -/
def corridorInUse (s : State) : CorridorRec :=
  if s.damaged .corridorSettings then CorridorRec.builtin else s.memory.corridor

/-! ### Storing contents -/

def setLoopRec (i : LoopNo) (x : LoopRec) (s : State) : State :=
  { s with memory := { s.memory with loops := s.memory.loops.set i x } }
def setPlan (k : PlanSlot) (x : Option Plan) (s : State) : State :=
  { s with memory := { s.memory with plans := s.memory.plans.set k x } }
def setScheduleRec (i : ScheduleSlot) (x : Option ScheduleRec) (s : State) : State :=
  { s with memory := { s.memory with schedule := s.memory.schedule.set i x } }
def setShift (i : ShiftSlot) (x : Option ShiftRec) (s : State) : State :=
  { s with memory := { s.memory with shifts := s.memory.shifts.set i x } }
def setSafety (x : SafetyRec) (s : State) : State := { s with memory := { s.memory with safety := x } }
def setCorridor (x : CorridorRec) (s : State) : State := { s with memory := { s.memory with corridor := x } }

end State

/-- Plan 0, reckoned from the safety table in use (R70). -/
def planZero (t : SafetyRec) : Plan :=
  { mode := .fixed, coordinated := false, targetOccupancy := 200, feedbackGain := 0, fixedRate := t.safeRate,
    startRate := t.safeRate, rateMinimum := t.rateFloor, rateMaximum := t.rateCeiling, vehiclesPerGreen := 1,
    greenTime := t.greenMinimum, queueKeep := 250, queueStorage := 250, queueEndThreshold := 1000, flushPeriods := 1,
    fallbackPlan := .builtin }

end Sys2Proof.Machine
end

