-- ==== Sys2Proof/Machine/Lists.lean ====
section
/-! DEFINITION. Plan selection lists: the governing entry, the demanded plan and the immediate fallback test (4.4). -/

namespace Sys2Proof.Machine

/-- The governing entry of a list with what a change of it compares: its origin and its plan number or OFF (R72, R73). -/
inductive Governing where
  | hold
  | command (a : Action)
  | schedule (a : Action)
  deriving DecidableEq, Repr

namespace PlanList

/-- The topmost entry that is not a FALLBACK entry (R72). -/
def governing (l : PlanList) : Option Governing :=
  if l.hold then some .hold
  else match l.command, l.schedule with
    | some (a, _), _ => some (.command a)
    | none, some a => some (.schedule a)
    | none, none => none

/-- The plan of the governing entry, where that is a plan entry (R72). -/
def governingPlan (l : PlanList) : Option PlanSlot :=
  match l.governing with
  | some (.command (.plan k)) => some k
  | some (.schedule (.plan k)) => some k
  | _ => none

/-- The entries from top to bottom (R72). -/
def entries (l : PlanList) : List ListEntry :=
  (if l.hold then [.hold] else [])
    ++ (l.fallback.map ListEntry.fallback).toList
    ++ (l.command.map fun c => ListEntry.command c.1 c.2).toList
    ++ (l.schedule.map ListEntry.schedule).toList

/-- The demanded plan that an entry at the top gives (R73). -/
def entryDemand : ListEntry → Option PlanRef
  | .hold => none
  | .fallback n => some n
  | .command (.plan k) _ => some (.slot k)
  | .command .off _ => none
  | .schedule (.plan k) => some (.slot k)
  | .schedule .off => none

/-- The demanded plan of a list, `none` for off (R73). -/
def demanded (l : PlanList) : Option PlanRef := l.entries.head?.bind entryDemand

/-- The origin of an entry (R72). -/
def entryOrigin : ListEntry → Origin
  | .hold => .hold
  | .fallback _ => .fallback
  | .command _ _ => .command
  | .schedule _ => .schedule

/-- The origin of the top entry, `none` for an empty list (R33). -/
def topOrigin (l : PlanList) : Option Origin := l.entries.head?.map entryOrigin

/-- The order of R72: a FALLBACK entry stands only directly above a plan entry. -/
def ordered (l : PlanList) : Bool := l.fallback.isNone || l.governingPlan.isSome

end PlanList

namespace State

/-- A FALLBACK entry carrying `n` is placed, or a standing one is set to carry `n`; a placement raises FALLBACK at once
(R74, R82). -/
def placeFallback (r : Ramp) (n : PlanRef) (s : State) : State :=
  let l := s.planList r
  (s.setList r { l with fallback := some n }).raiseIf l.fallback.isNone .fallback

/-- Any FALLBACK entry is removed; under BOTH a removal raises FALLBACK at once (R74, R82). -/
def removeFallback (r : Ramp) (s : State) : State :=
  let l := s.planList r
  (s.setList r { l with fallback := none }).raiseIf (l.fallback.isSome && s.router.edges.fallback = .both) .fallback

/-- The immediate fallback test of a list (R74). -/
def fallbackTest (r : Ramp) (s : State) : State :=
  match (s.planList r).governingPlan with
  | none => s.removeFallback r
  | some k =>
    let s := s.useRecord (.plan k)
    if (s.readablePlan k).isSome then s.removeFallback r else s.placeFallback r .builtin

end State
end Sys2Proof.Machine
end

