-- ==== Sys2Proof/Machine/Arbiter.lean ====
section
/-! DEFINITION. Authority records, port silence, and the values that the Arbiter and the Event Router take at each read of the
corridor settings (8.1 to 8.3, R188). -/

namespace Sys2Proof.Machine

/-- The seven authority records (R141). -/
def recordNos : List (Fin 7) := [0, 1, 2, 3, 4, 5, 6]

/-- The order of priority of the ports: SERVICE, CABINET, CENTRE (R142). -/
def priority : Port → Nat
  | .centre => 1
  | .cabinet => 2
  | .service => 3

namespace State

/-- Who receives record `i` when port `p` gives it up: its Default Holder in force, or NONE where that is NONE, `p` itself, or a
SILENT port (R144, R146). -/
def successor (s : State) (p : Port) (i : Fin 7) : Option Port :=
  match s.arbiter.defaults.get i with
  | none => none
  | some d => if d = p || (s.port d).silent then none else some d

/-- Port `p` gives record `i` up when it holds it (R146). -/
def giveUp (p : Port) (i : Fin 7) (s : State) : State :=
  if s.holder i = some p then s.setHolder i (s.successor p i) else s

/-- Port `p` becomes SILENT, gives up every record it holds, and receives AUTHORITY where it held one (R146, R149). -/
def becomeSilent (p : Port) (s : State) : State :=
  let lost := recordNos.any fun i => s.holder i = some p
  let s := s.modPort p fun x => { x with silent := true }
  let s := s.each recordNos (giveUp p)
  if lost then s.deliver .authority p else s

/-- Port `p` takes its Lapse Time in force; one that its Silence Timer has already reached makes an ACTIVE port SILENT at once, but not
the sender of the WRITE that brought it, `spare` (R146). Such a sender stays ACTIVE until its timer's next count, the model's choice
(log 40). -/
def takeLapse (spare : Bool) (lapse : Nat) (p : Port) (s : State) : State :=
  let old := s.port p
  let reached := decide (old.lapseTime ≠ lapse) && !old.silent && decide (lapse ≤ old.silenceSeconds)
  let s := s.modPort p fun x => { x with lapseTime := lapse, spared := x.spared || spare && reached }
  if !spare && reached then s.becomeSilent p else s

/-- The Event Router and the Arbiter take their values in force from the corridor settings (R141, R146, R188); `sender` is the port
whose WRITE brings them, none for a read. Ports whose Silence Timers have all reached their new Lapse Times become SILENT in the order
centre, cabinet, service, the model's choice (log 34). -/
def handCorridor (sender : Option Port) (cs : CorridorRec) (s : State) : State :=
  let s := { s with router := { s.router with routes := cs.routes, edges := cs.edges } }
  let s := { s with arbiter := { s.arbiter with defaults := cs.defaultHolder } }
  s.each ports3 fun p t => t.takeLapse (sender = some p) (cs.lapseTime.get (portIdx p)) p

/-- The read of the corridor settings by any use: Router and Arbiter take its values, then a correction or a discovery is made
(R159, R162, log 12). The Lane Count reports of the same read are `reports`. -/
def takeCorridor (s : State) : State := (s.handCorridor none s.corridorInUse).useRecord .corridorSettings

/-- The records that a port returning to ACTIVE regains: those that hold NONE and whose default it is (R147). -/
def regain (p : Port) (i : Fin 7) (s : State) : State :=
  if s.holder i = none ∧ s.arbiter.defaults.get i = some p then s.setHolder i (some p) else s

end State
end Sys2Proof.Machine
end

