-- ==== Sys2Proof/Machine/Timing.lean ====
section
/-! DEFINITION. The timing and the limits of a rate: Green Time in force, minimum slot interval, timing cap, limits and slot
interval (3.7, R59). -/

namespace Sys2Proof.Machine

/-- `x` clamped to [lo, hi], `hi` prevailing (§6.2). -/
def clampNat (lo hi x : Nat) : Nat := min hi (max lo x)

/-- An integer clamped to [lo, hi] of rates, `hi` prevailing (§6.2). -/
def clampInt (lo hi : Nat) (x : Int) : Nat := clampNat lo hi x.toNat

/-- The Green Time in force; the Green Maximum bounds both where the two bounds disagree (R49). -/
def greenInForce (t : SafetyRec) (p : Plan) : Nat := clampNat t.greenMinimum t.greenMaximum p.greenTime

/-- The minimum slot interval, ds (R50). -/
def minSlotInterval (lanes green red : Nat) : Nat := if lanes = 2 then max green ((green + red + 1) / 2) else green + red

/-- The timing cap, veh/h (R50). -/
def timingCap (vehicles minSlot : Nat) : Nat := 36000 * vehicles / minSlot

/-- The timing in force and the limits of a ramp (R49 to R51). -/
structure Limits where
  green : Nat
  vehicles : Nat
  minSlot : Nat
  cap : Nat
  low : Nat
  high : Nat
  deriving DecidableEq, Repr

/-- R49 to R51, for a plan run under a safety table on a ramp of `lanes` lanes. -/
def limitsOf (t : SafetyRec) (p : Plan) (lanes : Nat) : Limits :=
  let green := greenInForce t p
  let minSlot := minSlotInterval lanes green t.redMinimum
  let cap := timingCap p.vehiclesPerGreen minSlot
  let high := min p.rateMaximum (min t.rateCeiling cap)
  let low := min (max p.rateMinimum t.rateFloor) high
  { green, vehicles := p.vehiclesPerGreen, minSlot, cap, low, high }

/-- The slot interval of a rate, ds, rounded half up (R59). -/
def slotIntervalOf (vehicles rate : Nat) : Nat := (72000 * vehicles + rate) / (2 * rate)

/-- The timing handed with a rate (R59). -/
def timingOf (lim : Limits) (rate : Nat) : Timing :=
  { slotInterval := slotIntervalOf lim.vehicles rate, greenTime := lim.green, vehiclesPerGreen := lim.vehicles }

end Sys2Proof.Machine
end

