-- ==== Sys2Proof/Machine/Sequencer.lean ====
section
/-! DEFINITION. The Release Sequencers (chapter 6): ramp states, lanes and the sign, the Lane Count, following the demanded plan,
forced changes of state, slots. Start and change timings (R60, R80) are reckoned here too, and the change of a list with its
hand-over to the sequencer (R73). -/

namespace Sys2Proof.Machine

/-- The commanded aspect of a lane state (R126). -/
def LaneState.aspect : LaneState → Aspect
  | .dark => .none
  | .restGreen => .green
  | .red _ => .red
  | .green _ => .green

def LaneState.isGreen : LaneState → Bool
  | .green _ => true
  | _ => false

/-- The four runs of a lane at 0 and its four reported marks clear; what its latest sense sample found stays (R128). -/
def LaneMonitor.runsCleared (m : LaneMonitor) : LaneMonitor :=
  { m with conflict := .clear, strayGreen := .clear, redOut := .clear, greenOut := .clear }

namespace Sequencer

/-- The lane's number lies within the Lane Count In Force. -/
def inForce (q : Sequencer) (ln : LaneNo) : Bool := ln.val < q.laneCount

/-- Some lane of the ramp is GREEN. -/
def anyGreen (q : Sequencer) : Bool := laneNos.any fun ln => (q.lanes.get ln).isGreen

/-- The check-in condition gives the lane demand (R16, R117). -/
def hasDemand (q : Sequencer) (ln : LaneNo) : Bool :=
  match q.checkIn.get ln with
  | some .present => true
  | some .unsupervised => true
  | _ => false

/-- The lane is RED and its Red Elapsed is at least the Red Minimum In Force (R117). -/
def redServed (q : Sequencer) (ln : LaneNo) : Bool :=
  match q.lanes.get ln, q.redMinimum with
  | .red e, some m => m * Config.samplesPerDs ≤ e
  | _, _ => false

/-- The lane is eligible for a slot (R117). -/
def eligible (q : Sequencer) (ln : LaneNo) : Bool :=
  q.inForce ln && q.redServed ln && q.hasDemand ln && !q.anyGreen && !q.stopping

/-- The rotation, from the lane after the Last Lane Given (R117). -/
def rotation (q : Sequencer) : List LaneNo :=
  match q.lastLane with
  | some 0 => [1, 0]
  | _ => [0, 1]

/-- The next eligible lane in rotation (R117). -/
def nextLane (q : Sequencer) : Option LaneNo := q.rotation.find? q.eligible

/-- All timers stopped, the sign off, slots, timings and the Stopping mark discarded (R111, R112, R125). -/
def discard (q : Sequencer) : Sequencer :=
  { q with stopping := false, slotTimer := none, heldSlot := false, lastLane := none, timing := none, pendingTiming := none,
           warningTimer := none, clearanceTimer := none, sign := .off }

/-- A timing set in force; its Vehicles Per Green is kept as the Last Vehicles Per Green (R115). -/
def setTiming (q : Sequencer) (t : Timing) : Sequencer := { q with timing := some t, lastVehicles := t.vehiclesPerGreen }

end Sequencer

namespace State

/-- A lane state is handed to the Lamp Driver; a change of commanded aspect restarts the lane's runs and marks (R102, R128). -/
def handLane (r : Ramp) (ln : LaneNo) (st : LaneState) (s : State) : State :=
  let old := ((s.seq r).lanes.get ln).aspect
  let s := s.modSeq r fun q => { q with lanes := q.lanes.set ln st }
  if old = st.aspect then s else s.setLamp r ln (s.lamp r ln).runsCleared

/-- Every lane of the Lane Count In Force takes a state; a lane above it is DARK (R102). -/
def handLanes (r : Ramp) (st : LaneState) (s : State) : State :=
  s.each laneNos fun ln t => t.handLane r ln (if (t.seq r).inForce ln then st else .dark)

/-- Every lane DARK (R102). -/
def darkLanes (r : Ramp) (s : State) : State := s.each laneNos fun ln t => t.handLane r ln .dark

/-- A change of ramp state: was-metering is written unless the Supply Hold is set, the runs of an UNCONFIGURED ramp stand at 0,
and RAMP_STATE is raised (R122, R123, R128). -/
def setRampState (r : Ramp) (st : RampState) (s : State) : State :=
  let s := s.modSeq r fun q => { q with state := st }
  let s := if (s.seq r).supplyHold then s else s.setWasMetering r (st = .warning || st = .metering)
  let s := if st = .unconfigured then s.each laneNos fun ln t => t.setLamp r ln (t.lamp r ln).runsCleared
    else s
  s.raise .rampState

/-- The ramp goes dark to OFF or to DARK_FAULT: lanes DARK, a running green cut, all else discarded (R106, R110 to R113). -/
def goDark (r : Ramp) (st : RampState) (s : State) : State :=
  ((s.darkLanes r).modSeq r Sequencer.discard).setRampState r st

/-- The demanded plan as the sequencer takes it: off while a Pending Lane Count stands (R104). -/
def demandSeen (s : State) (r : Ramp) : Option PlanRef :=
  if (s.seq r).pendingCount.isSome then none else (s.planList r).demanded

/-- A ramp in OFF goes to WARNING: a plan is demanded, the Supply Hold is clear and no Pending Lane Count stands (R105). -/
def warns (s : State) (r : Ramp) : Bool :=
  (s.seq r).state = .off && !(s.seq r).supplyHold && (s.demandSeen r).isSome

/-- Entry into WARNING with the Warn Time of the corridor settings in use (R105, R103, R42). -/
def warningEntry (r : Ramp) (s : State) : State :=
  let warn := s.corridorInUse.warnTime * Config.samplesPerSecond
  let s := s.handLanes r .restGreen
  let s := s.modSeq r fun q => { q with sign := .flashing true 0, warningTimer := some warn }
  let s := s.setRate r { s.rate r with previousClose := none }
  s.setRampState r .warning

/-- Entry into ENDING with the Clearance Time of the corridor settings in use (R110). -/
def endingEntry (r : Ramp) (s : State) : State :=
  let clearance := s.corridorInUse.clearanceTime * Config.samplesPerSecond
  let s := s.handLanes r .restGreen
  let s := s.modSeq r fun q => { q.discard with clearanceTimer := some clearance }
  s.setRampState r .ending

/-- What follows at OFF before the demanded plan: a Pending Lane Count comes into force, and 0 takes the ramp on to UNCONFIGURED
(R104). -/
def offSettled (r : Ramp) (s : State) : State :=
  let q := s.seq r
  let s := match q.pendingCount with
    | some n => s.setSeq r { q with laneCount := n, pendingCount := none }
    | none => s
  if (s.seq r).laneCount = 0 then s.setRampState r .unconfigured else s

/-- The ramp, arrived at OFF within a read of the corridor settings, follows its demanded plan. -/
def offFollowed (r : Ramp) (s : State) : State := if s.warns r then s.warningEntry r else s

/-- The Lane Count report of ramp `r`, from the corridor settings in use (R104; R173 for the Supply Hold). -/
def report (r : Ramp) (s : State) : State :=
  let n := s.corridorInUse.laneCount.get r
  let q := s.seq r
  match q.state with
  | .off =>
    let s := s.setSeq r { q with laneCount := n, pendingCount := none }
    if n = 0 then s.setRampState r .unconfigured else s
  | .darkFault => s.setSeq r { q with laneCount := n, pendingCount := none }
  | .unconfigured =>
    if n = 0 then s
    else
      let s := s.setSeq r { q with laneCount := n, pendingCount := none, supplyHold := q.supplyHold || s.supply.input }
      (s.setRampState r .off).offFollowed r
  | .warning =>
    if n = q.laneCount then s.setSeq r { q with pendingCount := none }
    else (((s.setSeq r { q with pendingCount := some n }).goDark r .off).offSettled r).offFollowed r
  | .metering =>
    if n = q.laneCount then s.setSeq r { q with pendingCount := none }
    else if q.anyGreen then s.setSeq r { q with pendingCount := some n, stopping := true }
    else (s.setSeq r { q with pendingCount := some n }).endingEntry r
  | .ending => s.setSeq r { q with pendingCount := if n = q.laneCount then none else some n }

/-- The Lane Count reports of one read or write of the corridor settings (R104). -/
def reports (s : State) : State := s.each ramps report

/-- A use of the corridor settings with all it hands over (R104, R141, R162, R188). -/
def useCorridor (s : State) : State := s.takeCorridor.reports

/-- Entry into WARNING: the read, the entry, then the Lane Count reports of that read (R104, R105, log 13). -/
def enterWarning (r : Ramp) (s : State) : State := ((s.takeCorridor).warningEntry r).reports

/-- Entry into ENDING: the read, the entry, then the Lane Count reports of that read (R104, R110, log 13). -/
def enterEnding (r : Ramp) (s : State) : State := ((s.takeCorridor).endingEntry r).reports

/-- What every entry into OFF goes on to (R104, R105, R114). -/
def reachOff (r : Ramp) (s : State) : State :=
  let s := s.offSettled r
  if s.warns r then s.enterWarning r else s

/-! ### Start and change timings -/

/-- The read of the plan of the top entry for a start or change timing, with the fallback test where it is absent or damaged
(R60, R74, R80). `none` is plan 0. -/
def readTopPlan (r : Ramp) (s : State) : State × Option Plan :=
  match (s.planList r).demanded with
  | some (.slot k) =>
    let s := s.useRecord (.plan k)
    match s.readablePlan k with
    | some p => (s, some p)
    | none =>
      let l := s.planList r
      if l.fallback.isSome then (s.setList r { l with fallback := some .builtin }, none) else (s.fallbackTest r, none)
  | _ => (s, none)

/-- The Red Minimum of a safety table read for a ramp comes into force (R115). -/
def takeRedMinimum (r : Ramp) (n : Nat) (s : State) : State := s.modSeq r fun q => { q with redMinimum := some n }

/-- A timing reckoned at an instant from the top entry's plan, the safety table and the Lane Count In Force. `rate` gives the
rate before it is clamped. The Red Minimum of the table read comes into force (R60, R80, R115). -/
def reckonTiming (r : Ramp) (rate : Plan → Nat) (s : State) : State × Timing :=
  let top := s.readTopPlan r
  let s := top.1.useRecord .safety
  let t := s.safetyInUse
  let p := top.2.getD (planZero t)
  let s := (s.takeRedMinimum r t.redMinimum).takeCorridor
  let lim := limitsOf t p (s.seq r).laneCount
  (s, timingOf lim (clampNat lim.low lim.high (rate p)))

end State

/-- What entry into METERING clears; on a return from ENDING the sign starts with its on half (R107, R103). -/
def Sequencer.meteringStart (returning : Bool) (q : Sequencer) : Sequencer :=
  { q with lastLane := none, heldSlot := false, pendingTiming := none, stopping := false, warningTimer := none,
           clearanceTimer := none, sign := if returning then .flashing true 0 else q.sign }

/-- What a slot given with a timing sets besides the lane: the timing in force, the Slot Timer, the green counted, the Last Lane
Given; the Held Slot is used (R118, R121). -/
def Sequencer.slotGiven (t : Timing) (ln : LaneNo) (q : Sequencer) : Sequencer :=
  { q.setTiming t with pendingTiming := none, slotTimer := some (t.slotInterval * Config.samplesPerDs),
                       greens := q.greens.modify ln (· + 1), lastLane := some ln, heldSlot := false }

/-- The start timing is adopted and the Slot Timer starts (R107). -/
def Sequencer.startSlots (t : Timing) (q : Sequencer) : Sequencer :=
  { q.setTiming t with slotTimer := some (t.slotInterval * Config.samplesPerDs) }

namespace State

/-- Entry into METERING before its start timing: lanes RED, queue estimate 0 (R107, R30). -/
def prepareMetering (r : Ramp) (returning : Bool) (s : State) : State :=
  let s := (s.handLanes r (.red 0)).modSeq r (Sequencer.meteringStart returning)
  s.setMeas r { s.meas r with queueEstimate := 0 }

/-- The start timing: from the Last Final Rate on a return from ENDING where there is one, else from the Start Rate (R60). -/
def startTiming (r : Ramp) (returning : Bool) (s : State) : State × Timing :=
  let resumed := if returning then (s.rate r).lastFinal else none
  s.reckonTiming r fun p => resumed.getD p.startRate

/-- Entry into METERING, on expiry of the warning timer or on a return from ENDING (R107, R60, R30). -/
def enterMetering (r : Ramp) (returning : Bool) (s : State) : State :=
  let x := (s.prepareMetering r returning).startTiming r returning
  ((x.1.modSeq r (Sequencer.startSlots x.2)).setRampState r .metering).reports

/-- The change timing of a metering ramp whose demanded plan changes to a plan outside a close (R80). -/
def changeTiming (r : Ramp) (s : State) : State :=
  let resumed := (s.rate r).lastFinal
  let x := s.reckonTiming r fun p => resumed.getD p.startRate
  (x.1.modSeq r fun q => { q with pendingTiming := some x.2 }).reports

/-! ### Slots -/

/-- A slot is given to a lane (R118). -/
def giveSlot (r : Ramp) (ln : LaneNo) (s : State) : State :=
  let q := s.seq r
  match q.pendingTiming.orElse fun _ => q.timing with
  | none => s
  | some t =>
    (s.handLane r ln (.green (t.greenTime * Config.samplesPerDs))).modSeq r (Sequencer.slotGiven t ln)

/-- A due or held slot is given to the next eligible lane in rotation, or held (R116, R117). -/
def offerSlot (r : Ramp) (s : State) : State :=
  match (s.seq r).nextLane with
  | some ln => s.giveSlot r ln
  | none => s.modSeq r fun q => { q with heldSlot := true }

/-- The Held Slot is judged again (R116). -/
def judgeHeld (r : Ramp) (s : State) : State :=
  if (s.seq r).state = .metering ∧ (s.seq r).heldSlot = true then s.offerSlot r else s

/-! ### Following the demanded plan -/

/-- A change of the demanded plan reaches the sequencer (R105, R106, R108 to R110; R73). While a Pending Lane Count stands the
demand is taken as off (R104), so a METERING ramp then reckons no change timing: the model's choice (log 32). At a change of plan the
Lane Count reports of the change timing's read come before the Held Slot is judged, both after the hand-over: the model's choice
(log 41). -/
def handDemand (r : Ramp) (s : State) : State :=
  let q := s.seq r
  match q.state, s.demandSeen r with
  | .off, some _ => if s.warns r then s.enterWarning r else s
  | .warning, none => (s.goDark r .off).reachOff r
  | .metering, none => if q.anyGreen then s.setSeq r { q with stopping := true } else s.enterEnding r
  | .metering, some _ => ((s.setSeq r { q with stopping := false }).changeTiming r).judgeHeld r
  | .ending, some _ => s.enterMetering r true
  | _, _ => s

/-- A list is changed: the fallback test where the governing entry changes, then the hand-over where the demanded plan changes
(R73, R74). -/
def changeList (r : Ramp) (l : PlanList) (s : State) : State :=
  let old := s.planList r
  let s := s.setList r l
  let s := if l.governing = old.governing then s else s.fallbackTest r
  if (s.planList r).demanded = old.demanded then s else s.handDemand r

/-! ### Forced changes -/

/-- An incident report or an accepted TEST_INCIDENT (R111). -/
def darken (r : Ramp) (s : State) : State :=
  match (s.seq r).state with
  | .unconfigured => s
  | .darkFault => s
  | _ => (s.goDark r .darkFault).setFaultDark r true

/-- A ramp in WARNING, METERING or ENDING goes to OFF at once (R112, R113). -/
def forceOff (r : Ramp) (s : State) : State :=
  match (s.seq r).state with
  | .warning => (s.goDark r .off).reachOff r
  | .metering => (s.goDark r .off).reachOff r
  | .ending => (s.goDark r .off).reachOff r
  | _ => s

/-! ### The sequencer's own steps, each taken when it is due (log 3) -/

/-- WARNING_TIMER_EXPIRY: the warning timer of a ramp in WARNING has run out (R106). -/
def warningTimerExpiry (r : Ramp) (s : State) : State :=
  if (s.seq r).state = .warning ∧ (s.seq r).warningTimer = some 0 then s.enterMetering r false else s

/-- CLEARANCE_TIMER_EXPIRY: the clearance timer of a ramp in ENDING has run out; it goes to OFF (R110). -/
def clearanceTimerExpiry (r : Ramp) (s : State) : State :=
  if (s.seq r).state = .ending ∧ (s.seq r).clearanceTimer = some 0 then (s.goDark r .off).reachOff r else s

/-- SLOT_EXPIRY: the Slot Timer has run its interval; it stops and a slot is due (R116). -/
def slotExpiry (r : Ramp) (s : State) : State :=
  if (s.seq r).state = .metering ∧ (s.seq r).slotTimer = some 0 then
    (s.modSeq r fun q => { q with slotTimer := none }).offerSlot r
  else s

/-- GREEN_END: a lane's Green Remaining has run down (R119). -/
def greenEnd (r : Ramp) (ln : LaneNo) (s : State) : State :=
  if (s.seq r).state = .metering ∧ (s.seq r).lanes.get ln = .green 0 then
    let s := s.handLane r ln (.red 0)
    if (s.seq r).stopping then s.enterEnding r else s.judgeHeld r
  else s

/-- RED_MINIMUM_REACHED: a RED lane has served the Red Minimum In Force, and a Held Slot is judged again (R116). -/
def redMinimumReached (r : Ramp) (ln : LaneNo) (s : State) : State :=
  if (s.seq r).redServed ln then s.judgeHeld r else s

/-- SIGN_PHASE_CHANGE: a half of the flashing sign has run its 500 ms (R103). -/
def signPhaseChange (r : Ramp) (s : State) : State :=
  match (s.seq r).sign with
  | .flashing on e =>
    if Config.signHalf ≤ e then s.modSeq r fun q => { q with sign := .flashing (!on) 0 } else s
  | .off => s

end State

/-! ### Meanings -/

/-- WARNING_TIMER_EXPIRY (R106). -/
def execWarningTimerExpiry (r : Ramp) (s : State) : Host.Outcome State Fault Refusal :=
  .next (s.whenRunning (State.warningTimerExpiry r))
/-- CLEARANCE_TIMER_EXPIRY (R110). -/
def execClearanceTimerExpiry (r : Ramp) (s : State) : Host.Outcome State Fault Refusal :=
  .next (s.whenRunning (State.clearanceTimerExpiry r))
/-- SLOT_EXPIRY (R116). -/
def execSlotExpiry (r : Ramp) (s : State) : Host.Outcome State Fault Refusal :=
  .next (s.whenRunning (State.slotExpiry r))
/-- GREEN_END (R119). -/
def execGreenEnd (r : Ramp) (ln : LaneNo) (s : State) : Host.Outcome State Fault Refusal :=
  .next (s.whenRunning (State.greenEnd r ln))
/-- RED_MINIMUM_REACHED (R116). -/
def execRedMinimumReached (r : Ramp) (ln : LaneNo) (s : State) : Host.Outcome State Fault Refusal :=
  .next (s.whenRunning (State.redMinimumReached r ln))
/-- SIGN_PHASE_CHANGE (R103). -/
def execSignPhaseChange (r : Ramp) (s : State) : Host.Outcome State Fault Refusal :=
  .next (s.whenRunning (State.signPhaseChange r))

end Sys2Proof.Machine
end

