-- ==== Sys2Proof/Machine/Clock.lean ====
section
/-! DEFINITION. The Clock and Schedule Unit (chapter 5): the calendar, advances, clock shifts, minute and catch-up evaluations,
and the setting of the clock. -/

namespace Sys2Proof.Machine

/-! ### The calendar (R84, R85) -/

/-- The length of a month; February has 29 days in every year divisible by four (R85). -/
def monthLength (year month : Nat) : Nat :=
  match month with
  | 2 => if year % 4 = 0 then 29 else 28
  | 4 => 30
  | 6 => 30
  | 9 => 30
  | 11 => 30
  | _ => 31

/-- The days of a year that lie before a month. -/
def daysBeforeMonth (year : Nat) : Nat → Nat
  | 0 => 0
  | 1 => 0
  | m + 1 => daysBeforeMonth year m + monthLength year m

namespace DateTime

/-- The days from 2000-01-01 to the date. -/
def dayNumber (t : DateTime) : Nat := 365 * t.year + (t.year + 3) / 4 + daysBeforeMonth t.year t.month + (t.day - 1)

/-- The weekday, 1 Monday to 7 Sunday; 2000-01-01 is a Saturday (R84, R85). -/
def weekday (t : DateTime) : Nat := (t.dayNumber + 5) % 7 + 1

/-- A date and time of the calendar (R84, R88). -/
def wf (t : DateTime) : Bool :=
  t.year ≤ 99 && 1 ≤ t.month && t.month ≤ 12 && 1 ≤ t.day && t.day ≤ monthLength t.year t.month && t.hour ≤ 23
    && t.minute ≤ 59 && t.second ≤ 59

/-- The day after, at the same time (R85). -/
def nextDay (t : DateTime) : DateTime :=
  if t.day < monthLength t.year t.month then { t with day := t.day + 1 }
  else if t.month < 12 then { t with day := 1, month := t.month + 1 }
  else { t with day := 1, month := 1, year := (t.year + 1) % 100 }

/-- The next second (R85). -/
def nextSecond (t : DateTime) : DateTime :=
  if t.second < 59 then { t with second := t.second + 1 }
  else if t.minute < 59 then { t with second := 0, minute := t.minute + 1 }
  else if t.hour < 23 then { t with second := 0, minute := 0, hour := t.hour + 1 }
  else { t with second := 0, minute := 0, hour := 0 }.nextDay

/-- The minute of the week, from Monday 00:00 (R95). -/
def minuteOfWeek (t : DateTime) : Nat := (t.weekday - 1) * 1440 + t.hour * 60 + t.minute

end DateTime

/-! ### Shifts (R90, R91) -/

namespace ShiftRec

/-- The day lies in the week the record names (R90). -/
def inWeek (x : ShiftRec) (t : DateTime) : Bool :=
  match x.week with
  | .nth n => 7 * (n - 1) < t.day && t.day ≤ 7 * n
  | .last => monthLength t.year t.month < t.day + 7

/-- The record matches the date (R90). -/
def matchesDate (x : ShiftRec) (t : DateTime) : Bool := t.month = x.month && t.weekday = x.weekday && x.inWeek t

/-- The record applies at an advance to the time (R90). -/
def applies (x : ShiftRec) (t : DateTime) : Bool :=
  x.matchesDate t && t.hour = x.hour && x.appliedYear ≠ some t.year

/-- The hour after the shift (R91). -/
def landingHour (x : ShiftRec) : Nat :=
  match x.direction with
  | .forward => x.hour + 1
  | .back => x.hour - 1

end ShiftRec

/-! ### Schedule entries (R94, R95) -/

namespace ScheduleRec

/-- The entry acts on a ramp. -/
def names (x : ScheduleRec) (r : Ramp) : Bool := x.rampMask.getLsbD r.val

/-- The entry acts on a weekday 1 to 7. -/
def actsOn (x : ScheduleRec) (weekday : Nat) : Bool := x.dayMask.getLsbD (weekday - 1)

/-- The entry matches a minute evaluation (R94). -/
def matchesMinute (x : ScheduleRec) (t : DateTime) : Bool :=
  x.actsOn t.weekday && x.hour = t.hour && x.minute = t.minute

/-- The age of the occurrence on one weekday (R95). -/
def ageOn (x : ScheduleRec) (now weekday : Nat) : Nat :=
  (now + Config.weekMinutes - ((weekday - 1) * 1440 + x.hour * 60 + x.minute)) % Config.weekMinutes

/-- The age of the entry's most recent occurrence (R95); `none` where its Day Mask is empty. -/
def age (x : ScheduleRec) (now : Nat) : Option Nat :=
  (([1, 2, 3, 4, 5, 6, 7].filter x.actsOn).map (x.ageOn now)).min?

end ScheduleRec

/-- The entries that an evaluation can use, ascending by slot. -/
abbrev Entries := List ScheduleRec

/-- The deciding Action of a minute evaluation for a ramp: the matching entry of the highest slot that names it (R94). -/
def minuteAction (es : Entries) (t : DateTime) (r : Ramp) : Option Action :=
  ((es.filter fun e => e.matchesMinute t && e.names r).getLast?).map ScheduleRec.action

/-- The better of two candidates of a catch-up: the lesser age, and the later slot where they are equal (R96). -/
def betterCandidate (now : Nat) (best : Option (Nat × Action)) (e : ScheduleRec) : Option (Nat × Action) :=
  match e.age now, best with
  | none, _ => best
  | some a, none => some (a, e.action)
  | some a, some (b, x) => if a ≤ b then some (a, e.action) else some (b, x)

/-- The deciding Action of a catch-up for a ramp (R96). -/
def catchUpAction (es : Entries) (now : Nat) (r : Ramp) : Option Action :=
  ((es.filter (·.names r)).foldl (betterCandidate now) none).map (·.2)

namespace State

/-- All schedule slots, ascending. -/
def scheduleSlots : List ScheduleSlot := List.finRange 48

/-- The reads of the schedule by an evaluation, each a use (R93). -/
def readSchedules (s : State) : State := s.each scheduleSlots fun i t => t.useRecord (.schedule i)

/-- The present and readable entries, ascending (R93). -/
def scheduleEntries (s : State) : Entries := scheduleSlots.filterMap s.readableSchedule

/-- The SCHEDULE entry of a list is set or removed (R79). -/
def setSchedule (r : Ramp) (a : Option Action) (s : State) : State := s.changeList r { s.planList r with schedule := a }

/-- A minute evaluation (R94). The outcomes are handed to ramps 1 to 6 in turn and SCHEDULE is raised after them, the model's
choices (log 33). -/
def minuteEvaluation (s : State) : State :=
  let s := s.readSchedules
  let es := s.scheduleEntries
  let now := s.retained.clock
  let s := s.each ramps fun r t => match minuteAction es now r with
    | some a => t.setSchedule r (some a)
    | none => t
  s.raiseIf (es.any fun e => e.matchesMinute now) .schedule

/-- A catch-up evaluation of a valid clock outside a restart (R95, R96), in the order of the minute evaluation (log 33). -/
def catchUp (s : State) : State :=
  let s := s.readSchedules
  let es := s.scheduleEntries
  let now := s.retained.clock.minuteOfWeek
  (s.each ramps fun r t => t.setSchedule r (catchUpAction es now r)).raise .schedule

/-- Replace the clock's date and time (R84). -/
def setClockTime (t : DateTime) (s : State) : State := { s with retained := { s.retained with clock := t } }

/-- A shift record is applied: the hour moves, the year is stored, the record is GOOD, SCHEDULE is raised (R91). -/
def applyShift (i : ShiftSlot) (x : ShiftRec) (s : State) : State :=
  let t := s.retained.clock
  let s := s.setClockTime { t with hour := x.landingHour, minute := 0, second := 0 }
  let s := s.setShift i (some { x with appliedYear := some t.year })
  let s := s.setHealth (.shift i) { s.health (.shift i) with check := .good }
  s.raise .schedule

/-- The judgement of one shift record that has been read, with the direction where it was applied (R90). -/
def judgeShift (i : ShiftSlot) (s : State) : State × Option Direction :=
  match s.readableShift i with
  | some x => if x.applies s.retained.clock then (s.applyShift i x, some x.direction) else (s, none)
  | none => (s, none)

/-- The reads of both shift records, each a use (R90). -/
def readShifts (s : State) : State := (s.useRecord (.shift 0)).useRecord (.shift 1)

/-- Phase 2 of an advance: both records are read; record 1 is judged, and record 2 where record 1 does not apply (R90). -/
def judgeShifts (s : State) : State × Option Direction :=
  match s.readShifts.judgeShift 0 with
  | (s, some d) => (s, some d)
  | (s, none) => s.judgeShift 1

/-- Phases 2 to 4 of an advance of a valid clock (R85). -/
def followAdvance (s : State) : State :=
  let t := s.retained.clock
  let (s, shift) := if t.minute = 0 ∧ t.second = 0 then s.judgeShifts else (s, none)
  if shift = some .forward then s.catchUp
  else if s.retained.clock.second = 0 then s.minuteEvaluation
  else s

/-- An advance of the clock (R85, R86). -/
def advance (s : State) : State :=
  let s := s.setClockTime s.retained.clock.nextSecond
  if s.retained.clockValid then s.followAdvance else s

/-- CLOCK_ADVANCE, due when the sub-second phase has reached one second (R85). -/
def clockAdvance (s : State) : State :=
  if Config.samplesPerSecond ≤ s.retained.phase then
    ({ s with retained := { s.retained with phase := s.retained.phase - Config.samplesPerSecond } } : State).advance
  else s

/-- An accepted SET_CLOCK (R88). -/
def acceptClock (t : DateTime) (s : State) : State :=
  ({ s with retained := { s.retained with clock := t, clockValid := true, phase := 0 } } : State).catchUp

end State

/-- The retained clock counts `ticks` of 10 ms on the battery; nothing is judged for them (R99). -/
def Retained.ran (ticks : Nat) (x : Retained) : Retained :=
  let n := x.phase + ticks
  { x with clock := Nat.iterate DateTime.nextSecond (n / Config.samplesPerSecond) x.clock
           phase := n % Config.samplesPerSecond }

/-! ### Meanings -/

/-- CLOCK_ADVANCE (R85). -/
def execClockAdvance (s : State) : Host.Outcome State Fault Refusal := .next (s.whenRunning State.clockAdvance)

end Sys2Proof.Machine
end

