-- ==== Sys2Proof/Machine/Lamps.lean ====
section
/-! DEFINITION. The Lamp Driver and Aspect Monitor (chapter 7): outputs, sense samples, qualification, and the incident record. -/

namespace Sys2Proof.Machine

/-- The red and the green drive output of a commanded aspect (R126). -/
def Aspect.outputs : Aspect → Bool × Bool
  | .none => (false, false)
  | .red => (true, false)
  | .green => (false, true)

/-- The sensed aspect of two sense inputs (R127). -/
def sensedOf (red green : Bool) : Sensed :=
  match red, green with
  | false, false => .none
  | true, false => .red
  | false, true => .green
  | true, true => .both

/-- The sensed aspect of a lane from the sense inputs as they stand. -/
def sensedAt (inp : Inputs) (r : Ramp) (ln : LaneNo) : Sensed :=
  sensedOf (inp.redLit.getLsbD (2 * r.val + ln.val)) (inp.greenLit.getLsbD (2 * r.val + ln.val))

def Sensed.redLit : Sensed → Bool
  | .red => true
  | .both => true
  | _ => false

def Sensed.greenLit : Sensed → Bool
  | .green => true
  | .both => true
  | _ => false

/-- The incident condition at a sample; TEST has none (R129). -/
def conditionHolds (k : IncidentKind) (commanded : Aspect) (sensed : Sensed) : Bool :=
  match k with
  | .conflict => sensed = .both
  | .strayGreen => sensed.greenLit && commanded ≠ .green
  | .redOut => commanded = .red && !sensed.redLit
  | .greenOut => commanded = .green && !sensed.greenLit
  | .test => false

/-- The qualifying count, in samples (R129). -/
def qualifyingCount : IncidentKind → Nat
  | .conflict => 10
  | .strayGreen => 30
  | .redOut => 100
  | .greenOut => 100
  | .test => 0

/-- The rank of a real incident (R129). A TEST incident carries the rank its request names. -/
def rankOf : IncidentKind → Rank
  | .conflict => .high
  | .strayGreen => .high
  | _ => .low

/-- The four kinds that are judged at a sample, in the order of R129. -/
def realKinds : List IncidentKind := [.conflict, .strayGreen, .redOut, .greenOut]

namespace Qualification

/-- One sample of a condition (R128). -/
def sample (k : IncidentKind) (holds : Bool) (q : Qualification) : Qualification :=
  if holds then
    let run := min (qualifyingCount k) (q.run + 1)
    { run, reported := q.reported || qualifyingCount k ≤ run }
  else .clear

/-- The sample at which the incident qualifies (R128). -/
def qualifiesAt (k : IncidentKind) (holds : Bool) (q : Qualification) : Bool :=
  holds && !q.reported && qualifyingCount k ≤ min (qualifyingCount k) (q.run + 1)

end Qualification

namespace LaneMonitor

/-- The qualification of a kind. -/
def qual (m : LaneMonitor) : IncidentKind → Qualification
  | .conflict => m.conflict
  | .strayGreen => m.strayGreen
  | .redOut => m.redOut
  | .greenOut => m.greenOut
  | .test => .clear

/-- The condition held at the latest sense sample, under the aspect commanded then; before the first sample after a COLD or WARM
restart none held (R139, R140, log 30). -/
def heldAtSample (m : LaneMonitor) (k : IncidentKind) : Bool :=
  match m.sampled with
  | some c => conditionHolds k c m.sensed
  | none => false

/-- The kinds that qualify when the lane is judged. -/
def qualifying (commanded : Aspect) (m : LaneMonitor) : List IncidentKind :=
  realKinds.filter fun k => (m.qual k).qualifiesAt k (conditionHolds k commanded m.sensed)

/-- The four conditions judged at a sample (R128). -/
def judge (commanded : Aspect) (m : LaneMonitor) : LaneMonitor :=
  let next (k : IncidentKind) : Qualification := (m.qual k).sample k (conditionHolds k commanded m.sensed)
  { m with conflict := next .conflict, strayGreen := next .strayGreen, redOut := next .redOut, greenOut := next .greenOut }

end LaneMonitor

namespace State

/-- The commanded aspect of a lane (R126). -/
def commanded (s : State) (r : Ramp) (ln : LaneNo) : Aspect := ((s.seq r).lanes.get ln).aspect

/-- The sense sample of one lane: the sensed aspect is set, and a supervised lane is judged (R127, R128). Incidents that qualify
wait to be taken (log 7). -/
def senseLane (inp : Inputs) (r : Ramp) (ln : LaneNo) (s : State) : State :=
  let c := s.commanded r ln
  let m := { s.lamp r ln with sensed := sensedAt inp r ln, sampled := some c }
  if (s.seq r).state = .unconfigured then s.setLamp r ln m
  else
    let found := (m.qualifying c).map fun k =>
      ({ ramp := r, lane := ln, kind := k, commanded := c, sensed := m.sensed } : Qualified)
    let s := s.setLamp r ln (m.judge c)
    { s with qualified := s.qualified ++ found }

/-- The sense sample of all lanes (R127). -/
def senseLamps (inp : Inputs) (s : State) : State := s.each ramps fun r t => t.each laneNos fun ln u => u.senseLane inp r ln

end State

/-- The replacement rule (R132). -/
def enterIncident (held : Option IncidentRec) (new : IncidentRec) : IncidentRec :=
  match held with
  | none => { new with later := 0 }
  | some h =>
    match h.rank, new.rank with
    | .low, .high => { new with later := 0 }
    | _, _ => { h with later := min Config.laterMax (h.later + 1) }

namespace State

/-- Replace the incident record (R133). -/
def setIncident (x : Option IncidentRec) (s : State) : State := { s with retained := { s.retained with incident := x } }

/-- An incident is taken: entered in the record, reported to the sequencer, and INCIDENT raised (R130). -/
def takeIncident (q : Qualified) (rank : Rank) (s : State) : State :=
  let new : IncidentRec :=
    { kind := q.kind, rank, ramp := q.ramp, lane := q.lane, stamp := s.stamp, commanded := q.commanded, sensed := q.sensed,
      later := 0 }
  ((s.setIncident (some (enterIncident s.retained.incident new))).darken q.ramp).raise .incident

/-- The incident names this lane and kind. -/
def namesLane (r : Ramp) (ln : LaneNo) (k : IncidentKind) (q : Qualified) : Bool :=
  q.ramp = r && q.lane = ln && q.kind = k

/-- INCIDENT_QUALIFIES, due when that incident qualified at the latest sample and is not yet taken (R130, log 7). -/
def incidentQualifies (r : Ramp) (ln : LaneNo) (k : IncidentKind) (s : State) : State :=
  match s.qualified.find? (namesLane r ln k) with
  | some q => ({ s with qualified := s.qualified.erase q } : State).takeIncident q (rankOf k)
  | none => s

end State

/-! ### Meanings -/

/-- INCIDENT_QUALIFIES (R130). -/
def execIncidentQualifies (r : Ramp) (ln : LaneNo) (k : IncidentKind) (s : State) : Host.Outcome State Fault Refusal :=
  .next (s.whenRunning (State.incidentQualifies r ln k))

end Sys2Proof.Machine
end

