-- ==== Sys2Proof/Machine/Loops.lean ====
section
/-! DEFINITION. The Loop Input Unit (chapter 1): sampling, test presence, accumulation, fault qualification, check-in conditions,
the reads of loop records, and the period values. -/

namespace Sys2Proof.Machine

namespace Loop

/-- Fault qualification runs on a loop in OK, STUCK_ON, CHATTER or NO_ACTIVITY (R11). -/
def qualifies (l : Loop) : Bool :=
  match l.state with
  | .unused => false
  | .configLost => false
  | _ => true

/-- The highest-ranked of three conditions (R11). -/
def ranked (stuckOn chatter silence : Bool) : LoopState :=
  if stuckOn then .stuckOn else if chatter then .chatter else if silence then .noActivity else .ok

/-- The state that a loop's active conditions give (R11). -/
def shown (l : Loop) : LoopState := if l.qualifies then ranked l.stuckOn l.chatter l.silence else l.state

/-- The stuck run has reached the Stuck-On Time (R12). -/
def stuckEntryDue (rec : LoopRec) (l : Loop) : Bool :=
  l.qualifies && !l.stuckOn && rec.stuckOnTime * Config.samplesPerSecond ≤ l.stuckRun

/-- The clear run has reached 200 off samples (R12). -/
def stuckClearDue (l : Loop) : Bool := l.qualifies && l.stuckOn && Config.stuckClearSamples ≤ l.clearRun

/-- The silence run has reached the Silence Time (R13). -/
def silenceEntryDue (rec : LoopRec) (l : Loop) : Bool :=
  l.qualifies && !l.silence && rec.silenceTime * Config.samplesPerMinute ≤ l.silenceRun

/-- STUCK_ON_ENTRY on one loop (R12). -/
def enterStuck (rec : LoopRec) (l : Loop) : Loop :=
  if l.stuckEntryDue rec then { l with stuckOn := true, clearRun := 0 } else l

/-- STUCK_ON_CLEAR on one loop (R12). -/
def clearStuck (l : Loop) : Loop := if l.stuckClearDue then { l with stuckOn := false, clearRun := 0 } else l

/-- SILENCE_ENTRY on one loop (R13). -/
def enterSilence (rec : LoopRec) (l : Loop) : Loop := if l.silenceEntryDue rec then { l with silence := true } else l

/-- The judgement of one loop's second (R14). The edge count starts again for the next second. -/
def judgeSecond (rec : LoopRec) (l : Loop) : Loop :=
  if l.qualifies then
    if rec.chatterLimit < l.edges then { l with chatter := true, quietRun := 0, edges := 0 }
    else if l.chatter then
      if Config.quietSeconds ≤ l.quietRun + 1 then { l with chatter := false, quietRun := 0, edges := 0 }
      else { l with quietRun := l.quietRun + 1, edges := 0 }
    else { l with edges := 0 }
  else { l with edges := 0 }

/-- The state after all judgements that the latest sample has made due (R6, R11); `secondDue` says that it ended a second. -/
def judged (rec : LoopRec) (secondDue : Bool) (l : Loop) : LoopState :=
  let l := ((l.enterStuck rec).clearStuck).enterSilence rec
  (if secondDue then l.judgeSecond rec else l).shown

/-- Some judgement of the latest sample has not been taken yet (R11). -/
def outstanding (rec : LoopRec) (secondDue : Bool) (l : Loop) : Bool :=
  l.qualifies && (secondDue || l.stuckEntryDue rec || l.stuckClearDue || l.silenceEntryDue rec)

/-- The presence of a loop at a sample (R6, R8). -/
def presenceAt (l : Loop) (input : Bool) : Bool := input || l.testActive

/-- The sample is a rising edge; the first sample after a restart has no previous one and is not (R6). -/
def risingEdge (l : Loop) (input : Bool) : Bool := l.presenceAt input && l.presence = some false

/-- One sample is accumulated and its runs are counted; a rising edge makes the silence condition inactive (R8, R9, R12, R13).
The test timer counts down. -/
def sample (input : Bool) (l : Loop) : Loop :=
  let on := l.presenceAt input
  let edge := l.risingEdge input
  let l := if l.state = .unused then l
    else { l with onSamples := l.onSamples + on.toNat, count := l.count + edge.toNat, testSeen := l.testSeen || l.testActive }
  let l := if l.qualifies then
      { l with stuckRun := if on then l.stuckRun + 1 else 0,
               clearRun := if l.stuckOn && !on then l.clearRun + 1 else 0,
               silenceRun := if edge then 0 else l.silenceRun + 1,
               silence := l.silence && !edge,
               edges := l.edges + edge.toNat }
    else l
  { l with presence := some on, testTimer := l.testTimer - 1 }

/-- The three fault conditions inactive and every measure at its start (R4, R5). -/
def requalified (l : Loop) : Loop :=
  { l with stuckOn := false, chatter := false, silence := false, stuckRun := 0, clearRun := 0, silenceRun := 0, edges := 0,
           quietRun := 0 }

/-- The loop is valid for the period (R15, log 24). -/
def valid (l : Loop) : Bool :=
  match l.ident with
  | some x => x.role ≠ .unused && !l.notOkSeen && !l.rewritten
  | none => false

/-- The loop's period value at a close (R10). -/
def value (l : Loop) : PeriodValue :=
  { ident := l.ident, onSamples := l.onSamples, count := l.count, valid := l.valid, testSeen := l.testSeen }

/-- The loop's period value is kept as its last closed period; accumulators and marks start again (R10). -/
def closed (l : Loop) : Loop :=
  { l with last := some l.value, onSamples := 0, count := 0, notOkSeen := false, rewritten := false, testSeen := false }

/-- A fault state or CONFIG_LOST (R17). -/
def isFault : LoopState → Bool
  | .stuckOn => true
  | .chatter => true
  | .noActivity => true
  | .configLost => true
  | _ => false

end Loop

namespace State

/-- The stored record of a loop, whose times its qualification uses (R11). -/
def loopRec (s : State) (i : LoopNo) : LoopRec := s.memory.loops.get i

/-- A loop is replaced, and the change of its state raises LOOP_FAULT (R17). -/
def putLoop (i : LoopNo) (l : Loop) (s : State) : State :=
  let old := (s.loop i).state
  let s := s.setLoop i l
  if l.state = old then s
  else if Loop.isFault l.state then s.raise .loopFault
  else s.raiseIf (l.state = .ok && Loop.isFault old && s.router.edges.loopFault = .both) .loopFault

/-- A change of a loop's conditions by one judgement of the latest sample. The state is set at once to what all the judgements of
that sample give, so that it changes once (R11, log 6). -/
def rejudge (i : LoopNo) (f : Loop → Loop) (s : State) : State :=
  let l := f (s.loop i)
  s.putLoop i { l with state := l.judged (s.loopRec i) s.timer.secondDue }

/-- A loop enters CONFIG_LOST: conditions inactive, timers stopped, its identity kept as its last identity (R5). -/
def loseConfig (i : LoopNo) (s : State) : State :=
  let l := s.loop i
  if l.state = .configLost then s else s.putLoop i { l.requalified with state := .configLost }

/-- A read of a loop record: a use, and CONFIG_LOST where it is damaged (R5). -/
def useLoop (i : LoopNo) (s : State) : State :=
  let s := s.useRecord (.loop i)
  if s.damaged (.loop i) then s.loseConfig i else s

/-! ### Steps -/

/-- STUCK_ON_ENTRY, where it is due (R12). -/
def stuckOnEntry (i : LoopNo) (s : State) : State :=
  if (s.loop i).stuckEntryDue (s.loopRec i) then s.rejudge i (Loop.enterStuck (s.loopRec i)) else s
/-- STUCK_ON_CLEAR, where it is due (R12). -/
def stuckOnClear (i : LoopNo) (s : State) : State := if (s.loop i).stuckClearDue then s.rejudge i Loop.clearStuck else s
/-- SILENCE_ENTRY, where it is due (R13). -/
def silenceEntry (i : LoopNo) (s : State) : State :=
  if (s.loop i).silenceEntryDue (s.loopRec i) then s.rejudge i (Loop.enterSilence (s.loopRec i)) else s

/-- CHATTER_SECOND_JUDGEMENT: the second that the last sample ended is judged for every loop (R14). -/
def chatterSecondJudgement (s : State) : State :=
  if s.timer.secondDue then
    ({ s with timer := { s.timer with secondDue := false } } : State).each loopNos fun i t =>
      t.rejudge i (Loop.judgeSecond (t.loopRec i))
  else s

/-- TEST_PRESENCE_END: the test timer has run out, and presence follows the input alone (R8). -/
def testPresenceEnd (i : LoopNo) (s : State) : State :=
  let l := s.loop i
  if l.testActive = true ∧ l.testTimer = 0 then s.setLoop i { l with testActive := false } else s

/-- All that the latest sample has made due in the Loop Input Unit (R6, log 6). -/
def settleLoops (s : State) : State :=
  let s := s.each loopNos fun i t => (((t.stuckOnEntry i).stuckOnClear i).silenceEntry i).testPresenceEnd i
  s.chatterSecondJudgement

/-! ### The sample -/

/-- The state of a loop after all judgements of the latest sample (R6, R11). -/
def judgedState (s : State) (i : LoopNo) : LoopState := (s.loop i).judged (s.loopRec i) s.timer.secondDue

/-- The period timer takes one sample (R21, R162). -/
def countSample (s : State) : State :=
  let n := s.timer.samples + 1
  { s with timer := { s.timer with samples := n, secondDue := n % Config.samplesPerSecond = 0,
                                   scrubCount := s.timer.scrubCount + 1 } }

/-- One loop's part of a sample: accumulation, then the not-OK mark with the state after all judgements of the sample (R6, R9,
R15). A rising edge can end the silence condition here; the state is set here where no judgement of the sample is outstanding, and
else by the first of those that is taken (R11, log 6). -/
def sampleLoop (inp : Inputs) (i : LoopNo) (s : State) : State :=
  let l := (s.loop i).sample (inp.presence.getLsbD i.val)
  let after := l.judged (s.loopRec i) s.timer.secondDue
  let waits := l.outstanding (s.loopRec i) s.timer.secondDue
  s.putLoop i { l with notOkSeen := l.notOkSeen || after ≠ .ok, state := if waits then l.state else after }

/-- The loop whose identity is CHECKIN of this lane, where there is one (R16). -/
def checkInLoop (s : State) (r : Ramp) (ln : LaneNo) : Option LoopNo :=
  loopNos.find? fun i => (s.loop i).ident = some { role := .checkin, ramp := some r, lane := some (ln.val + 1) }

/-- The check-in condition of a lane at the latest sample (R16). -/
def checkInAt (s : State) (r : Ramp) (ln : LaneNo) : CheckIn :=
  match s.checkInLoop r ln with
  | none => .unsupervised
  | some i =>
    if s.judgedState i ≠ .ok then .unsupervised else if (s.loop i).presence = some true then .present else .absent

/-- The check-in conditions of a ramp's lanes are stated to its sequencer; a lane beyond the Lane Count In Force is not stated.
A change has a Held Slot judged again (R16, R116). -/
def stateCheckIn (r : Ramp) (s : State) : State :=
  let q := s.seq r
  let now := Tab.ofFn fun ln => if q.inForce ln then some (s.checkInAt r ln) else none
  if now = q.checkIn then s else (s.setSeq r { q with checkIn := now }).judgeHeld r

end State

/-! ### Meanings -/

/-- STUCK_ON_ENTRY (R12). -/
def execStuckOnEntry (l : LoopNo) (s : State) : Host.Outcome State Fault Refusal := .next (s.whenRunning (State.stuckOnEntry l))
/-- STUCK_ON_CLEAR (R12). -/
def execStuckOnClear (l : LoopNo) (s : State) : Host.Outcome State Fault Refusal := .next (s.whenRunning (State.stuckOnClear l))
/-- SILENCE_ENTRY (R13). -/
def execSilenceEntry (l : LoopNo) (s : State) : Host.Outcome State Fault Refusal := .next (s.whenRunning (State.silenceEntry l))
/-- CHATTER_SECOND_JUDGEMENT (R14). -/
def execChatterSecondJudgement (s : State) : Host.Outcome State Fault Refusal :=
  .next (s.whenRunning State.chatterSecondJudgement)
/-- TEST_PRESENCE_END (R8). -/
def execTestPresenceEnd (l : LoopNo) (s : State) : Host.Outcome State Fault Refusal :=
  .next (s.whenRunning (State.testPresenceEnd l))

end Sys2Proof.Machine
end

