-- ==== Sys2Proof/Machine/Measure.lean ====
section
/-! DEFINITION. The Measurement Unit (chapter 2): period values, station results, the queue estimate and the history rings. The
functions are of one close; `PeriodClose.lean` runs the phases. -/

namespace Sys2Proof.Machine

/-- The values of the 48 loops at a close (R10). -/
abbrev PeriodValues := Tab 48 PeriodValue

/-- The occupancy of a loop, ‰ (R23). -/
def occupancy (v : PeriodValue) : Nat := (v.onSamples + 1) / 3

/-- The loops that belong to a station, by identity (R24). -/
def members (vs : PeriodValues) (belongs : Identity → Bool) : List PeriodValue :=
  vs.list.filter fun v => match v.ident with
    | some x => belongs x
    | none => false

/-- Membership of the stations of R24. -/
def inMerge (r : Ramp) (x : Identity) : Bool := x.role = .merge && x.ramp = some r
def inArrivals (r : Ramp) (x : Identity) : Bool := x.role = .demand && x.ramp = some r
def inQueueEnd (r : Ramp) (x : Identity) : Bool := x.role = .queueEnd && x.ramp = some r
def inPassage (r : Ramp) (ln : LaneNo) (x : Identity) : Bool :=
  x.role = .passage && x.ramp = some r && x.lane = some (ln.val + 1)
def inBottleneck (x : Identity) : Bool := x.role = .bottleneck

/-- The mean of the occupancies of the valid loops, rounded half up, or no data (R25). -/
def meanOccupancy (st : List PeriodValue) : Option Nat :=
  let good := st.filter (·.valid)
  let n := good.length
  let total := (good.map occupancy).sum
  if n = 0 then none else some ((2 * total + n) / (2 * n))

/-- The sum of the counts, or no data where the station has no loop or one that is not valid (R26). -/
def sumCounts (st : List PeriodValue) : Option Nat :=
  if st.isEmpty || st.any (fun v => !v.valid) then none else some (st.map (·.count)).sum

/-- The highest occupancy of the valid loops, or no data (R27). -/
def maxOccupancy (st : List PeriodValue) : Option Nat := ((st.filter (·.valid)).map occupancy).max?

/-- Some loop of the station carries the test seen mark (R24). -/
def stationTest (st : List PeriodValue) : Bool := st.any (·.testSeen)

/-- The lane departures of one lane, and whether the lane is substituted (R28). -/
def laneDepartures (vs : PeriodValues) (r : Ramp) (ln : LaneNo) (greens vehicles : Nat) : Nat × Bool :=
  match (members vs (inPassage r ln)).find? (·.valid) with
  | some v => (v.count, false)
  | none => (greens * vehicles, true)

/-- The lanes 1 to the Lane Count. -/
def lanesUpTo (n : Nat) : List LaneNo := laneNos.filter fun ln => ln.val < n

/-- The station results of a configured ramp at a close (R24 to R29). "Queue held" is set with the queue estimate (R31). -/
def rampResults (vs : PeriodValues) (r : Ramp) (laneCount : Nat) (greens : Tab 2 Nat) (vehicles : Nat) : RampResults :=
  let lanes := lanesUpTo laneCount
  let parts := lanes.map fun ln => laneDepartures vs r ln (greens.get ln) vehicles
  { merge := meanOccupancy (members vs (inMerge r))
    mergeTest := stationTest (members vs (inMerge r))
    arrivals := sumCounts (members vs (inArrivals r))
    arrivalsTest := stationTest (members vs (inArrivals r))
    queueEnd := maxOccupancy (members vs (inQueueEnd r))
    queueEndTest := stationTest (members vs (inQueueEnd r))
    departures := (parts.map (·.1)).sum
    departuresTest := lanes.any fun ln => stationTest (members vs (inPassage r ln))
    substituted := parts.any (·.2)
    queueHeld := false }

/-- The Bottleneck Occupancy of a close (R24, R25). -/
def bottleneckResult (vs : PeriodValues) : Bottleneck :=
  { occupancy := meanOccupancy (members vs inBottleneck), testSeen := stationTest (members vs inBottleneck) }

/-- The balance of R31, step 1. -/
def balance (estimate : Nat) (res : RampResults) : Nat :=
  match res.arrivals with
  | some a => min Config.queueMax (estimate + a - res.departures)
  | none => estimate

/-- The queue-end raise of R31, step 2, by the plan in use; a ramp without one is not raised (R42). -/
def queueRaise (plan : Option Plan) (res : RampResults) (estimate : Nat) : Nat :=
  match plan, res.queueEnd with
  | some p, some q => if p.queueEndThreshold ≤ q then max estimate p.queueStorage else estimate
  | _, _ => estimate

/-- Some loop whose identity names the ramp carries the test seen mark (R33). -/
def rampTestSeen (vs : PeriodValues) (r : Ramp) : Bool := stationTest (members vs fun x => x.ramp = some r)

/-- A ring with a record appended, its oldest removed where it holds 20 (R32). -/
def ringAppend {α : Type} (ring : List α) (x : α) : List α :=
  (if Config.ringCapacity ≤ ring.length then ring.drop (ring.length + 1 - Config.ringCapacity) else ring) ++ [x]

/-- The record of a ring at an age, 0 the newest (R35). -/
def ringAt {α : Type} (ring : List α) (age : Nat) : Option α := ring.reverse[age]?

/-- Whether a station's condition raises STATION_DATA at a close (R36). -/
def stationEdge (edge : Edge) (configured was now : Bool) : Bool :=
  configured && ((was && !now) || (edge = .both && !was && now))

end Sys2Proof.Machine
end

