-- ==== Sys2Proof/Machine/Rates.lean ====
section
/-! DEFINITION. The stages of the rate computation at a close (chapter 3): runnability, rates, limits, allowance, coordination. -/

namespace Sys2Proof.Machine

namespace State

/-- A plan can run at a close: its record is present and readable, and a FEEDBACK plan has merge data (R43). -/
def canRun (s : State) (k : PlanSlot) (merge : Option Nat) : Bool :=
  match s.readablePlan k with
  | some p => p.mode = .fixed || merge.isSome
  | none => false

/-- The fallback number for an active plan that cannot run; the candidate is read where it is judged (R44). -/
def chooseFallback (k : PlanSlot) (merge : Option Nat) (s : State) : State × PlanRef :=
  match (s.readablePlan k).map Plan.fallbackPlan with
  | some (.slot j) =>
    if j = k then (s, .builtin)
    else
      let s := s.useRecord (.plan j)
      (s, if s.canRun j merge then .slot j else .builtin)
  | _ => (s, .builtin)

/-- Stage 1 on one metering ramp (R43, R44). Its FALLBACK events are raised in phase 7 (R82). -/
def runnability (r : Ramp) (merge : Option Nat) (s : State) : State :=
  match (s.planList r).governingPlan with
  | none => s
  | some k =>
    let s := s.useRecord (.plan k)
    if s.canRun k merge then s.setList r { s.planList r with fallback := none }
    else
      let (s, n) := s.chooseFallback k merge
      s.setList r { s.planList r with fallback := some n }

/-- The plan in use of a metering ramp: the plan of the top entry after stage 1 (R42). -/
def planInUse (s : State) (r : Ramp) : Option Plan :=
  match (s.planList r).demanded with
  | some .builtin => some (planZero s.safetyInUse)
  | some (.slot k) => s.readablePlan k
  | none => none

/-- The plan in use is the built-in one. -/
def runsBuiltin (s : State) (r : Ramp) : Bool := (s.planList r).demanded = some .builtin

end State

/-- The feedback step: gain × (target − measured) / 16, truncated toward zero (R46, R54). -/
def feedbackStep (gain target measured : Nat) : Int := Int.tdiv ((gain : Int) * ((target : Int) - (measured : Int))) 16

/-- The local rate (R46). A FEEDBACK plan that runs has merge data (R43). -/
def localRateOf (p : Plan) (previous : Nat) (merge : Option Nat) : Int :=
  match p.mode with
  | .feedback => (previous : Int) + feedbackStep p.feedbackGain p.targetOccupancy (merge.getD p.targetOccupancy)
  | .fixed => (p.fixedRate : Int)

/-- Queue protection is active; never for plan 0 (R47). -/
def protectionActive (builtin : Bool) (p : Plan) (estimate : Nat) (queueEnd : Option Nat) : Bool :=
  !builtin && (p.queueKeep < estimate || (match queueEnd with | some q => p.queueEndThreshold ≤ q | none => false))

/-- The queue rate (R48). -/
def queueRateOf (p : Plan) (estimate : Nat) (arrivals : Option Nat) : Nat :=
  arrivals.getD 0 * 120 + ((estimate - p.queueKeep) * 120 + p.flushPeriods - 1) / p.flushPeriods

/-- What stages 2 to 5 leave for a metering ramp with a plan in use. -/
structure Stage5 where
  coordinated : Bool
  limits : Limits
  localRate : Int
  queueRate : Option Nat
  desired : Nat
  floor : Nat
  limited : Bool
  clamped : Bool
  deriving DecidableEq, Repr

/-- The margin of R53. -/
def Stage5.margin (x : Stage5) : Nat := x.desired - x.floor

/-- Stages 2 to 5 (R45 to R53). -/
def stage5 (t : SafetyRec) (p : Plan) (builtin : Bool) (lanes : Nat) (previousClose : Option Nat) (estimate : Nat)
    (res : RampResults) : Stage5 :=
  let localRate := localRateOf p (previousClose.getD p.startRate) res.merge
  let active := protectionActive builtin p estimate res.queueEnd
  let queueRate := if active then some (queueRateOf p estimate res.arrivals) else none
  let limits := limitsOf t p lanes
  let wanted : Int := match queueRate with
    | some q => max localRate (q : Int)
    | none => localRate
  let desired := clampInt limits.low limits.high wanted
  { coordinated := p.coordinated, limits, localRate, queueRate, desired
    floor := match p.coordinated, queueRate with
      | true, some q => clampNat limits.low limits.high q
      | _, _ => limits.low
    limited := match queueRate with
      | some q => limits.high < q
      | none => false
    clamped := (desired : Int) ≠ wanted }

/-- Stage 6 on the corridor's items (R54, R55). -/
def allowanceStage (cs : CorridorRec) (occupancy : Option Nat) (c : CorridorRate) : CorridorRate :=
  match occupancy with
  | some o =>
    { c with allowance := clampInt cs.allowanceMinimum cs.allowanceMaximum
               ((c.allowance : Int) + feedbackStep cs.allowanceGain cs.bottleneckTarget o),
             heldCount := 0, allowanceHeld := false, suspended := false }
  | none =>
    let held := min Config.heldMax (c.heldCount + 1)
    { c with heldCount := held, allowanceHeld := true, suspended := Config.heldSuspends < held }

/-- The stage 5 results of the six ramps at a close. -/
abbrev Stage5s := Tab 6 (Option Stage5)

/-- The coordinated set, ascending, with the results (R56). -/
def coordinatedSet (xs : Stage5s) : List (Ramp × Stage5) :=
  ramps.filterMap fun r => match xs.get r with
    | some x => if x.coordinated then some (r, x) else none
    | none => none

/-- The sum of the desired rates of the coordinated set (R56). -/
def sumDesired (xs : Stage5s) : Nat := ((coordinatedSet xs).map fun e => e.2.desired).sum

/-- The sum of the margins of the coordinated set (R57). -/
def sumMargins (xs : Stage5s) : Nat := ((coordinatedSet xs).map fun e => e.2.margin).sum

/-- The excess of R56. -/
def excessOf (xs : Stage5s) (allowance : Nat) : Int := (sumDesired xs : Int) - (allowance : Int)

/-- The floored share of R58 step 1. -/
def flooredShare (excess total margin : Nat) : Nat := excess * margin / total

/-- The coordinated ramps with margin above 0, ascending (R58). -/
def marginRamps (xs : Stage5s) : List Ramp := ((coordinatedSet xs).filter fun e => 0 < e.2.margin).map (·.1)

/-- The remainder of R58 step 2. -/
def remainderOf (xs : Stage5s) (excess : Nat) : Nat :=
  excess - ((coordinatedSet xs).map fun e => flooredShare excess (sumMargins xs) e.2.margin).sum

/-- The share of a coordinated ramp in the partial case (R58). -/
def shareOf (xs : Stage5s) (excess : Nat) (r : Ramp) (x : Stage5) : Nat :=
  flooredShare excess (sumMargins xs) x.margin
    + (if r ∈ (marginRamps xs).take (remainderOf xs excess) then 1 else 0)

/-- Coordination applies (R56). -/
def applies (cs : CorridorRec) (c : CorridorRate) (xs : Stage5s) : Bool :=
  cs.coordinationEnable && !c.suspended && !(coordinatedSet xs).isEmpty

/-- The final rate of a metering ramp with a plan in use (R56 to R58). -/
def finalRateOf (applied : Bool) (allowance : Nat) (xs : Stage5s) (r : Ramp) (x : Stage5) : Nat :=
  let excess := excessOf xs allowance
  if !applied || !x.coordinated || excess ≤ 0 then x.desired
  else if (sumMargins xs : Int) ≤ excess then x.floor
  else x.desired - shareOf xs excess.toNat r x

/-- "Allowance not met" (R57). -/
def notMetOf (applied : Bool) (allowance : Nat) (xs : Stage5s) : Bool :=
  applied && 0 < excessOf xs allowance && (sumMargins xs : Int) < excessOf xs allowance

/-- The Close Results of a ramp (R63). -/
def closeResultsOf (x : Stage5) (final : Nat) (fallback : Bool) : CloseResults :=
  { localRate := x.localRate, queueRate := x.queueRate, minSlot := x.limits.minSlot, timingCap := x.limits.cap,
    lowLimit := x.limits.low, highLimit := x.limits.high, desiredRate := x.desired, floor := x.floor, margin := x.margin,
    finalRate := final, slotInterval := slotIntervalOf x.limits.vehicles final, protectionActive := x.queueRate.isSome,
    protectionLimited := x.limited, rateClamped := x.clamped, fallback := fallback }

end Sys2Proof.Machine
end

