-- ==== Sys2Proof/Machine/PeriodClose.lean ====
section
/-! DEFINITION. PERIOD_CLOSE: the seven phases of R22 with the stages of R41. -/

namespace Sys2Proof.Machine

/-- What phase 2 of a close settles for every later phase (R22): the corridor settings of its read, the ramp states and the greens
given at the close, and the Vehicles Per Green in force (R28). -/
structure CloseView where
  values : PeriodValues
  settings : CorridorRec
  states : Tab 6 RampState
  greens : Tab 6 (Tab 2 Nat)
  vehicles : Tab 6 Nat
  deriving DecidableEq, Repr

namespace CloseView

/-- The ramp is configured at this close (R22). -/
def configured (v : CloseView) (r : Ramp) : Bool := v.settings.laneCount.get r ≠ 0

/-- A metering ramp of this close (R41). -/
def metering (v : CloseView) (r : Ramp) : Bool := v.configured r && v.states.get r = .metering

/-- The station results of a ramp, absent where it is not configured (R24). -/
def results (v : CloseView) (r : Ramp) : Option RampResults :=
  if v.configured r then
    some (rampResults v.values r (v.settings.laneCount.get r) (v.greens.get r) (v.vehicles.get r))
  else none

end CloseView

namespace State

/-- Phase 1: the accumulators and marks start again, and the close read is made of every loop record (R10, R5). -/
def closeLoops (s : State) : State :=
  let s := s.each loopNos fun i t => t.setLoop i (t.loop i).closed
  s.each loopNos useLoop

/-- Phase 2, what is read (R22). -/
def closeView (values : PeriodValues) (s : State) : CloseView :=
  { values, settings := s.corridorInUse, states := s.sequencers.map (·.state), greens := s.sequencers.map (·.greens),
    vehicles := s.sequencers.map (·.lastVehicles) }

/-- Phase 2, what is set: every Greens Given count starts again (R121), and the station results stand (R29). -/
def closeStations (v : CloseView) (s : State) : State :=
  let s := { s with sequencers := s.sequencers.map fun (q : Sequencer) => { q with greens := Tab.replicate 2 0 } }
  let s := s.each ramps fun r t => t.setMeas r { t.meas r with results := v.results r }
  { s with corridorMeasure := { s.corridorMeasure with bottleneck := some (bottleneckResult v.values) } }

/-- Phase 3: the safety table is read once for all six sequencers (R41, R115, log 15), then stage 1 of every metering ramp. A Red Minimum
In Force that is lowered here can make a RED lane eligible at once (R115); the Held Slot is then judged by RED_MINIMUM_REACHED after the
close, so that its green adopts this close's hand-over: the model's choice (log 42). -/
def closeRunnability (v : CloseView) (s : State) : State :=
  let s := s.useRecord .safety
  let red := s.safetyInUse.redMinimum
  let s := { s with sequencers := s.sequencers.map fun (q : Sequencer) => { q with redMinimum := some red } }
  s.each ramps fun r t => if v.metering r then t.runnability r ((v.results r).bind (·.merge)) else t

/-- Phase 4: the queue estimate of one ramp, with "queue held" (R30, R31). -/
def closeQueue (v : CloseView) (r : Ramp) (s : State) : State :=
  let m := s.meas r
  match m.results with
  | some res =>
    if v.metering r then
      s.setMeas r { m with queueEstimate := queueRaise (s.planInUse r) res (balance m.queueEstimate res),
                           results := some { res with queueHeld := res.arrivals.isNone } }
    else s.setMeas r { m with queueEstimate := 0 }
  | none => s.setMeas r { m with queueEstimate := 0 }

/-- Phase 5, stages 2 to 5 of a ramp; `none` where it is not metering with a plan in use (R42). A ramp left Stopping by a Pending Lane
Count that was cleared again, while its list demands a plan, has a plan in use, the model's choice (log 37). -/
def stageOf (v : CloseView) (s : State) (r : Ramp) : Option Stage5 :=
  if v.metering r then
    match s.planInUse r, (s.meas r).results with
    | some p, some res =>
      some (stage5 s.safetyInUse p (s.runsBuiltin r) (v.settings.laneCount.get r) (s.rate r).previousClose
        (s.meas r).queueEstimate res)
    | _, _ => none
  else none

/-- Phase 5, the hand-over of one ramp (R42, R59). -/
def handOver (v : CloseView) (xs : Stage5s) (applied : Bool) (r : Ramp) (s : State) : State :=
  match xs.get r with
  | some x =>
    let final := finalRateOf applied s.corridorRate.allowance xs r x
    let s := s.setRate r { previousClose := some final, lastFinal := some final,
                           close := some (closeResultsOf x final ((s.planList r).topOrigin = some .fallback)),
                           protection := x.queueRate.isSome }
    s.modSeq r fun q => { q with pendingTiming := some (timingOf x.limits final) }
  | none =>
    s.setRate r { s.rate r with previousClose := if v.metering r then (s.rate r).previousClose else none,
                                close := none, protection := false }

/-- Phase 5: stages 2 to 8 (R45 to R59). -/
def closeRates (v : CloseView) (s : State) : State :=
  let xs : Stage5s := Tab.ofFn (s.stageOf v)
  let c := allowanceStage v.settings (bottleneckResult v.values).occupancy s.corridorRate
  let applied := applies v.settings c xs
  let c := { c with results := some { coordination :=
                      if applied then some (sumDesired xs, excessOf xs c.allowance) else none },
                    notMet := notMetOf applied c.allowance xs }
  ({ s with corridorRate := c } : State).each ramps (handOver v xs applied)

/-- The history record of a ramp at a close (R33). -/
def historyOf (v : CloseView) (s : State) (r : Ramp) (res : RampResults) : RampHistory :=
  let st := v.states.get r
  let close := if st = .metering then (s.rate r).close else none
  let list := s.planList r
  { period := s.timer.number, stamp := s.stamp, state := st, plan := list.demanded, origin := list.topOrigin,
    merge := res.merge, arrivals := res.arrivals, departures := res.departures, queueEnd := res.queueEnd,
    queueEstimate := (s.meas r).queueEstimate, localRate := close.map (·.localRate),
    queueRate := close.bind (·.queueRate), lowLimit := close.map (·.lowLimit), highLimit := close.map (·.highLimit),
    desiredRate := close.map (·.desiredRate), floor := close.map (·.floor), finalRate := close.map (·.finalRate),
    greens := (lanesUpTo (v.settings.laneCount.get r)).map (v.greens.get r).get
    flags :=
      { noMergeData := res.merge.isNone, queueHeld := res.queueHeld, substituted := res.substituted
        protectionActive := (close.map (·.protectionActive)).getD false
        protectionLimited := (close.map (·.protectionLimited)).getD false
        rateClamped := (close.map (·.rateClamped)).getD false
        fallback := list.topOrigin = some .fallback
        testSeen := rampTestSeen v.values r } }

/-- Phase 6, one ramp's ring: appended, or emptied where the ramp is not configured (R32). -/
def closeHistory (v : CloseView) (r : Ramp) (s : State) : State :=
  let m := s.meas r
  match m.results with
  | some res => s.setMeas r { m with history := ringAppend m.history (s.historyOf v r res) }
  | none => s.setMeas r { m with history := [] }

/-- Phase 6, the corridor ring (R32, R34). -/
def closeCorridorHistory (s : State) : State :=
  let c := s.corridorRate
  let co := c.results.bind (·.coordination)
  let rec34 : CorridorHistory :=
    { period := s.timer.number, bottleneck := s.corridorMeasure.bottleneck.bind (·.occupancy), allowance := c.allowance,
      sumDesired := co.map (·.1), excess := co.map (·.2), heldCount := c.heldCount, allowanceHeld := c.allowanceHeld,
      coordinationSuspended := c.suspended, allowanceNotMet := c.notMet }
  { s with corridorMeasure := { s.corridorMeasure with history := ringAppend s.corridorMeasure.history rec34 } }

/-- The station conditions of a ramp after a close; a ramp or station that is not configured counts as no data (R36). -/
def closeConditions (r : Ramp) (s : State) : State :=
  let m := s.meas r
  s.setMeas r { m with mergeData := (m.results.bind (·.merge)).isSome, arrivalsData := (m.results.bind (·.arrivals)).isSome,
                       queueEndData := (m.results.bind (·.queueEnd)).isSome }

/-- STATION_DATA is caused at this close, `old` being the state before it (R36). -/
def stationDataEvent (v : CloseView) (old s : State) : Bool :=
  let edge := s.router.edges.stationData
  let conf (f : Identity → Bool) : Bool := !(members v.values f).isEmpty
  (ramps.any fun r => v.configured r &&
    (stationEdge edge (conf (inMerge r)) (old.meas r).mergeData (s.meas r).mergeData
      || stationEdge edge (conf (inArrivals r)) (old.meas r).arrivalsData (s.meas r).arrivalsData
      || stationEdge edge (conf (inQueueEnd r)) (old.meas r).queueEndData (s.meas r).queueEndData))
    || stationEdge edge (conf inBottleneck) old.corridorMeasure.bottleneckData s.corridorMeasure.bottleneckData

/-- An edge of one flag: set where it was clear, or under BOTH clear where it was set (R61, R62). -/
def flagEdge (edge : Edge) (was now : Bool) : Bool := (!was && now) || (edge = .both && was && !now)

/-- QUEUE is raised at this close (R61). -/
def queueEvent (old s : State) : Bool :=
  ramps.any fun r => flagEdge s.router.edges.queue (old.rate r).protection (s.rate r).protection

/-- ALLOWANCE is raised at this close (R62). -/
def allowanceEvent (old s : State) : Bool :=
  let e := s.router.edges.allowance
  flagEdge e old.corridorRate.notMet s.corridorRate.notMet
    || flagEdge e old.corridorRate.allowanceHeld s.corridorRate.allowanceHeld
    || flagEdge e old.corridorRate.suspended s.corridorRate.suspended

/-- FALLBACK is raised at this close for the entries stage 1 placed or removed: `mid` is the state before stage 1, `s` after it
(R82). -/
def fallbackEvent (mid s : State) : Bool :=
  ramps.any fun r => flagEdge s.router.edges.fallback (mid.planList r).fallback.isSome (s.planList r).fallback.isSome

/-- The next period (R21). -/
def nextPeriod (s : State) : State :=
  { s with timer := { s.timer with samples := 0, number := (s.timer.number + 1) % 65536 } }

/-- The phases of the close (R22). -/
def closePhases (old : State) : State :=
  let s := old.settleLoops
  let values : PeriodValues := s.loops.map Loop.value
  let s := s.closeLoops.useCorridor
  let v := s.closeView values
  let mid := s.closeStations v
  let s := mid.closeRunnability v
  let placed := fallbackEvent mid s
  let s := s.each ramps (closeQueue v)
  let s := s.closeRates v
  let s := (s.each ramps (closeHistory v)).closeCorridorHistory
  let s := s.each ramps closeConditions
  let s := { s with corridorMeasure := { s.corridorMeasure with
                      bottleneckData := (s.corridorMeasure.bottleneck.bind (·.occupancy)).isSome } }
  let s := s.raiseIf (stationDataEvent v old s) .stationData
  let s := s.raiseIf (queueEvent old s) .queue
  let s := s.raiseIf (allowanceEvent old s) .allowance
  let s := s.raiseIf placed .fallback
  s.nextPeriod.raise .period

/-- PERIOD_CLOSE, due when the period's last sample has been used (R22). -/
def periodClose (s : State) : State := if Config.samplesPerPeriod ≤ s.timer.samples then s.closePhases else s

end State

/-- PERIOD_CLOSE (R22). -/
def execPeriodClose (s : State) : Host.Outcome State Fault Refusal := .next (s.whenRunning State.periodClose)

end Sys2Proof.Machine
end

