-- ==== Sys2Proof/Machine/Reads.lean ====
section
/-! DEFINITION. What each READ shows (R18, R29, R35, R63, R71, R73, R87, R89, R93, R124, R139, R150, R166, R168, R181, R186). -/

namespace Sys2Proof.Machine

/-- The outcome of a request at its owning block: the state after it, its status and its payload. -/
structure Reply where
  state : State
  status : Status
  payload : Payload
  deriving DecidableEq, Repr

namespace Reply

/-- DONE without a payload. -/
def done (s : State) : Reply := { state := s, status := .done, payload := .empty }

/-- DONE with what a READ shows. -/
def shows (p : Payload) (s : State) : Reply := { state := s, status := .done, payload := p }

/-- A refusal, which carries no payload. -/
def refuse (st : Status) (s : State) : Reply := { state := s, status := st, payload := .empty }

end Reply

/-! ### Displayed times (log 18) -/

/-- A remaining time in ds, rounded up. -/
def remainingDs (samples : Nat) : Nat := (samples + 9) / Config.samplesPerDs
/-- A remaining time in s, rounded up. -/
def remainingSeconds (samples : Nat) : Nat := (samples + 99) / Config.samplesPerSecond
/-- An elapsed time in ds, rounded down. -/
def elapsedDs (samples : Nat) : Nat := samples / Config.samplesPerDs

/-- A lane as RAMP_STATUS shows it (R124). -/
def LaneState.show : LaneState → LaneShown
  | .dark => .dark
  | .restGreen => .restGreen
  | .red e => .red (elapsedDs e)
  | .green g => .green (remainingDs g)

/-- The lane, slot and timing items of RAMP_STATUS (R124). -/
def Sequencer.show (q : Sequencer) : SequencerShown :=
  { lanes := q.lanes.map LaneState.show, slotTimerDs := q.slotTimer.map remainingDs,
    heldSlot := q.heldSlot, lastLane := q.lastLane, timing := q.timing, pendingTiming := q.pendingTiming,
    redMinimum := q.redMinimum, warningSeconds := q.warningTimer.map remainingSeconds,
    clearanceSeconds := q.clearanceTimer.map remainingSeconds, greens := q.greens, lastVehicles := q.lastVehicles }

namespace State

/-- The lamps of a lane as RAMP_STATUS shows them (R139). -/
def lampShown (s : State) (r : Ramp) (ln : LaneNo) : LampShown :=
  let m := s.lamp r ln
  let item (k : IncidentKind) : Bool × Nat := (m.heldAtSample k, (m.qual k).run)
  { commanded := s.commanded r ln, sensed := m.sensed, conflict := item .conflict, strayGreen := item .strayGreen, redOut := item .redOut,
    greenOut := item .greenOut }

/-- The content of a RAMP_STATUS answer (R29, R63, R73, R124, R139). That the absent lane, slot and timing items of an UNCONFIGURED
ramp are all those of `sequencer`, the Red Minimum In Force, the Greens Given and the Last Vehicles Per Green among them, is the
model's choice (log 36). -/
def rampStatus (s : State) (r : Ramp) : RampStatus :=
  let q := s.seq r
  let conf := q.state ≠ .unconfigured
  { state := q.state, stopping := q.stopping, signFlashing := q.sign ≠ .off, laneCount := q.laneCount, pendingCount := q.pendingCount,
    sequencer := if conf then some q.show else none, supplyHold := q.supplyHold,
    wasMetering := s.retained.wasMetering.get r, faultDark := s.retained.faultDark.get r,
    holdFlag := s.retained.hold.get r, list := (s.planList r).entries, demanded := (s.planList r).demanded,
    results := if conf then (s.meas r).results else none, queueEstimate := (s.meas r).queueEstimate,
    close := if conf then (s.rate r).close else none, previousClose := (s.rate r).previousClose,
    lastFinal := (s.rate r).lastFinal, lamps := Tab.ofFn (s.lampShown r) }

/-- The content of a CORRIDOR_STATUS answer (R21, R29, R63). Before the first close after a restart, when the Corridor Results are
absent (R64), `applied` is shown as false, the model's choice (log 31). -/
def corridorStatus (s : State) : CorridorStatus :=
  let c := s.corridorRate
  let co := c.results.bind CorridorResults.coordination
  { period := s.timer.number, elapsedSeconds := min 29 (s.timer.samples / Config.samplesPerSecond),
    bottleneck := s.corridorMeasure.bottleneck, allowance := c.allowance, heldCount := c.heldCount,
    allowanceHeld := c.allowanceHeld, suspended := c.suspended, notMet := c.notMet, applied := co.isSome,
    sumDesired := co.map (·.1), excess := co.map (·.2) }

/-- What a LOOP answer shows of a period value (R18). -/
def lastShown (v : PeriodValue) : LastPeriod :=
  { onSamples := v.onSamples, count := v.count, valid := v.valid, testSeen := v.testSeen }

/-- The supervision part of a LOOP answer (R18). -/
def loopShown (s : State) (i : LoopNo) : LoopShown :=
  let l := s.loop i
  { state := l.state
    identity := if l.ident.isNone then .unknown else if l.state = .configLost then .lastIdentity else .stored
    stuckOn := l.stuckOn, chatter := l.chatter, silence := l.silence
    testRemainingDs := if l.testActive then remainingDs l.testTimer else 0
    onSamples := l.onSamples, count := l.count, notOkSeen := l.notOkSeen, rewritten := l.rewritten, testSeen := l.testSeen
    last := l.last.map lastShown }

/-- DONE for a readable record, DAMAGED for a damaged one, both with the stored content (R168, R185). -/
def showRecord (id : RecId) (p : Payload) (s : State) : Reply :=
  { state := s, status := if s.damaged id then .damaged else .done, payload := p }

/-! ### Rules of the READs, each after the port checks -/

/-- READ RAMP_STATUS (R124). -/
def readRampStatus (index : Byte) (s : State) : Reply :=
  match rampOf index with
  | some r => .shows (.rampStatus (s.rampStatus r)) s
  | none => .refuse .badValue s

/-- READ RAMP_HISTORY (R35). -/
def readRampHistory (age ramp : Byte) (s : State) : Reply :=
  match rampOf ramp with
  | none => .refuse .badValue s
  | some r =>
    if Config.ringCapacity ≤ age.toNat then .refuse .badValue s
    else if (s.seq r).state = .unconfigured then .refuse .empty s
    else match ringAt (s.meas r).history age.toNat with
      | some h => .shows (.bytes (encodeHistory h)) s
      | none => .refuse .empty s

/-- READ CORRIDOR_STATUS (R63). -/
def readCorridorStatus (s : State) : Reply := .shows (.corridorStatus s.corridorStatus) s

/-- READ CORRIDOR_HISTORY (R35). -/
def readCorridorHistory (age : Byte) (s : State) : Reply :=
  if Config.ringCapacity ≤ age.toNat then .refuse .badValue s
  else match ringAt s.corridorMeasure.history age.toNat with
    | some h => .shows (.corridorHistory h) s
    | none => .refuse .empty s

/-- READ LOOP: a use of the record, after the judgements of the latest sample (R18, log 6). -/
def readLoop (index : Byte) (s : State) : Reply :=
  match indexOf 48 index.toNat with
  | none => .refuse .badValue s
  | some i =>
    let s := s.settleLoops.useLoop i
    s.showRecord (.loop i) (.loop (0x00 :: encodeLoop (s.loopRec i)) (s.loopShown i))

/-- READ PLAN (R71). -/
def readPlan (index : Byte) (s : State) : Reply :=
  if index = 0 then
    let s := s.useRecord .safety
    .shows (.bytes (0x00 :: encodePlan (planZero s.safetyInUse))) s
  else match indexOf 32 index.toNat with
    | none => .refuse .badValue s
    | some k =>
      let s := s.useRecord (.plan k)
      s.showRecord (.plan k) (.bytes (recordPayload encodePlan (s.memory.plans.get k)))

/-- READ SCHEDULE (R93). -/
def readScheduleSlot (index : Byte) (s : State) : Reply :=
  match indexOf 48 index.toNat with
  | none => .refuse .badValue s
  | some i =>
    let s := s.useRecord (.schedule i)
    s.showRecord (.schedule i) (.bytes (recordPayload encodeSchedule (s.memory.schedule.get i)))

/-- READ SHIFT (R89). -/
def readShiftSlot (index : Byte) (s : State) : Reply :=
  match indexOf 2 index.toNat with
  | none => .refuse .badValue s
  | some i =>
    let s := s.useRecord (.shift i)
    s.showRecord (.shift i) (.bytes (recordPayload encodeShift (s.memory.shifts.get i)))

/-- READ SAFETY: the six fields and the Safety Lock (R166). -/
def readSafetyTable (s : State) : Reply :=
  let s := s.useRecord .safety
  s.showRecord .safety (.safety (0x00 :: encodeSafety s.memory.safety) s.memory.safetyLock)

/-- READ CORRIDOR_SETTINGS: a use that hands its values to every block that takes them (R186, R104, R141, R188). -/
def readCorridorRecord (s : State) : Reply :=
  let s := s.useCorridor
  s.showRecord .corridorSettings (.bytes (0x00 :: encodeCorridor s.memory.corridor))

/-- READ CLOCK (R87). -/
def readClock (s : State) : Reply :=
  .shows (.clock s.retained.clock s.retained.clock.weekday s.retained.clockValid) s

/-- The port item of an AUTHORITY answer (R150). -/
def portAuthority (x : LinkPort) : PortAuthority :=
  { silent := x.silent, silenceSeconds := x.silenceSeconds, lapseTime := x.lapseTime }

/-- READ AUTHORITY from port `p`, whose own state is shown as ACTIVE and its own timer at 0 (R150). A button is sensed at samples
alone: before the first one after a COLD or WARM restart it is shown as not pressed, the model's choice (log 38). -/
def readAuthority (p : Port) (s : State) : Reply :=
  .shows (.authority s.arbiter.holders s.arbiter.defaults
    ((s.ports.map portAuthority).set (portIdx p) { silent := false, silenceSeconds := 0, lapseTime := (s.port p).lapseTime })
    (s.buttons.map fun b => { pressed := b.latest = some true, run := b.run, holdReported := b.holdReported })) s

/-- READ INCIDENT (R139). -/
def readIncident (s : State) : Reply := .shows (.incident s.retained.incident) s

/-- READ MEMORY (R168). -/
def readMemory (s : State) : Reply :=
  let m := s.memory
  .shows (.memory { correctionCount := m.correctionCount, damagedList := m.damagedList, overflow := m.overflow,
                    safetyLock := m.safetyLock, scrubPosition := m.scrubPosition }) s

/-- The port that an index of 1 to 3 names (R186). -/
def portOf (index : Byte) : Option Port :=
  match index.toNat with
  | 1 => some .centre
  | 2 => some .cabinet
  | 3 => some .service
  | _ => none

/-- The content of a PORT answer (R186). -/
def portShown (s : State) (p : Port) : PortShown :=
  let x := s.port p
  { receiving := x.receiver ≠ .hunting, current := x.current.isSome, waiting := x.waiting.isSome,
    answers := x.answers.length, pending := x.pending, attention := s.attention p, baud := x.baud,
    watch := if p = .service then some s.router.watch else none }

/-- READ PORT (R186). -/
def readPort (index : Byte) (s : State) : Reply :=
  match portOf index with
  | some p => .shows (.port (s.portShown p)) s
  | none => .refuse .badValue s

/-- READ DEVICE (R181). -/
def readDevice (s : State) : Reply :=
  .shows (.device { vendor := "Malkrec", family := "Teglin", part := 640, cause := s.supply.cause,
                    storeFoundValid := s.supply.storeFoundValid, supplyAsserted := s.supply.sampled,
                    storeValid := s.retained.valid }) s

end State
end Sys2Proof.Machine
end

