-- ==== Sys2Proof/Machine/Writes.lean ====
section
/-! DEFINITION. The WRITE of each stored record: its checks in their order, and what an accepted one does (R3, R4, R67, R68, R89,
R92, R161, R166, R167, R187). -/

namespace Sys2Proof.Machine

/-! ### Loop records -/

/-- Two identities that the same limit of R3 counts together. -/
def sameStation (x y : Identity) : Bool :=
  x.role = y.role && x.ramp = y.ramp && (match x.role with
    | .checkin => x.lane = y.lane
    | .passage => x.lane = y.lane
    | _ => true)

/-- The configuration limit of a Role, check 5 of R3; UNUSED has none. -/
def stationLimit : Role → Option Nat
  | .unused => none
  | .merge => some 4
  | .bottleneck => some 5
  | .demand => some 2
  | .checkin => some 1
  | .passage => some 1
  | .queueEnd => some 2

/-- The configuration limits hold over a list of identities (R3). -/
def withinLimits (xs : List Identity) : Bool :=
  xs.all fun x => match stationLimit x.role with
    | some n => (xs.filter (sameStation x)).length ≤ n
    | none => true

/-- The Role serves a metered lane, and so has check 4 of R3. -/
def Role.servesLane : Role → Bool
  | .checkin => true
  | .passage => true
  | _ => false

/-- A loop after an accepted WRITE of its record (R4). Test presence, accumulators of a loop in use, and the latest presence are
not disturbed. -/
def Loop.rewrittenAs (x : Identity) (l : Loop) : Loop :=
  let l := { l.requalified with ident := some x, rewritten := true }
  if x.role = .unused then { l with state := .unused, onSamples := 0, count := 0 } else { l with state := .ok }

namespace State

/-- The identity by which the limit check counts a loop: its record's where that is readable, else its last identity (R3). -/
def countedIdentity (s : State) (i : LoopNo) : Option Identity :=
  if s.damaged (.loop i) then (s.loop i).ident else some (s.loopRec i).ident

/-- The loops that the limit check counts (R3). -/
def otherLoops (i : LoopNo) : List LoopNo := loopNos.filter (· ≠ i)

/-- Check 4 of R3: the Lane does not exceed the Lane Count of its Ramp. -/
def laneExists (s : State) (x : Identity) : Bool :=
  match x.ramp, x.lane with
  | some r, some n => n ≤ s.corridorInUse.laneCount.get r
  | _, _ => false

/-- Check 5 and what an accepted WRITE does (R3, R4). -/
def storeLoop (i : LoopNo) (x : LoopRec) (s : State) : Reply :=
  let s := s.each (otherLoops i) useLoop
  if withinLimits (x.ident :: (otherLoops i).filterMap s.countedIdentity) then
    let s := (s.setLoopRec i x).storedAnew (.loop i)
    .done (s.putLoop i ((s.loop i).rewrittenAs x.ident))
  else .refuse .badValue s

/-- WRITE LOOP (R3, R4), after the judgements of the latest sample (log 6). -/
def writeLoop (index : Byte) (w : WriteData) (s : State) : Reply :=
  match indexOf 48 index.toNat, w with
  | none, _ => .refuse .badValue s
  | _, .clear => .refuse .badValue s
  | some i, .fields bytes =>
    match decodeLoop bytes with
    | none => .refuse .badValue s
    | some x =>
      if !x.ident.wellFormed then .refuse .badValue s
      else
        let s := s.settleLoops
        if x.ident.role.servesLane then
          let s := s.useCorridor
          if s.laneExists x.ident then s.storeLoop i x else .refuse .badValue s
        else s.storeLoop i x

/-! ### The other records -/

/-- WRITE PLAN (R67, R68). -/
def writePlan (index : Byte) (w : WriteData) (s : State) : Reply :=
  match indexOf 32 index.toNat, w with
  | none, _ => .refuse .badValue s
  | some k, .clear => .done ((s.setPlan k none).storedAnew (.plan k))
  | some k, .fields bytes =>
    match decodePlan bytes with
    | some x => .done ((s.setPlan k (some x)).storedAnew (.plan k))
    | none => .refuse .badValue s

/-- WRITE SCHEDULE (R92). -/
def writeScheduleSlot (index : Byte) (w : WriteData) (s : State) : Reply :=
  match indexOf 48 index.toNat, w with
  | none, _ => .refuse .badValue s
  | some i, .clear => .done ((s.setScheduleRec i none).storedAnew (.schedule i))
  | some i, .fields bytes =>
    match decodeSchedule bytes with
    | some x => .done ((s.setScheduleRec i (some x)).storedAnew (.schedule i))
    | none => .refuse .badValue s

/-- WRITE SHIFT (R89). -/
def writeShiftSlot (index : Byte) (w : WriteData) (s : State) : Reply :=
  match indexOf 2 index.toNat, w with
  | none, _ => .refuse .badValue s
  | some i, .clear => .done ((s.setShift i none).storedAnew (.shift i))
  | some i, .fields bytes =>
    match decodeShift bytes with
    | some x => .done ((s.setShift i (some x)).storedAnew (.shift i))
    | none => .refuse .badValue s

/-- WRITE SAFETY (R166, R167). -/
def writeSafetyTable (w : WriteData) (s : State) : Reply :=
  if s.memory.safetyLock then .refuse .locked s
  else match w with
    | .clear => .refuse .badValue s
    | .fields bytes =>
      match decodeSafety bytes with
      | some x => .done ((s.setSafety x).storedAnew .safety)
      | none => .refuse .badValue s

/-- Check 3 of R187 for one ramp. -/
def laneCountKept (s : State) (x : CorridorRec) (r : Ramp) : Bool :=
  match (s.seq r).state with
  | .warning => x.laneCount.get r = (s.seq r).laneCount
  | .metering => x.laneCount.get r = (s.seq r).laneCount
  | .ending => x.laneCount.get r = (s.seq r).laneCount
  | _ => true

/-- What an accepted WRITE of the corridor settings from port `p` does (R187). -/
def storeCorridor (p : Port) (x : CorridorRec) (s : State) : State :=
  (((s.setCorridor x).storedAnew .corridorSettings).handCorridor (some p) x).reports

/-- WRITE CORRIDOR_SETTINGS from port `p` (R187). -/
def writeCorridorRecord (p : Port) (w : WriteData) (s : State) : Reply :=
  match w with
  | .clear => .refuse .badValue s
  | .fields bytes =>
    match decodeCorridor bytes with
    | none => .refuse .badValue s
    | some x => if ramps.all (s.laneCountKept x) then .done (s.storeCorridor p x) else .refuse .rampActive s

end State
end Sys2Proof.Machine
end

