-- ==== Sys2Proof/Machine/Requests.lean ====
section
/-! DEFINITION. The requests other than READ and WRITE, each after the port and authority checks (R7, R76 to R78, R88, R134 to
R136, R143, R144, R163, R167, R176, R190, R191). -/

namespace Sys2Proof.Machine

namespace State

/-- A port that is SILENT holds no record: record `i`, just claimed for it, goes on at once as R146 gives, with AUTHORITY for the port
(R149). -/
def passOn (p : Port) (i : Fin 7) (s : State) : State :=
  if (s.port p).silent then ((s.takeCorridor.giveUp p i).deliver .authority p).reports else s

/-- CLAIM (R143). A CLAIM that waited can be taken when its port has fallen SILENT; it is judged as any other, and the record it wins
goes on at once, the model's choice (log 39). -/
def claim (p : Port) (index : Byte) (s : State) : Reply :=
  match recordOf index with
  | none => .refuse .badValue s
  | some i =>
    match s.holder i with
    | none => .done ((s.setHolder i (some p)).passOn p i)
    | some h =>
      if h = p then .done s
      else if priority h < priority p then .done (((s.setHolder i (some p)).deliver .authority h).passOn p i)
      else { state := s, status := .heldElsewhere, payload := .bytes [holderByte (some h)] }

/-- YIELD (R144). -/
def yieldRecord (p : Port) (index : Byte) (s : State) : Reply :=
  match recordOf index with
  | none => .refuse .badValue s
  | some i => if s.holder i = some p then .done ((s.takeCorridor.giveUp p i).reports) else .refuse .notHeld s

/-- The COMMAND entry of a list is replaced (R76). -/
def placeCommand (r : Ramp) (a : Action) (o : Originator) (s : State) : State :=
  s.changeList r { s.planList r with command := some (a, o) }

/-- SELECT (R76). -/
def select (p : Port) (index plan : Byte) (s : State) : Reply :=
  match rampOf index, Action.ofCode plan.toNat with
  | some r, some a =>
    if (s.seq r).state = .unconfigured then .refuse .empty s
    else match a with
      | .off => .done (s.placeCommand r .off (.port p))
      | .plan k =>
        if (s.memory.plans.get k).isNone then .refuse .empty s
        else .done ((s.useRecord (.plan k)).placeCommand r (.plan k) (.port p))
  | _, _ => .refuse .badValue s

/-- WITHDRAW (R77). -/
def withdraw (index : Byte) (s : State) : Reply :=
  match rampOf index with
  | none => .refuse .badValue s
  | some r =>
    if (s.seq r).state = .unconfigured then .refuse .empty s
    else .done (s.changeList r { s.planList r with command := none })

/-- CLEAR_HOLD (R78). -/
def clearHold (index : Byte) (s : State) : Reply :=
  match rampOf index with
  | none => .refuse .badValue s
  | some r =>
    if (s.seq r).state = .unconfigured then .refuse .empty s
    else .done ((s.setHoldFlag r false).changeList r { s.planList r with hold := false })

/-- A lane of the ramp is sensed green or both (R136). -/
def greenSensed (s : State) (r : Ramp) : Bool := laneNos.any fun ln => (s.lamp r ln).sensed.greenLit

/-- The ramp leaves DARK_FAULT for OFF and goes on (R114, R136). -/
def leaveDarkFault (r : Ramp) (s : State) : State := ((s.setFaultDark r false).setRampState r .off).reachOff r

/-- RESTART_RAMP (R136). -/
def restartRamp (index : Byte) (s : State) : Reply :=
  match rampOf index with
  | none => .refuse .badValue s
  | some r =>
    match (s.seq r).state with
    | .unconfigured => .refuse .empty s
    | .darkFault => if s.greenSensed r then .refuse .conditionPresent s else .done (s.leaveDarkFault r)
    | _ => .done s

/-- CLEAR_INCIDENT (R134). -/
def clearIncident (s : State) : Reply := .done (s.setIncident none)

/-- The rank a TEST_INCIDENT names (R194). -/
def rankOfCode (b : Byte) : Option Rank :=
  match b.toNat with
  | 0 => some .high
  | 1 => some .low
  | _ => none

/-- TEST_INCIDENT (R135). -/
def testIncident (index lane rank : Byte) (s : State) : Reply :=
  match rampOf index, indexOf 2 lane.toNat, rankOfCode rank with
  | some r, some ln, some k =>
    if (s.seq r).state = .unconfigured then .refuse .empty s
    else .done (s.takeIncident { ramp := r, lane := ln, kind := .test, commanded := s.commanded r ln,
                                 sensed := (s.lamp r ln).sensed } k)
  | _, _, _ => .refuse .badValue s

/-- SET_CLOCK (R88). -/
def setClock (year month day hour minute second : Byte) (s : State) : Reply :=
  let t : DateTime := { year := year.toNat, month := month.toNat, day := day.toNat, hour := hour.toNat,
                        minute := minute.toNat, second := second.toNat }
  if t.wf then .done (s.acceptClock t) else .refuse .badValue s

/-- LOCK_SAFETY (R167). -/
def lockSafety (s : State) : Reply := .done { s with memory := { s.memory with safetyLock := true } }

/-- TEST_PRESENCE (R7). The test timer counts samples, ten to the ds (R8). -/
def testPresence (index duration : Byte) (s : State) : Reply :=
  match indexOf 48 index.toNat, between 1 100 duration.toNat with
  | some i, some d =>
    .done (s.setLoop i { s.loop i with testActive := true, testTimer := d * Config.samplesPerDs })
  | _, _ => .refuse .badValue s

/-- The record that an object kind and an index name; the index of SAFETY and CORRIDOR_SETTINGS is not used (R158, R185). -/
def recIdOf (obj : ObjectKind) (index : Byte) : Option RecId :=
  match obj with
  | .loop => (indexOf 48 index.toNat).map .loop
  | .plan => (indexOf 32 index.toNat).map .plan
  | .schedule => (indexOf 48 index.toNat).map .schedule
  | .shift => (indexOf 2 index.toNat).map .shift
  | .safety => some .safety
  | .corridorSettings => some .corridorSettings
  | _ => none

/-- INSERT_ERROR (R163). -/
def insertError (obj : ObjectKind) (index errors : Byte) (s : State) : Reply :=
  match recIdOf obj index with
  | none => .refuse .badValue s
  | some id =>
    if errors ≠ 1 ∧ errors ≠ 2 then .refuse .badValue s
    else if !s.memory.holds id then .refuse .empty s
    else if errors = 1 then .done (s.addError id) else .done ((s.addError id).addError id)

/-- WATCH: AUTHORITY (bit 4) and the upper four bits are refused (R191, R194). -/
def watch (classes : BitVec 16) (s : State) : Reply :=
  if classes &&& 0xF010 ≠ 0 then .refuse .badValue s
  else .done { s with router := { s.router with watch := classes.setWidth 12 } }

/-- TAKE_EVENTS (R190). -/
def takeEvents (p : Port) (s : State) : Reply :=
  { state := s.modPort p fun x => { x with pending := 0 }, status := .done, payload := .bytes (classBytes (s.port p).pending) }

end State
end Sys2Proof.Machine
end

