-- ==== Sys2Proof/Machine/Links.lean ====
section
/-! DEFINITION. The link ports (chapter 11): the port and authority checks, the taking of a request, the placing of a valid frame,
the receiver, the end of an answer, and a port's silence (8.3). -/

namespace Sys2Proof.Machine

/-! ### Checks before the owning block (R148) -/

/-- The port may send this request (R148, table). -/
def portAllows (p : Port) : Req → Bool
  | .clearHold _ => p ≠ .centre
  | .write .safety _ _ => p = .service
  | .lockSafety _ => p = .service
  | .testPresence _ _ => p = .service
  | .insertError _ _ _ => p = .service
  | .testIncident _ _ _ => p = .service
  | .watch _ _ => p = .service
  | _ => true

/-- The authority record that a request from a port needs; none where it needs none, and none where the ramp it names lies outside
1 to 6 (R148). -/
def authorityNeeded (p : Port) : Req → Option (Fin 7)
  | .select index _ => (rampOf index).map rampRecord
  | .withdraw index => (rampOf index).map rampRecord
  | .restartRamp index => (rampOf index).map rampRecord
  | .clearHold index => (rampOf index).map rampRecord
  | .write _ _ _ => some corridorRecord
  | .setClock _ _ _ _ _ _ _ => some corridorRecord
  | .warmRestart _ => some corridorRecord
  | .lockSafety _ => some corridorRecord
  | .clearIncident _ => if p = .service then none else some corridorRecord
  | _ => none

namespace State

/-- The port holds the record that the request needs (R148). -/
def authorized (s : State) (p : Port) (q : Req) : Bool :=
  match authorityNeeded p q with
  | some i => s.holder i = some p
  | none => true

/-- A READ from port `p` at the block that owns its object. -/
def ownerRead (p : Port) (obj : ObjectKind) (index ramp : Byte) (s : State) : Reply :=
  match obj with
  | .rampStatus => s.readRampStatus index
  | .rampHistory => s.readRampHistory index ramp
  | .corridorStatus => s.readCorridorStatus
  | .corridorHistory => s.readCorridorHistory index
  | .loop => s.readLoop index
  | .plan => s.readPlan index
  | .schedule => s.readScheduleSlot index
  | .shift => s.readShiftSlot index
  | .safety => s.readSafetyTable
  | .corridorSettings => s.readCorridorRecord
  | .clock => s.readClock
  | .authority => s.readAuthority p
  | .incident => s.readIncident
  | .memory => s.readMemory
  | .port => s.readPort index
  | .device => s.readDevice

/-- A WRITE from port `p` at the block that owns its object. -/
def ownerWrite (p : Port) (kind : RecKind) (index : Byte) (w : WriteData) (s : State) : Reply :=
  match kind with
  | .loop => s.writeLoop index w
  | .plan => s.writePlan index w
  | .schedule => s.writeScheduleSlot index w
  | .shift => s.writeShiftSlot index w
  | .safety => s.writeSafetyTable w
  | .corridorSettings => s.writeCorridorRecord p w

/-- A request at its owning block (R148 check 3). -/
def owner (p : Port) (q : Req) (s : State) : Reply :=
  match q with
  | .read obj index ramp => s.ownerRead p obj index ramp
  | .write kind index w => s.ownerWrite p kind index w
  | .claim index => s.claim p index
  | .yieldRecord index => s.yieldRecord p index
  | .select index plan => s.select p index plan
  | .withdraw index => s.withdraw index
  | .restartRamp index => s.restartRamp index
  | .clearHold index => s.clearHold index
  | .clearIncident _ => s.clearIncident
  | .testIncident index lane rank => s.testIncident index lane rank
  | .setClock _ y mo d h mi sec => s.setClock y mo d h mi sec
  | .lockSafety _ => s.lockSafety
  | .testPresence index duration => s.testPresence index duration
  | .insertError obj index errors => s.insertError obj index errors
  | .watch _ classes => s.watch classes
  | .takeEvents _ => s.takeEvents p
  | .warmRestart _ => .done s
  | .bad _ _ => .refuse .badRequest s

/-- The checks of a taken request in their order, then its owning block (R185, R148). -/
def perform (p : Port) (q : Req) (s : State) : Reply :=
  if !q.wf then .refuse .badRequest s
  else if !portAllows p q then .refuse .notOnPort s
  else if !s.authorized p q then .refuse .notHeld s
  else s.owner p q

/-! ### Answers -/

/-- An answer joins the port's queue (R184). -/
def pushAnswer (p : Port) (a : Answer) (s : State) : State := s.modPort p fun x => { x with answers := x.answers ++ [a] }

/-- The answer to a request (R184). -/
def answerTo (q : Req) (st : Status) (payload : Payload) (role : AnswerRole) : Answer :=
  { kind := q.kindByte ||| 0x80, status := st, index := q.indexByte, payload, role }

/-- What the end of a request's answer means: an accepted WARM_RESTART asks for the restart (R176, R184). -/
def answerRole (q : Req) (st : Status) : AnswerRole :=
  match q, st with
  | .warmRestart _, .done => .warmRestart
  | _, _ => .current

/-- The Current Request is taken: carried out, and its answer composed (R184). -/
def takeRequest (p : Port) (q : Req) (s : State) : State :=
  let r := s.perform p q
  r.state.pushAnswer p (answerTo q r.status r.payload (answerRole q r.status))

/-- A request becomes the Current Request and is taken at once (R184). -/
def beginRequest (p : Port) (q : Req) (s : State) : State :=
  (s.modPort p fun x => { x with current := some q }).takeRequest p q

/-- A request is placed at its port: taken, made to wait, or answered BUSY (R184). -/
def place (p : Port) (q : Req) (s : State) : State :=
  match (s.port p).current, (s.port p).waiting with
  | none, _ => s.beginRequest p q
  | some _, none => s.modPort p fun x => { x with waiting := some q }
  | some _, some _ => s.pushAnswer p (answerTo q .busy .empty .busy)

/-- A SILENT port returns to ACTIVE and regains its default records (R147). It is ACTIVE before the read of the settings, so where that
read discovers them damaged, neither MEMORY nor the RAMP_STATE of its reports fails over for it: the model's choice (log 44). -/
def returnToActive (p : Port) (s : State) : State :=
  let s := s.modPort p fun x => { x with silent := false }
  (s.takeCorridor.each recordNos (regain p)).reports

/-- A valid frame restarts the Silence Timer, and returns a SILENT port to ACTIVE (R145, R147). -/
def heard (p : Port) (s : State) : State :=
  let was := (s.port p).silent
  let s := s.modPort p fun x => { x with silenceSeconds := 0, silencePart := 0 }
  if was then s.returnToActive p else s

/-- The completion of a frame whose CRC matches: discarded with the Answer Queue full, else valid, and its request is placed
(R183, R184). The receiver is back in HUNTING (R182). -/
def submit (p : Port) (q : Req) (s : State) : State :=
  let s := s.modPort p fun x => { x with receiver := .hunting }
  if Config.answerCapacity ≤ (s.port p).answers.length then s else (s.heard p).place p q

/-- The bytes a port is sending: the frame of the first answer in its queue (R184). -/
def sending (layout : Payload → List Byte) (s : State) (p : Port) : List Byte :=
  match (s.port p).answers with
  | a :: _ => a.frame layout
  | [] => []

/-- ANSWER_SENT: the last byte of the first queued answer has been sent (R184). -/
def answerSent (p : Port) (s : State) : State :=
  match (s.port p).answers with
  | [] => s
  | a :: rest =>
    let s := s.modPort p fun x => { x with answers := rest }
    match a.role with
    | .busy => s
    | .warmRestart => { s with supply := { s.supply with warmDue := true } }
    | .current =>
      match (s.port p).waiting with
      | none => s.modPort p fun x => { x with current := none }
      | some q => (s.modPort p fun x => { x with waiting := none }).beginRequest p q

/-! ### The receiver (R182, R183) -/

/-- The length byte of a Frame Buffer that holds it. -/
def frameLength : List Byte → Option Nat
  | _ :: len :: _ => some len.toNat
  | _ => none

/-- The length byte has been received and is below 3 or above 124 (R182). -/
def lengthBad (buffer : List Byte) : Bool :=
  match frameLength buffer with
  | some n => n < Config.lengthMin || Config.lengthMax < n
  | none => false

/-- The frame is complete: length + 4 bytes (R182). -/
def frameFull (buffer : List Byte) : Bool :=
  match frameLength buffer with
  | some n => !lengthBad buffer && n + 4 ≤ buffer.length
  | none => false

/-- The receiver of a port. -/
def receiver (s : State) (p : Port) : Receiver := (s.port p).receiver

/-- The receiver of a port is replaced. -/
def setReceiver (p : Port) (x : Receiver) (s : State) : State := s.modPort p fun y => { y with receiver := x }

/-- BAD_LENGTH, due when the length byte cannot be one of a frame (R183). -/
def badLength (p : Port) (s : State) : State :=
  match s.receiver p with
  | .receiving buffer _ => if lengthBad buffer then s.setReceiver p .hunting else s
  | .hunting => s

/-- FRAME_COMPLETE, due when length + 4 bytes have been received; a bad CRC discards the frame (R182 to R184). -/
def frameComplete (p : Port) (s : State) : State :=
  match s.receiver p with
  | .receiving buffer _ =>
    if frameFull buffer then
      if frameCrcOk buffer then s.submit p (frameRequest buffer) else s.setReceiver p .hunting
    else s
  | .hunting => s

/-- INTER_BYTE_TIMEOUT, due when 50 ms have passed after a byte of an unfinished frame (R183). -/
def interByteTimeout (p : Port) (s : State) : State :=
  match s.receiver p with
  | .receiving buffer idle =>
    if !lengthBad buffer && !frameFull buffer && Config.interByteLimit ≤ idle then s.setReceiver p .hunting else s
  | .hunting => s

/-- What the bytes received so far have made due at a port. -/
def settleFrame (p : Port) (s : State) : State := ((s.badLength p).frameComplete p).interByteTimeout p

/-- A request row: what the bytes received before it have made due is taken, then the row's own frame is complete (R183, R184,
log 4). -/
def requestRow (p : Port) (q : Req) (s : State) : State := (s.settleFrame p).submit p q

/-- BYTE_RECEIVED: hunting passes over every byte but 0xA5; receiving appends (R182). -/
def byteReceived (p : Port) (b : Byte) (s : State) : State :=
  let s := s.settleFrame p
  match s.receiver p with
  | .hunting => if b = Config.startMarker then s.setReceiver p (.receiving [b] 0) else s
  | .receiving buffer _ => s.setReceiver p (.receiving (buffer ++ [b]) 0)

/-! ### Silence -/

/-- PORT_LAPSE, due when an ACTIVE port's Silence Timer has reached its Lapse Time in force, but for the sender of a WRITE until its
timer's next count (R146, log 40). Where the centre's own lapse reads the settings and discovers them damaged, MEMORY is raised while the
centre is still ACTIVE, and the reports follow when it is SILENT: the model's choice (log 43). -/
def portLapse (p : Port) (s : State) : State :=
  if (s.port p).silent = false ∧ (s.port p).spared = false ∧ (s.port p).lapseTime ≤ (s.port p).silenceSeconds then
    let s := s.takeCorridor
    (if (s.port p).silent then s else s.becomeSilent p).reports
  else s

end State

/-! ### Meanings -/

/-- PORT_LAPSE (R146). -/
def execPortLapse (p : Port) (s : State) : Host.Outcome State Fault Refusal := .next (s.whenRunning (State.portLapse p))
/-- BAD_LENGTH (R183). -/
def execBadLength (p : Port) (s : State) : Host.Outcome State Fault Refusal := .next (s.whenRunning (State.badLength p))
/-- INTER_BYTE_TIMEOUT (R183). -/
def execInterByteTimeout (p : Port) (s : State) : Host.Outcome State Fault Refusal :=
  .next (s.whenRunning (State.interByteTimeout p))
/-- FRAME_COMPLETE (R184). -/
def execFrameComplete (p : Port) (s : State) : Host.Outcome State Fault Refusal :=
  .next (s.whenRunning (State.frameComplete p))
/-- ANSWER_SENT (R184). -/
def execAnswerSent (p : Port) (s : State) : Host.Outcome State Fault Refusal := .next (s.whenRunning (State.answerSent p))
/-- BYTE_RECEIVED (R182). -/
def execByteReceived (p : Port) (b : Byte) (s : State) : Host.Outcome State Fault Refusal :=
  .next (s.whenRunning (State.byteReceived p b))

/-- READ RAMP_STATUS (R124). -/
def execReadRampStatus (p : Port) (index : Byte) (s : State) : Host.Outcome State Fault Refusal :=
  .next (s.whenRunning (State.requestRow p (.read .rampStatus index 0)))
/-- READ RAMP_HISTORY (R35). -/
def execReadRampHistory (p : Port) (age ramp : Byte) (s : State) : Host.Outcome State Fault Refusal :=
  .next (s.whenRunning (State.requestRow p (.read .rampHistory age ramp)))
/-- READ CORRIDOR_STATUS (R63). -/
def execReadCorridorStatus (p : Port) (s : State) : Host.Outcome State Fault Refusal :=
  .next (s.whenRunning (State.requestRow p (.read .corridorStatus 0 0)))
/-- READ CORRIDOR_HISTORY (R35). -/
def execReadCorridorHistory (p : Port) (age : Byte) (s : State) : Host.Outcome State Fault Refusal :=
  .next (s.whenRunning (State.requestRow p (.read .corridorHistory age 0)))
/-- READ LOOP (R18). -/
def execReadLoop (p : Port) (index : Byte) (s : State) : Host.Outcome State Fault Refusal :=
  .next (s.whenRunning (State.requestRow p (.read .loop index 0)))
/-- READ PLAN (R71). -/
def execReadPlan (p : Port) (index : Byte) (s : State) : Host.Outcome State Fault Refusal :=
  .next (s.whenRunning (State.requestRow p (.read .plan index 0)))
/-- READ SCHEDULE (R93). -/
def execReadSchedule (p : Port) (index : Byte) (s : State) : Host.Outcome State Fault Refusal :=
  .next (s.whenRunning (State.requestRow p (.read .schedule index 0)))
/-- READ SHIFT (R89). -/
def execReadShift (p : Port) (index : Byte) (s : State) : Host.Outcome State Fault Refusal :=
  .next (s.whenRunning (State.requestRow p (.read .shift index 0)))
/-- READ SAFETY (R166). -/
def execReadSafety (p : Port) (s : State) : Host.Outcome State Fault Refusal :=
  .next (s.whenRunning (State.requestRow p (.read .safety 0 0)))
/-- READ CORRIDOR_SETTINGS (R186). -/
def execReadCorridorSettings (p : Port) (s : State) : Host.Outcome State Fault Refusal :=
  .next (s.whenRunning (State.requestRow p (.read .corridorSettings 0 0)))
/-- READ CLOCK (R87). -/
def execReadClock (p : Port) (s : State) : Host.Outcome State Fault Refusal :=
  .next (s.whenRunning (State.requestRow p (.read .clock 0 0)))
/-- READ AUTHORITY (R150). -/
def execReadAuthority (p : Port) (s : State) : Host.Outcome State Fault Refusal :=
  .next (s.whenRunning (State.requestRow p (.read .authority 0 0)))
/-- READ INCIDENT (R139). -/
def execReadIncident (p : Port) (s : State) : Host.Outcome State Fault Refusal :=
  .next (s.whenRunning (State.requestRow p (.read .incident 0 0)))
/-- READ MEMORY (R168). -/
def execReadMemory (p : Port) (s : State) : Host.Outcome State Fault Refusal :=
  .next (s.whenRunning (State.requestRow p (.read .memory 0 0)))
/-- READ PORT (R186). -/
def execReadPort (p : Port) (index : Byte) (s : State) : Host.Outcome State Fault Refusal :=
  .next (s.whenRunning (State.requestRow p (.read .port index 0)))
/-- READ DEVICE (R181). -/
def execReadDevice (p : Port) (s : State) : Host.Outcome State Fault Refusal :=
  .next (s.whenRunning (State.requestRow p (.read .device 0 0)))
/-- WRITE LOOP (R3, R4). -/
def execWriteLoop (p : Port) (index : Byte) (w : WriteData) (s : State) : Host.Outcome State Fault Refusal :=
  .next (s.whenRunning (State.requestRow p (.write .loop index w)))
/-- WRITE PLAN (R67, R68). -/
def execWritePlan (p : Port) (index : Byte) (w : WriteData) (s : State) : Host.Outcome State Fault Refusal :=
  .next (s.whenRunning (State.requestRow p (.write .plan index w)))
/-- WRITE SCHEDULE (R92). -/
def execWriteSchedule (p : Port) (index : Byte) (w : WriteData) (s : State) : Host.Outcome State Fault Refusal :=
  .next (s.whenRunning (State.requestRow p (.write .schedule index w)))
/-- WRITE SHIFT (R89). -/
def execWriteShift (p : Port) (index : Byte) (w : WriteData) (s : State) : Host.Outcome State Fault Refusal :=
  .next (s.whenRunning (State.requestRow p (.write .shift index w)))
/-- WRITE SAFETY (R166). -/
def execWriteSafety (p : Port) (w : WriteData) (s : State) : Host.Outcome State Fault Refusal :=
  .next (s.whenRunning (State.requestRow p (.write .safety 0 w)))
/-- WRITE CORRIDOR_SETTINGS (R187). -/
def execWriteCorridorSettings (p : Port) (w : WriteData) (s : State) : Host.Outcome State Fault Refusal :=
  .next (s.whenRunning (State.requestRow p (.write .corridorSettings 0 w)))
/-- CLAIM (R143). -/
def execClaim (p : Port) (index : Byte) (s : State) : Host.Outcome State Fault Refusal :=
  .next (s.whenRunning (State.requestRow p (.claim index)))
/-- YIELD (R144). -/
def execYieldRecord (p : Port) (index : Byte) (s : State) : Host.Outcome State Fault Refusal :=
  .next (s.whenRunning (State.requestRow p (.yieldRecord index)))
/-- SELECT (R76). -/
def execSelect (p : Port) (index plan : Byte) (s : State) : Host.Outcome State Fault Refusal :=
  .next (s.whenRunning (State.requestRow p (.select index plan)))
/-- WITHDRAW (R77). -/
def execWithdraw (p : Port) (index : Byte) (s : State) : Host.Outcome State Fault Refusal :=
  .next (s.whenRunning (State.requestRow p (.withdraw index)))
/-- CLEAR_HOLD (R78). -/
def execClearHold (p : Port) (index : Byte) (s : State) : Host.Outcome State Fault Refusal :=
  .next (s.whenRunning (State.requestRow p (.clearHold index)))
/-- RESTART_RAMP (R136). -/
def execRestartRamp (p : Port) (index : Byte) (s : State) : Host.Outcome State Fault Refusal :=
  .next (s.whenRunning (State.requestRow p (.restartRamp index)))
/-- CLEAR_INCIDENT (R134). -/
def execClearIncident (p : Port) (s : State) : Host.Outcome State Fault Refusal :=
  .next (s.whenRunning (State.requestRow p (.clearIncident 0)))
/-- TEST_INCIDENT (R135). -/
def execTestIncident (p : Port) (index lane rank : Byte) (s : State) : Host.Outcome State Fault Refusal :=
  .next (s.whenRunning (State.requestRow p (.testIncident index lane rank)))
/-- SET_CLOCK (R88). -/
def execSetClock (p : Port) (year month day hour minute second : Byte) (s : State) : Host.Outcome State Fault Refusal :=
  .next (s.whenRunning (State.requestRow p (.setClock 0 year month day hour minute second)))
/-- LOCK_SAFETY (R167). -/
def execLockSafety (p : Port) (s : State) : Host.Outcome State Fault Refusal :=
  .next (s.whenRunning (State.requestRow p (.lockSafety 0)))
/-- TEST_PRESENCE (R7). -/
def execTestPresence (p : Port) (index duration : Byte) (s : State) : Host.Outcome State Fault Refusal :=
  .next (s.whenRunning (State.requestRow p (.testPresence index duration)))
/-- INSERT_ERROR (R163). -/
def execInsertError (p : Port) (obj : ObjectKind) (index errors : Byte) (s : State) : Host.Outcome State Fault Refusal :=
  .next (s.whenRunning (State.requestRow p (.insertError obj index errors)))
/-- WATCH (R191). -/
def execWatch (p : Port) (classes : BitVec 16) (s : State) : Host.Outcome State Fault Refusal :=
  .next (s.whenRunning (State.requestRow p (.watch 0 classes)))
/-- TAKE_EVENTS (R190). -/
def execTakeEvents (p : Port) (s : State) : Host.Outcome State Fault Refusal :=
  .next (s.whenRunning (State.requestRow p (.takeEvents 0)))
/-- WARM_RESTART (R176). -/
def execWarmRestart (p : Port) (s : State) : Host.Outcome State Fault Refusal :=
  .next (s.whenRunning (State.requestRow p (.warmRestart 0)))

end Sys2Proof.Machine
end

