-- ==== Sys2Proof/Machine/Panel.lean ====
section
/-! DEFINITION. The cabinet panel (8.8): sampling of the buttons, the short press and the long hold. -/

namespace Sys2Proof.Machine

namespace Button

/-- A pressed sample: it begins a press after a released sample, or continues one; `configured` says that the ramp is not
UNCONFIGURED (R152). The first sample after a restart begins no press (R157). -/
def pressed (configured : Bool) (b : Button) : Button :=
  match b.latest, b.press with
  | some false, _ =>
    { b with latest := some true, press := if configured then .judged else .ignored, run := 1, holdReported := false }
  | _, .none => { b with latest := some true }
  | _, .ignored => { b with latest := some true, run := min Config.holdRun (b.run + 1) }
  | _, .judged =>
    let instant := configured && b.run + 1 = Config.holdRun
    { b with latest := some true, run := min Config.holdRun (b.run + 1), holdReported := b.holdReported || instant,
             holdDue := b.holdDue || instant }

/-- A released sample: it ends the press, which was short when its Hold Reported mark is clear (R152). -/
def released (configured : Bool) (b : Button) : Button :=
  { b with latest := some false, press := .none, run := 0,
           shortDue := b.shortDue || (configured && b.press = .judged && !b.holdReported) }

/-- One sample of the button (R152). -/
def sample (configured down : Bool) (b : Button) : Button := if down then b.pressed configured else b.released configured

end Button

namespace State

/-- The ramp is not UNCONFIGURED. -/
def configuredRamp (s : State) (r : Ramp) : Bool := (s.seq r).state ≠ .unconfigured

/-- The sample of the six buttons (R152). -/
def sampleButtons (inp : Inputs) (s : State) : State :=
  s.each ramps fun r t => t.setButton r ((t.button r).sample (t.configuredRamp r) (inp.panel.getLsbD r.val))

/-- PANEL_SHORT_PRESS: COMMAND OFF with originator PANEL is placed (R153, R79). -/
def panelShortPress (r : Ramp) (s : State) : State :=
  if (s.button r).shortDue then
    let s := s.setButton r { s.button r with shortDue := false }
    if s.configuredRamp r then s.changeList r { s.planList r with command := some (.off, .panel) } else s
  else s

/-- The long hold: the HOLD entry, the ramp dark at once, the retained flag, in that order (R154). -/
def longHold (r : Ramp) (s : State) : State :=
  (((s.setList r { s.planList r with hold := true }).fallbackTest r).forceOff r).setHoldFlag r true

/-- PANEL_LONG_HOLD, due at the 4 s instant (R154). -/
def panelLongHold (r : Ramp) (s : State) : State :=
  if (s.button r).holdDue then
    let s := s.setButton r { s.button r with holdDue := false }
    if s.configuredRamp r then s.longHold r else s
  else s

end State

/-! ### Meanings -/

/-- PANEL_SHORT_PRESS (R153). -/
def execPanelShortPress (r : Ramp) (s : State) : Host.Outcome State Fault Refusal :=
  .next (s.whenRunning (State.panelShortPress r))
/-- PANEL_LONG_HOLD (R154). -/
def execPanelLongHold (r : Ramp) (s : State) : Host.Outcome State Fault Refusal :=
  .next (s.whenRunning (State.panelLongHold r))

end Sys2Proof.Machine
end

