-- ==== Sys2Proof/Machine/Restart.lean ====
section
/-! DEFINITION. The Supply Monitor and the restarts (chapter 10): supply-fail, the four restart kinds with the restart state of every
block, the rebuild of the lists (R83), the reset line, and the loss of main supply and of the battery. -/

namespace Sys2Proof.Machine

/-- The Baud Rate of a port's two strap lines (R182). -/
def baudOf (line1 line2 : Bool) : Baud :=
  match line1, line2 with
  | false, false => .b9600
  | false, true => .b19200
  | true, false => .b38400
  | true, true => .b115200

/-- The Baud Rate that the straps select for a port (R182). -/
def strapBaud (st : Straps) (p : Port) : Baud :=
  baudOf (st.tied.getLsbD (2 * (portIdx p).val)) (st.tied.getLsbD (2 * (portIdx p).val + 1))

/-- The restart policy places COMMAND OFF (RESTART) (R177). -/
def policyStops (policy : RestartPolicy) (wasMetering : Bool) : Bool :=
  match policy with
  | .resumeSchedule => false
  | .resumePrior => !wasMetering
  | .stayOff => true

/-- The start state of a ramp (R125). -/
def startState (faultDark : Bool) (laneCount : Nat) : RampState :=
  if faultDark then .darkFault else if laneCount = 0 then .unconfigured else .off

/-- A loop as a restart read leaves it (R19). -/
def Loop.restarted (damaged : Bool) (x : LoopRec) : Loop :=
  if damaged then .afresh .configLost none
  else .afresh (if x.ident.role = .unused then .unused else .ok) (some x.ident)

namespace State

/-! ### Supply-fail (R173) -/

/-- The capture of the was-metering flags: set in WARNING or METERING (R173 step 1). -/
def captureWasMetering (s : State) : State :=
  let flags := s.sequencers.map fun (q : Sequencer) => decide (q.state = .warning ∨ q.state = .metering)
  { s with retained := { s.retained with wasMetering := flags } }

/-- The Supply Hold is set on every ramp that is not UNCONFIGURED (R173, R178). -/
def setSupplyHolds (s : State) : State :=
  let held := s.sequencers.map fun (q : Sequencer) => { q with supplyHold := q.supplyHold || q.state ≠ .unconfigured }
  { s with sequencers := held }

/-- The Supply Input takes a level (R173). -/
def setSupplyInput (level : Bool) (s : State) : State := { s with supply := { s.supply with input := level } }

/-- The assertion of the supply-fail input (R173). -/
def failSupply (s : State) : State := (((s.setSupplyInput true).captureWasMetering).setSupplyHolds).each ramps forceOff

/-- SUPPLY_FAIL_ASSERTED, due when the latest sample found the input asserted and it stood deasserted (R173, log 8). -/
def supplyFailAsserted (s : State) : State := if s.supply.sampled && !s.supply.input then s.failSupply else s

/-! ### What every restart does -/

/-- The Restart Cause (R175). -/
def setCause (k : RestartKind) (s : State) : State := { s with supply := { s.supply with cause := k } }

/-- One list of the rebuild before the fallback test (R83 steps 1 to 3). -/
def rebuiltList (s : State) (policy : RestartPolicy) (scheduled : Ramp → Option Action) (r : Ramp) : PlanList :=
  { hold := s.retained.hold.get r, fallback := none,
    command := if policyStops policy (s.retained.wasMetering.get r) then some (.off, .restart) else none,
    schedule := scheduled r }

/-- The rebuild of the lists (R83), with the catch-up where the clock is valid (R95); the demanded plans are followed afterwards. -/
def rebuildLists (s : State) : State :=
  let policy := s.corridorInUse.restartPolicy
  let valid := s.retained.clockValid
  let s := if valid then s.readSchedules else s
  let es := s.scheduleEntries
  let now := s.retained.clock.minuteOfWeek
  let scheduled (r : Ramp) : Option Action := if valid then catchUpAction es now r else none
  let s := { s with lists := Tab.ofFn (s.rebuiltList policy scheduled) }
  (s.each ramps fallbackTest).raiseIf valid .schedule

/-- The was-metering flag of each ramp is written for its start state, unless its Supply Hold is set (R122, R177). -/
def writeWasMetering (s : State) : State :=
  s.each ramps fun r t => if (t.seq r).supplyHold then t else t.setWasMetering r false

/-- Each sequencer in OFF follows its demanded plan (R105, R125). -/
def followDemand (s : State) : State := s.each ramps fun r t => if t.warns r then t.enterWarning r else t

/-! ### COLD and WARM restarts -/

/-- Each port starts afresh, with its Baud Rate; the Watch Set is empty (R193, R156). -/
def restartPorts (baud : Port → Baud) (s : State) : State :=
  let s := { s with router := { s.router with watch := 0 } }
  s.each ports3 fun p t => t.setPort p (LinkPort.start (baud p) (t.port p).lapseTime)

/-- Each record's Holder becomes its Default Holder in force (R156). -/
def restartHolders (s : State) : State := { s with arbiter := { s.arbiter with holders := s.arbiter.defaults } }

/-- The restart read of one loop record (R19). -/
def restartLoop (i : LoopNo) (s : State) : State :=
  let s := s.useRecord (.loop i)
  let damaged := s.damaged (.loop i)
  (s.setLoop i (Loop.restarted damaged (s.loopRec i))).raiseIf damaged .loopFault

/-- The Measurement Unit and the Rate Computation Unit start afresh (R38, R64). -/
def restartMeasurements (s : State) : State :=
  { s with timer := PeriodTimer.start, measure := Tab.replicate 6 RampMeasure.start,
           corridorMeasure := CorridorMeasure.start, rates := Tab.replicate 6 RampRate.start,
           corridorRate := CorridorRate.start s.corridorInUse.startAllowance }

/-- The monitors and the buttons start afresh, the sensed aspects from the sense inputs as they stand (R140, R157). -/
def restartField (inp : Inputs) (s : State) : State :=
  { s with lamps := Tab.ofFn fun r => Tab.ofFn fun ln => LaneMonitor.afresh (sensedAt inp r ln)
           qualified := [], buttons := Tab.replicate 6 Button.start }

/-- The start states of a COLD or WARM restart (R125). -/
def restartSequencers (s : State) : State :=
  let cs := s.corridorInUse
  let q (r : Ramp) : Sequencer :=
    Sequencer.start (startState (s.retained.faultDark.get r) (cs.laneCount.get r)) (cs.laneCount.get r)
  { s with sequencers := Tab.ofFn q }

/-- What COLD and WARM restarts share, the ports started afresh and the restart's cause set (R170, R175, R177 to R179). -/
def restartBlocks (inp : Inputs) (s : State) : State :=
  let s := { s with memory := { s.memory with scrubPosition := .loop 0 }, supply := { s.supply with warmDue := false } }
  let s := s.takeCorridor.restartHolders
  let s := s.each loopNos restartLoop
  let s := ((s.restartMeasurements).restartField inp).restartSequencers
  let s := s.rebuildLists
  let s := if s.supply.input then s.setSupplyHolds else s
  s.writeWasMetering.followDemand.raise .restart

/-- The retained store is judged, and initialised where it is INVALID (R172). -/
def judgeStore (s : State) : State :=
  if s.retained.valid then { s with supply := { s.supply with storeFoundValid := true } }
  else { s with supply := { s.supply with storeFoundValid := false }, retained := Retained.initial }

/-- The marks, list, count and lock of configuration memory at a COLD restart (R170). -/
def restartMemory (s : State) : State :=
  let m := s.memory
  { s with memory := { m with health := m.health.map fun h => { h with damagedMark := false }
                              damagedList := [], overflow := false, correctionCount := 0, safetyLock := false } }

/-- The clock of the retained store has counted on while the part did not run (R99, R171). -/
def clockRan (off : Nat) (s : State) : State := { s with retained := s.retained.ran off }

/-- The part runs, its reset line released, and the Supply Input takes the level of its pin (R173, R175). -/
def powerUp (inp : Inputs) (s : State) : State :=
  { s with supply := { s.supply with power := .running, resetLine := false, input := inp.supplyFail, sampled := inp.supplyFail } }

/-- A COLD restart before its blocks start: the cause, the clock, the store, the ports and configuration memory (R175). -/
def coldStart (k : RestartKind) (inp : Inputs) (straps : Straps) (off : Nat) (s : State) : State :=
  (((((s.setCause k).powerUp inp).clockRan off).judgeStore).restartPorts (strapBaud straps)).restartMemory

/-- A COLD restart (R175). -/
def coldRestart (k : RestartKind) (inp : Inputs) (straps : Straps) (off : Nat) (s : State) : State :=
  (s.coldStart k inp straps off).restartBlocks inp

/-- A WARM restart (R176). -/
def warmRestart (inp : Inputs) (s : State) : State :=
  ((s.setCause .warm).restartPorts fun p => (s.port p).baud).restartBlocks inp

/-- WARM_RESTART_TAKEN, due when the last byte of the answer to WARM_RESTART has been sent (R176, log 20). -/
def warmRestartTaken (inp : Inputs) (s : State) : State := if s.supply.warmDue then s.warmRestart inp else s

/-! ### SUPPLY restart -/

/-- A sequencer's start state at a SUPPLY restart (R125). -/
def supplyStartSequencer (r : Ramp) (s : State) : State :=
  let s := s.darkLanes r
  let st := startState (s.retained.faultDark.get r) (s.seq r).laneCount
  s.modSeq r fun q => { q.discard with state := st, pendingCount := none, supplyHold := false }

/-- What a SUPPLY restart clears in the measurements and the rates (R30, R39, R65). -/
def supplyStartRates (r : Ramp) (s : State) : State :=
  (s.setMeas r { s.meas r with queueEstimate := 0 }).setRate r { s.rate r with previousClose := none, lastFinal := none }

/-- An incident that waits to be taken still qualifies: its reported mark stands, which a change of its lane's commanded aspect
clears (R128, R180). -/
def stillQualifies (s : State) (q : Qualified) : Bool := ((s.lamp q.ramp q.lane).qual q.kind).reported

/-- The incidents that do not qualify any more are dropped (R180). -/
def dropUnqualified (s : State) : State := { s with qualified := s.qualified.filter s.stillQualifies }

/-- A SUPPLY restart (R174, R125, R177, R179, R180). Where its read first finds the corridor settings damaged, the built-in Default
Holders and Lapse Times come into force, as at every read by any use (R141, log 35); else those in force stay (R156). -/
def supplyRestarted (s : State) : State :=
  let s := ((s.setCause .supply).setSupplyInput false).takeCorridor
  let s := (s.each ramps supplyStartSequencer).each ramps supplyStartRates
  (s.rebuildLists.writeWasMetering.reports.followDemand).dropUnqualified.raise .restart

/-- SUPPLY_RESTART, due when the latest sample found the input deasserted and it stood asserted (R174, log 8). -/
def supplyRestart (s : State) : State := if !s.supply.sampled && s.supply.input then s.supplyRestarted else s

/-! ### Power and the reset line -/

/-- A sequencer whose work is abandoned: its lamps and sign off (R175, log 10). -/
def abandonSequencer (q : Sequencer) : Sequencer :=
  let st : RampState := match q.state with
    | .unconfigured => .unconfigured
    | .darkFault => .darkFault
    | _ => .off
  { q.discard with state := st, lanes := Tab.replicate 2 .dark }

/-- Work in flight is abandoned when the part stops: lamps, signs and attention lines off, frames and requests dropped. Nothing is
written into the retained store (R175, R193, log 10). -/
def abandon (s : State) : State :=
  let s := { s with sequencers := s.sequencers.map abandonSequencer, qualified := [], supply := { s.supply with warmDue := false } }
  s.each ports3 fun p t => t.modPort p fun x =>
    { x with receiver := .hunting, current := none, waiting := none, answers := [], pending := 0 }

/-- The power of the part is set. -/
def setPower (x : Power) (s : State) : State := { s with supply := { s.supply with power := x } }

/-- The level of the reset line is set. -/
def setResetLine (b : Bool) (s : State) : State := { s with supply := { s.supply with resetLine := b } }

/-- COLD_POWER: main supply is applied to an unpowered part; with the reset line asserted it is held at reset (R175). -/
def coldPower (inp : Inputs) (straps : Straps) (off : Nat) (s : State) : State :=
  match s.supply.power with
  | .unpowered =>
    if s.supply.resetLine then (s.clockRan off).setPower .heldAtReset else s.coldRestart .coldPower inp straps off
  | _ => s

/-- RESET_LINE_ASSERTED: a running part is held at reset (R175). -/
def resetLineAsserted (s : State) : State :=
  match s.supply.power with
  | .running => (s.abandon.setPower .heldAtReset).setResetLine true
  | _ => s.setResetLine true

/-- COLD_LINE: the reset line is released (R175). -/
def coldLine (inp : Inputs) (straps : Straps) (off : Nat) (s : State) : State :=
  match s.supply.power with
  | .heldAtReset => s.coldRestart .coldLine inp straps off
  | _ => s.setResetLine false

/-- MAIN_SUPPLY_LOST: the part is unpowered (R174). -/
def mainSupplyLost (s : State) : State := s.abandon.setPower .unpowered

/-- BATTERY_SUPPLY_LOW: without main supply, a battery too low to hold the store clears its validity mark (R172, log 11). -/
def batterySupplyLow (s : State) : State :=
  match s.supply.power with
  | .unpowered => { s with retained := { s.retained with valid := false } }
  | _ => s

end State

/-! ### Meanings -/

/-- SUPPLY_FAIL_ASSERTED (R173). -/
def execSupplyFailAsserted (s : State) : Host.Outcome State Fault Refusal := .next (s.whenRunning State.supplyFailAsserted)
/-- SUPPLY_RESTART (R174). -/
def execSupplyRestart (s : State) : Host.Outcome State Fault Refusal := .next (s.whenRunning State.supplyRestart)
/-- COLD_POWER (R175). -/
def execColdPower (inp : Inputs) (straps : Straps) (off : Nat) (s : State) : Host.Outcome State Fault Refusal :=
  .next (s.coldPower inp straps off)
/-- RESET_LINE_ASSERTED (R175). -/
def execResetLineAsserted (s : State) : Host.Outcome State Fault Refusal := .next s.resetLineAsserted
/-- COLD_LINE (R175). -/
def execColdLine (inp : Inputs) (straps : Straps) (off : Nat) (s : State) : Host.Outcome State Fault Refusal :=
  .next (s.coldLine inp straps off)
/-- WARM_RESTART_TAKEN (R176). -/
def execWarmRestartTaken (inp : Inputs) (s : State) : Host.Outcome State Fault Refusal :=
  .next (s.whenRunning (State.warmRestartTaken inp))
/-- MAIN_SUPPLY_LOST (R174). -/
def execMainSupplyLost (s : State) : Host.Outcome State Fault Refusal := .next s.mainSupplyLost
/-- BATTERY_SUPPLY_LOW (R172). -/
def execBatterySupplyLow (s : State) : Host.Outcome State Fault Refusal := .next s.batterySupplyLow

end Sys2Proof.Machine
end

