-- ==== Sys2Proof/Machine/Scrub.lean ====
section
/-! DEFINITION. The background scrub (R162) and the storage faults of the field (R158). -/

namespace Sys2Proof.Machine

namespace State

/-- One scrub read, with the outcome that the owning block takes (R162). -/
def scrubUse (id : RecId) (s : State) : State :=
  match id with
  | .loop i => s.settleLoops.useLoop i
  | .corridorSettings => s.useCorridor
  | id => s.useRecord id

/-- SCRUB_READ, due at every 400th sample (R162). -/
def scrubRead (s : State) : State :=
  if Config.scrubInterval ≤ s.timer.scrubCount then
    let id := s.memory.scrubPosition
    let s := { s with timer := { s.timer with scrubCount := 0 },
                      memory := { s.memory with scrubPosition := RecId.next id } }
    s.scrubUse id
  else s

end State

/-! ### Meanings -/

/-- SCRUB_READ (R162). -/
def execScrubRead (s : State) : Host.Outcome State Fault Refusal := .next (s.whenRunning State.scrubRead)
/-- STORAGE_FAULT: one error more on a record that holds content, whether or not the part is running (R158). -/
def execStorageFault (id : RecId) (s : State) : Host.Outcome State Fault Refusal := .next (s.addError id)

end Sys2Proof.Machine
end

