-- ==== Sys2Proof/Machine/Sample.lean ====
section
/-! DEFINITION. SAMPLE (R6): the passage of 10 ms, the settling of what was due before it (log 3), and the sampling of all inputs. -/

namespace Sys2Proof.Machine

/-! ### The passage of 10 ms (log 2) -/

/-- A lane after 10 ms (R102). -/
def LaneState.tick : LaneState → LaneState
  | .red e => .red (e + 1)
  | .green g => .green (g - 1)
  | x => x

/-- The sign after 10 ms (R103). -/
def Sign.tick : Sign → Sign
  | .flashing on e => .flashing on (e + 1)
  | .off => .off

/-- A sequencer after 10 ms. -/
def Sequencer.tick (q : Sequencer) : Sequencer :=
  { q with lanes := q.lanes.map LaneState.tick, slotTimer := q.slotTimer.map (· - 1),
           warningTimer := q.warningTimer.map (· - 1), clearanceTimer := q.clearanceTimer.map (· - 1), sign := q.sign.tick }

/-- A receiver after 10 ms (R183). -/
def Receiver.tick : Receiver → Receiver
  | .receiving buffer idle => .receiving buffer (idle + 1)
  | .hunting => .hunting

/-- A port after 10 ms: its Silence Timer counts whole seconds and stops at 65535 (R145); at a count a spared port is spared no longer
(log 40). -/
def LinkPort.tick (x : LinkPort) : LinkPort :=
  let x := { x with receiver := x.receiver.tick }
  if Config.samplesPerSecond ≤ x.silencePart + 1 then
    { x with silencePart := 0, silenceSeconds := min Config.silenceMax (x.silenceSeconds + 1), spared := false }
  else { x with silencePart := x.silencePart + 1 }

namespace State

/-- 10 ms pass: every timer runs, the sub-second phase grows, and nothing else changes. -/
def tick (s : State) : State :=
  { s with sequencers := s.sequencers.map Sequencer.tick, ports := s.ports.map LinkPort.tick,
           retained := { s.retained with phase := s.retained.phase + 1 } }

/-! ### Due steps (log 3) -/

/-- A due step is taken; one that is not due changes nothing. -/
def takeStep (d : DueStep) (s : State) : State :=
  match d with
  | .stuckOnEntry l => s.stuckOnEntry l
  | .stuckOnClear l => s.stuckOnClear l
  | .silenceEntry l => s.silenceEntry l
  | .chatterSecondJudgement => s.chatterSecondJudgement
  | .testPresenceEnd l => s.testPresenceEnd l
  | .periodClose => s.periodClose
  | .scrubRead => s.scrubRead
  | .clockAdvance => s.clockAdvance
  | .warningTimerExpiry r => s.warningTimerExpiry r
  | .clearanceTimerExpiry r => s.clearanceTimerExpiry r
  | .slotExpiry r => s.slotExpiry r
  | .greenEnd r ln => s.greenEnd r ln
  | .redMinimumReached r ln => s.redMinimumReached r ln
  | .signPhaseChange r => s.signPhaseChange r
  | .incidentQualifies r ln k => s.incidentQualifies r ln k
  | .panelShortPress r => s.panelShortPress r
  | .panelLongHold r => s.panelLongHold r
  | .supplyFailAsserted => s.supplyFailAsserted
  | .supplyRestart => s.supplyRestart
  | .warmRestartTaken inp => s.warmRestartTaken inp
  | .portLapse p => s.portLapse p
  | .badLength p => s.badLength p
  | .interByteTimeout p => s.interByteTimeout p
  | .frameComplete p => s.frameComplete p

/-- The incidents that wait are taken in their order. -/
def settleIncidents (s : State) : State :=
  s.each s.qualified fun q t => t.incidentQualifies q.ramp q.lane q.kind

/-- What is due at one sequencer. -/
def settleSequencer (r : Ramp) (s : State) : State :=
  let s := s.each laneNos (greenEnd r)
  let s := (((s.slotExpiry r).warningTimerExpiry r).clearanceTimerExpiry r).signPhaseChange r
  s.each laneNos (redMinimumReached r)

/-- Every step that is due and has not been taken is taken, in this order (log 3). -/
def settle (inp : Inputs) (s : State) : State :=
  let s := s.settleLoops.settleIncidents
  let s := s.each ramps fun r t => (t.panelShortPress r).panelLongHold r
  let s := s.periodClose.scrubRead.clockAdvance.supplyFailAsserted.supplyRestart
  let s := (s.each ports3 portLapse).each ports3 settleFrame
  (s.warmRestartTaken inp).each ramps settleSequencer

/-! ### The sample -/

/-- The inputs are sampled: the lamps, the loops, the buttons and the supply-fail input (R6, R127, R152, R173). -/
def sampleInputs (inp : Inputs) (s : State) : State :=
  let s := (s.senseLamps inp).countSample
  let s := (s.each loopNos (sampleLoop inp)).each ramps stateCheckIn
  let s := s.sampleButtons inp
  { s with supply := { s.supply with sampled := inp.supplyFail } }

/-- SAMPLE: what was due is settled, 10 ms pass, the steps named to come before the sample are taken, the inputs are sampled. -/
def sample (inp : Inputs) (first : List DueStep) (s : State) : State :=
  (((s.settle inp).tick).each first takeStep).sampleInputs inp

end State

/-! ### Meanings -/

/-- SAMPLE (R6). -/
def execSample (inp : Inputs) (first : List DueStep) (s : State) : Host.Outcome State Fault Refusal :=
  .next (s.whenRunning (State.sample inp first))

end Sys2Proof.Machine
end

