-- ==== Sys2Proof/Machine/Dispatch.lean ====
section
/-! DEFINITION. The meaning of each command: one arm per constructor of `Instr`. -/

namespace Sys2Proof.Machine

def exec (i : Instr) (s : State) : Host.Outcome State Fault Refusal :=
  match i with
  | .sample inp first => Sys2Proof.Machine.execSample inp first s
  | .stuckOnEntry l => Sys2Proof.Machine.execStuckOnEntry l s
  | .stuckOnClear l => Sys2Proof.Machine.execStuckOnClear l s
  | .silenceEntry l => Sys2Proof.Machine.execSilenceEntry l s
  | .chatterSecondJudgement => Sys2Proof.Machine.execChatterSecondJudgement s
  | .testPresenceEnd l => Sys2Proof.Machine.execTestPresenceEnd l s
  | .periodClose => Sys2Proof.Machine.execPeriodClose s
  | .scrubRead => Sys2Proof.Machine.execScrubRead s
  | .storageFault id => Sys2Proof.Machine.execStorageFault id s
  | .clockAdvance => Sys2Proof.Machine.execClockAdvance s
  | .warningTimerExpiry r => Sys2Proof.Machine.execWarningTimerExpiry r s
  | .clearanceTimerExpiry r => Sys2Proof.Machine.execClearanceTimerExpiry r s
  | .slotExpiry r => Sys2Proof.Machine.execSlotExpiry r s
  | .greenEnd r ln => Sys2Proof.Machine.execGreenEnd r ln s
  | .redMinimumReached r ln => Sys2Proof.Machine.execRedMinimumReached r ln s
  | .signPhaseChange r => Sys2Proof.Machine.execSignPhaseChange r s
  | .incidentQualifies r ln k => Sys2Proof.Machine.execIncidentQualifies r ln k s
  | .panelShortPress r => Sys2Proof.Machine.execPanelShortPress r s
  | .panelLongHold r => Sys2Proof.Machine.execPanelLongHold r s
  | .supplyFailAsserted => Sys2Proof.Machine.execSupplyFailAsserted s
  | .supplyRestart => Sys2Proof.Machine.execSupplyRestart s
  | .coldPower inp straps off => Sys2Proof.Machine.execColdPower inp straps off s
  | .resetLineAsserted => Sys2Proof.Machine.execResetLineAsserted s
  | .coldLine inp straps off => Sys2Proof.Machine.execColdLine inp straps off s
  | .warmRestartTaken inp => Sys2Proof.Machine.execWarmRestartTaken inp s
  | .portLapse p => Sys2Proof.Machine.execPortLapse p s
  | .badLength p => Sys2Proof.Machine.execBadLength p s
  | .interByteTimeout p => Sys2Proof.Machine.execInterByteTimeout p s
  | .frameComplete p => Sys2Proof.Machine.execFrameComplete p s
  | .answerSent p => Sys2Proof.Machine.execAnswerSent p s
  | .readRampStatus p index => Sys2Proof.Machine.execReadRampStatus p index s
  | .readRampHistory p age ramp => Sys2Proof.Machine.execReadRampHistory p age ramp s
  | .readCorridorStatus p => Sys2Proof.Machine.execReadCorridorStatus p s
  | .readCorridorHistory p age => Sys2Proof.Machine.execReadCorridorHistory p age s
  | .readLoop p index => Sys2Proof.Machine.execReadLoop p index s
  | .readPlan p index => Sys2Proof.Machine.execReadPlan p index s
  | .readSchedule p index => Sys2Proof.Machine.execReadSchedule p index s
  | .readShift p index => Sys2Proof.Machine.execReadShift p index s
  | .readSafety p => Sys2Proof.Machine.execReadSafety p s
  | .readCorridorSettings p => Sys2Proof.Machine.execReadCorridorSettings p s
  | .readClock p => Sys2Proof.Machine.execReadClock p s
  | .readAuthority p => Sys2Proof.Machine.execReadAuthority p s
  | .readIncident p => Sys2Proof.Machine.execReadIncident p s
  | .readMemory p => Sys2Proof.Machine.execReadMemory p s
  | .readPort p index => Sys2Proof.Machine.execReadPort p index s
  | .readDevice p => Sys2Proof.Machine.execReadDevice p s
  | .writeLoop p index w => Sys2Proof.Machine.execWriteLoop p index w s
  | .writePlan p index w => Sys2Proof.Machine.execWritePlan p index w s
  | .writeSchedule p index w => Sys2Proof.Machine.execWriteSchedule p index w s
  | .writeShift p index w => Sys2Proof.Machine.execWriteShift p index w s
  | .writeSafety p w => Sys2Proof.Machine.execWriteSafety p w s
  | .writeCorridorSettings p w => Sys2Proof.Machine.execWriteCorridorSettings p w s
  | .claim p index => Sys2Proof.Machine.execClaim p index s
  | .yieldRecord p index => Sys2Proof.Machine.execYieldRecord p index s
  | .select p index plan => Sys2Proof.Machine.execSelect p index plan s
  | .withdraw p index => Sys2Proof.Machine.execWithdraw p index s
  | .clearHold p index => Sys2Proof.Machine.execClearHold p index s
  | .restartRamp p index => Sys2Proof.Machine.execRestartRamp p index s
  | .clearIncident p => Sys2Proof.Machine.execClearIncident p s
  | .testIncident p index lane rank => Sys2Proof.Machine.execTestIncident p index lane rank s
  | .setClock p year month day hour minute second => Sys2Proof.Machine.execSetClock p year month day hour minute second s
  | .lockSafety p => Sys2Proof.Machine.execLockSafety p s
  | .testPresence p index duration => Sys2Proof.Machine.execTestPresence p index duration s
  | .insertError p obj index errors => Sys2Proof.Machine.execInsertError p obj index errors s
  | .watch p classes => Sys2Proof.Machine.execWatch p classes s
  | .takeEvents p => Sys2Proof.Machine.execTakeEvents p s
  | .warmRestart p => Sys2Proof.Machine.execWarmRestart p s
  | .byteReceived p b => Sys2Proof.Machine.execByteReceived p b s
  | .mainSupplyLost => Sys2Proof.Machine.execMainSupplyLost s
  | .batterySupplyLow => Sys2Proof.Machine.execBatterySupplyLow s

end Sys2Proof.Machine
end

