-- ==== Sys2Proof/Safety.lean ====
section
/-! DEFINITION. The vocabulary of the statements: what the shared operations keep, the invariants, and the arrival and the answer of a
request. -/

namespace Sys2Proof.Machine

/-- RED or GREEN, the lane states of metering (R102). -/
def LaneState.meters : LaneState → Bool
  | .red _ => true
  | .green _ => true
  | _ => false

namespace Sequencer

/-- What R102 allows a lane in each ramp state: DARK in OFF, DARK_FAULT and UNCONFIGURED and above the Lane Count In Force, else
REST_GREEN in WARNING and ENDING and RED or GREEN in METERING. -/
def laneAllowed (q : Sequencer) (ln : LaneNo) : Bool :=
  let x := q.lanes.get ln
  match q.state with
  | .warning => if q.inForce ln then x = .restGreen else x = .dark
  | .ending => if q.inForce ln then x = .restGreen else x = .dark
  | .metering => if q.inForce ln then x.meters else x = .dark
  | _ => x = .dark

/-- Every lane is as R102 allows, and not both lanes are GREEN (R117). -/
def disciplined (q : Sequencer) : Bool :=
  q.laneAllowed 0 && q.laneAllowed 1 && !((q.lanes.get 0).isGreen && (q.lanes.get 1).isGreen)

/-- A sequencer as it enters WARNING: the lanes in force REST_GREEN, the sign flashing, the Warn Time running (R105). -/
def warned (cs : CorridorRec) (q : Sequencer) : Sequencer :=
  { q with state := .warning, sign := .flashing true 0, warningTimer := some (cs.warnTime * 100)
           lanes := Tab.ofFn fun ln => if ln.val < q.laneCount then .restGreen else .dark }

/-- A sequencer that has reached OFF goes on: to UNCONFIGURED with a Lane Count of 0, to WARNING where a plan is demanded and no Supply
Hold is set, and else stays in OFF (R104, R105). -/
def fromOff (cs : CorridorRec) (demanded : Option PlanRef) (q : Sequencer) : Sequencer :=
  if q.laneCount = 0 then { q with state := .unconfigured }
  else if demanded = none ∨ q.supplyHold = true then { q with state := .off }
  else q.warned cs

/-- A sequencer after the Lane Count report `n` of the settings `cs`, taken as R104 gives; `input` is the Supply Input, which sets the
Supply Hold of a ramp that leaves UNCONFIGURED (R173), and `demanded` the demanded plan of its list. -/
def reported (cs : CorridorRec) (input : Bool) (demanded : Option PlanRef) (n : Nat) (q : Sequencer) : Sequencer :=
  match q.state with
  | .off => { q with laneCount := n, pendingCount := none, state := if n = 0 then .unconfigured else .off }
  | .darkFault => { q with laneCount := n, pendingCount := none }
  | .unconfigured =>
    if n = 0 then q
    else ({ q with laneCount := n, pendingCount := none, supplyHold := q.supplyHold || input } : Sequencer).fromOff cs demanded
  | .warning =>
    if n = q.laneCount then { q with pendingCount := none }
    else ({ q.discard with laneCount := n, pendingCount := none, lanes := Tab.replicate 2 .dark } : Sequencer).fromOff cs demanded
  | .metering =>
    if n = q.laneCount then { q with pendingCount := none }
    else if (q.lanes.get 0).isGreen || (q.lanes.get 1).isGreen then { q with pendingCount := some n, stopping := true }
    else { q.discard with pendingCount := some n, state := .ending, clearanceTimer := some (cs.clearanceTime * 100)
                          lanes := Tab.ofFn fun ln => if ln.val < q.laneCount then .restGreen else .dark }
  | .ending => { q with pendingCount := if n = q.laneCount then none else some n }

end Sequencer

/-- A lane's four runs at 0 and its four reported marks clear, as every change of its commanded aspect leaves them (R128). -/
def LaneMonitor.restarted (m : LaneMonitor) : LaneMonitor :=
  { m with conflict := { run := 0, reported := false }, strayGreen := { run := 0, reported := false }
           redOut := { run := 0, reported := false }, greenOut := { run := 0, reported := false } }

/-- The number that `n` bytes at an offset spell, high byte first (R194). -/
def numberAt (bs : List Byte) (offset n : Nat) : Nat := ((bs.drop offset).take n).foldl (fun x b => x * 256 + b.toNat) 0

/-- The 41 bytes of a RAMP_HISTORY payload carry the record `h`, field by field at the offsets of R194; each number is taken modulo the
room of its field. -/
structure RampHistory.CarriedBy (h : RampHistory) (bs : List Byte) : Prop where
  length : bs.length = 41
  period : numberAt bs 0 2 = h.period % 65536
  stampAbsent : h.stamp = none → (bs.drop 2).take 6 = List.replicate 6 0xFF
  stampPresent : ∀ t, h.stamp = some t → ((bs.drop 2).take 6).map BitVec.toNat
    = [t.year % 256, t.month % 256, t.day % 256, t.hour % 256, t.minute % 256, t.second % 256]
  state : numberAt bs 8 1 = match h.state with
    | .unconfigured => 0 | .off => 1 | .warning => 2 | .metering => 3 | .ending => 4 | .darkFault => 5
  plan : numberAt bs 9 1 = match h.plan with | none => 255 | some .builtin => 0 | some (.slot k) => k.val + 1
  origin : numberAt bs 10 1 = match h.origin with
    | none => 255 | some .hold => 0 | some .fallback => 1 | some .command => 2 | some .schedule => 3
  merge : numberAt bs 11 2 = match h.merge with | some n => n % 65536 | none => 65535
  arrivals : numberAt bs 13 2 = match h.arrivals with | some n => n % 65536 | none => 65535
  departures : numberAt bs 15 2 = h.departures % 65536
  queueEnd : numberAt bs 17 2 = match h.queueEnd with | some n => n % 65536 | none => 65535
  queueEstimate : numberAt bs 19 1 = h.queueEstimate % 256
  localRate : (numberAt bs 20 4 : Int) = match h.localRate with | some n => n % 4294967296 | none => 2147483648
  queueRate : numberAt bs 24 4 = match h.queueRate with | some n => n % 4294967296 | none => 4294967295
  lowLimit : numberAt bs 28 2 = match h.lowLimit with | some n => n % 65536 | none => 65535
  highLimit : numberAt bs 30 2 = match h.highLimit with | some n => n % 65536 | none => 65535
  desiredRate : numberAt bs 32 2 = match h.desiredRate with | some n => n % 65536 | none => 65535
  floor : numberAt bs 34 2 = match h.floor with | some n => n % 65536 | none => 65535
  finalRate : numberAt bs 36 2 = match h.finalRate with | some n => n % 65536 | none => 65535
  greens1 : ∀ n rest, h.greens = n :: rest → numberAt bs 38 1 = n % 256
  greens2 : numberAt bs 39 1 = match h.greens with | _ :: n :: _ => n % 256 | _ => 255
  flags : numberAt bs 40 1 = h.flags.noMergeData.toNat + 2 * h.flags.queueHeld.toNat + 4 * h.flags.substituted.toNat
    + 8 * h.flags.protectionActive.toNat + 16 * h.flags.protectionLimited.toNat + 32 * h.flags.rateClamped.toNat
    + 64 * h.flags.fallback.toNat + 128 * h.flags.testSeen.toNat

/-! ### Which field values a stored record accepts -/

/-- The ranges of R1, Lane with the wider of its two. -/
def LoopRec.inRange (x : LoopRec) : Prop :=
  (∀ n, x.ident.lane = some n → 1 ≤ n ∧ n ≤ 5) ∧ 30 ≤ x.stuckOnTime ∧ x.stuckOnTime ≤ 900
    ∧ 1 ≤ x.silenceTime ∧ x.silenceTime ≤ 60 ∧ 4 ≤ x.chatterLimit ∧ x.chatterLimit ≤ 20

/-- The ranges of R66. -/
def Plan.inRange (x : Plan) : Prop :=
  (20 ≤ x.targetOccupancy ∧ x.targetOccupancy ≤ 600) ∧ x.feedbackGain ≤ 4095
    ∧ (120 ≤ x.fixedRate ∧ x.fixedRate ≤ 3600) ∧ (120 ≤ x.startRate ∧ x.startRate ≤ 3600)
    ∧ (120 ≤ x.rateMinimum ∧ x.rateMinimum ≤ 3600) ∧ (120 ≤ x.rateMaximum ∧ x.rateMaximum ≤ 3600)
    ∧ (x.vehiclesPerGreen = 1 ∨ x.vehiclesPerGreen = 2) ∧ (10 ≤ x.greenTime ∧ x.greenTime ≤ 60) ∧ x.queueKeep ≤ 250
    ∧ (1 ≤ x.queueStorage ∧ x.queueStorage ≤ 250) ∧ (50 ≤ x.queueEndThreshold ∧ x.queueEndThreshold ≤ 1000)
    ∧ 1 ≤ x.flushPeriods ∧ x.flushPeriods ≤ 20

/-- The ranges of R92: both masks name a member. -/
def ScheduleRec.inRange (x : ScheduleRec) : Prop := x.dayMask ≠ 0 ∧ x.hour ≤ 23 ∧ x.minute ≤ 59 ∧ x.rampMask ≠ 0

/-- The ranges of R89. -/
def ShiftRec.inRange (x : ShiftRec) : Prop :=
  (1 ≤ x.month ∧ x.month ≤ 12) ∧ (∀ n, x.week = .nth n → 1 ≤ n ∧ n ≤ 4) ∧ (1 ≤ x.weekday ∧ x.weekday ≤ 7)
    ∧ (1 ≤ x.hour ∧ x.hour ≤ 22) ∧ ∀ n, x.appliedYear = some n → n ≤ 99

/-- The ranges of R166. -/
def SafetyRec.inRange (x : SafetyRec) : Prop :=
  (15 ≤ x.redMinimum ∧ x.redMinimum ≤ 50) ∧ (10 ≤ x.greenMinimum ∧ x.greenMinimum ≤ 30)
    ∧ (10 ≤ x.greenMaximum ∧ x.greenMaximum ≤ 60) ∧ (120 ≤ x.rateFloor ∧ x.rateFloor ≤ 900)
    ∧ (600 ≤ x.rateCeiling ∧ x.rateCeiling ≤ 3600) ∧ 240 ≤ x.safeRate ∧ x.safeRate ≤ 1800

/-- The ranges of R165: SERVICE is no Default Holder. -/
def CorridorRec.inRange (x : CorridorRec) : Prop :=
  (∀ r, x.laneCount.get r ≤ 2) ∧ (10 ≤ x.warnTime ∧ x.warnTime ≤ 120) ∧ (15 ≤ x.clearanceTime ∧ x.clearanceTime ≤ 300)
    ∧ x.allowanceGain ≤ 4095 ∧ (20 ≤ x.bottleneckTarget ∧ x.bottleneckTarget ≤ 600)
    ∧ x.allowanceMinimum ≤ 20000 ∧ x.allowanceMaximum ≤ 20000 ∧ x.startAllowance ≤ 20000
    ∧ (∀ i, x.defaultHolder.get i ≠ some .service) ∧ ∀ i, 10 ≤ x.lapseTime.get i ∧ x.lapseTime.get i ≤ 3600

/-- A record form of `n` field bytes: a record in range is read back from the bytes that carry it, bytes that decode carry the record
in range which they decode to, and all other bytes are refused (R194). -/
def carriesRecord {α : Type} (n : Nat) (inRange : α → Prop) (encode : α → List Byte) (decode : List Byte → Option α) : Prop :=
  (∀ x, inRange x → (encode x).length = n ∧ decode (encode x) = some x)
  ∧ ∀ bs, bs.length = n →
    (∀ x, decode bs = some x → inRange x ∧ encode x = bs) ∧ ((∀ x, inRange x → encode x ≠ bs) → decode bs = none)

/-- The first four checks of R185, from the tables of R194: the request kind, the object kind where it is used, and the length and the
clear mark of the payload. -/
def frameAccepted (kind obj : Byte) (payload : List Byte) : Bool :=
  match kind.toNat with
  | 0x01 => 0x01 ≤ obj.toNat && obj.toNat ≤ 0x10 && payload.length = if obj = 0x02 then 1 else 0
  | 0x02 => [(0x05, 8), (0x06, 23), (0x07, 6), (0x08, 7), (0x09, 10), (0x0A, 51)].any fun row =>
      obj.toNat = row.1 && (payload = [0x01] || (payload.length = row.2 && payload.head? = some 0x00))
  | 0x0E => 0x01 ≤ obj.toNat && obj.toNat ≤ 0x10 && payload.length = 1
  | k => [(0x03, 0), (0x04, 0), (0x05, 1), (0x06, 0), (0x07, 0), (0x08, 0), (0x09, 0), (0x0A, 2), (0x0B, 6), (0x0C, 0), (0x0D, 1),
      (0x0F, 2), (0x10, 0), (0x11, 0)].any fun row => k = row.1 && payload.length = row.2

/-- Configuration memory with record `id` stored anew or its slot emptied: GOOD, its mark clear, off the Damaged List (R161). -/
def ConfigMemory.stored (id : RecId) (m : ConfigMemory) : ConfigMemory :=
  { m with health := m.health.set (RecId.turn id) { check := .good, damagedMark := false },
           damagedList := m.damagedList.filter (· ≠ id) }

/-- A loop as an accepted WRITE of its record leaves it: UNUSED or OK with its new identity, no condition active, every measure at
its start, and the period marked rewritten; its test presence and latest presence stay (R4). -/
def Loop.writtenAs (x : LoopRec) (l : Loop) : Loop :=
  { l with
    state := if x.ident.role = .unused then .unused else .ok
    ident := some x.ident, stuckOn := false, chatter := false, silence := false, stuckRun := 0, clearRun := 0, silenceRun := 0
    edges := 0, quietRun := 0, rewritten := true
    onSamples := if x.ident.role = .unused then 0 else l.onSamples
    count := if x.ident.role = .unused then 0 else l.count }

namespace Loop

/-- The stuck-on condition once the latest sample is judged: it clears at 200 off samples, and becomes active when the stuck run
reaches the Stuck-On Time (R12). -/
def stuckAfter (x : LoopRec) (l : Loop) : Bool := if l.stuckOn then l.clearRun < 200 else x.stuckOnTime * 100 ≤ l.stuckRun

/-- The chatter condition once the latest sample is judged; `due` says that the sample ended a second (R14). -/
def chatterAfter (x : LoopRec) (due : Bool) (l : Loop) : Bool :=
  if due then decide (x.chatterLimit < l.edges) || (l.chatter && l.quietRun + 1 < 30) else l.chatter

/-- The silence condition once the latest sample is judged; a rising edge has cleared it at the sample (R13). -/
def silenceAfter (x : LoopRec) (l : Loop) : Bool := l.silence || x.silenceTime * 6000 ≤ l.silenceRun

/-- The state of a loop under fault qualification once all three conditions are judged: the highest-ranked active one (R11). -/
def stateAfter (x : LoopRec) (due : Bool) (l : Loop) : LoopState :=
  if l.stuckAfter x then .stuckOn else if l.chatterAfter x due then .chatter
  else if l.silenceAfter x then .noActivity else .ok

end Loop

/-- The seconds from 2000-01-01 00:00:00. -/
def DateTime.instant (t : DateTime) : Nat := t.dayNumber * 86400 + t.hour * 3600 + t.minute * 60 + t.second

/-- A port with the classes other than AUTHORITY taken out of its Pending Set. -/
def LinkPort.settled (x : LinkPort) : LinkPort := { x with pending := x.pending &&& 0x010#12 }

/-- The button after one sample of R152, in its cases; `configured` says that its ramp is not UNCONFIGURED, and what such a ramp's
presses do is the model's choice (log 16). -/
structure Button.Sampled (configured down : Bool) (b b' : Button) : Prop where
  /-- A released sample ends the press, which was short when its Hold Reported mark is clear. -/
  released : down = false → ∀ short, short = decide (configured = true ∧ b.press = .judged ∧ b.holdReported = false) →
    b' = { b with latest := some false, press := .none, run := 0, shortDue := b.shortDue || short }
  /-- A pressed sample after a released one begins a press. -/
  begun : down = true → b.latest = some false → b' = { b with latest := some true, run := 1, holdReported := false
                                                              press := if configured then .judged else .ignored }
  /-- A pressed sample with no press in progress, as after a restart, begins none (R157). -/
  held : down = true → b.latest ≠ some false → b.press = .none → b' = { b with latest := some true }
  /-- A further sample of an ignored press counts its run alone. -/
  ignored : down = true → b.latest ≠ some false → b.press = .ignored →
    b' = { b with latest := some true, run := min 400 (b.run + 1) }
  /-- The 400th sample of a press is its 4 s instant, where the ramp is configured. -/
  instant : down = true → b.latest ≠ some false → b.press = .judged → configured = true → b.run = 399 →
    b' = { b with latest := some true, run := 400, holdReported := true, holdDue := true }
  /-- Every other further sample of a press counts its run alone. -/
  counted : down = true → b.latest ≠ some false → b.press = .judged → configured = false ∨ b.run ≠ 399 →
    b' = { b with latest := some true, run := min 400 (b.run + 1) }

namespace State

/-- What no sequencer, list, arbiter, event or memory-use operation changes: everything but the tables of the ports, sequencers,
lamps, lists, rates and measurements, the holders and values in force, the check states with their list and count, and the
fault-dark and was-metering flags, which are blanked here. -/
def kept (s : State) : State :=
  { s with
    memory := { s.memory with health := State.reset.memory.health, damagedList := [], overflow := false, correctionCount := 0 }
    retained := { s.retained with faultDark := Tab.replicate 6 false, wasMetering := Tab.replicate 6 false }
    router := { s.router with routes := Routes.builtin, edges := Edges.builtin }
    measure := State.reset.measure, rates := State.reset.rates, lists := State.reset.lists
    sequencers := State.reset.sequencers, lamps := State.reset.lamps, arbiter := State.reset.arbiter
    ports := State.reset.ports }

/-- Every list is in the order of R72: a FALLBACK entry stands only directly above a plan entry. -/
def listsOrdered (s : State) : Prop := ∀ r, (s.planList r).ordered = true

/-- The lanes of every ramp are as R102 and R117 allow. -/
def lampsDisciplined (s : State) : Prop := ∀ r, (s.seq r).disciplined = true

/-- The clock shows a date and time of the calendar, and every stored shift record has an hour of R89, so that a shift lands
within the same day. -/
def calendarSound (s : State) : Prop :=
  s.retained.clock.wf = true ∧ ∀ i x, s.memory.shifts.get i = some x → 1 ≤ x.hour ∧ x.hour ≤ 22

/-- What every command but those of the clock, the safety table and the cold restarts leaves alone: the queue, the safety table and
its lock, the clock and the shift records. -/
def pinned (s : State) : List Instr × SafetyRec × Bool × DateTime × Tab 2 (Option ShiftRec) :=
  (s.pending, s.memory.safety, s.memory.safetyLock, s.retained.clock, s.memory.shifts)

/-- What every step carries from the state before it to the state after it: the three invariants, the queue, and a locked safety
table (R167). -/
structure Carries (s t : State) : Prop where
  lists : s.listsOrdered → t.listsOrdered
  lamps : s.lampsDisciplined → t.lampsDisciplined
  calendar : s.calendarSound → t.calendarSound
  queue : t.pending = s.pending
  lock : s.memory.safetyLock = true → t.memory.safetyLock = true ∧ t.memory.safety = s.memory.safety

/-! ### Requests at a port -/

/-- A complete frame whose CRC matches stands in the port's Frame Buffer, its FRAME_COMPLETE due (R182). -/
def frameWaits (s : State) (p : Port) : Bool :=
  match s.receiver p with
  | .receiving buffer _ => frameFull buffer && frameCrcOk buffer
  | .hunting => false

/-- Port `p` takes a request at once: the part runs, the port is ACTIVE, no request is current, its Answer Queue is not full, and no
complete frame waits there to be taken first (R183, R184, log 4). -/
structure ready (s : State) (p : Port) : Prop where
  runs : s.running
  active : (s.port p).silent = false
  free : (s.port p).current = none
  room : (s.port p).answers.length < 16
  quiet : s.frameWaits p = false

/-- What the completion of a request's frame sets before the request is taken: the receiver hunts, the Silence Timer starts again,
and the request is current (R182, R145, R184). -/
def arrived (p : Port) (q : Req) (s : State) : State :=
  s.modPort p fun x => { x with receiver := .hunting, silenceSeconds := 0, silencePart := 0, current := some q }

/-- The answer to a request, as R184 has it: the request kind with its highest bit set, the status, the index as received. -/
def answered (p : Port) (q : Req) (st : Status) (payload : Payload) (s : State) : State :=
  s.modPort p fun x =>
    { x with answers := x.answers
               ++ [{ kind := q.kindByte ||| 0x80, status := st, index := q.indexByte, payload, role := .current }] }

/-- A request refused, which changes nothing but its port's own items (R148, R185). -/
def refusal (p : Port) (q : Req) (st : Status) (s : State) : Host.Outcome State Fault Refusal :=
  .next ((s.arrived p q).answered p q st .empty)

/-- A request taken at once: carried out on the state its arrival leaves, its answer joining the queue (R184). -/
def takenAtOnce (p : Port) (q : Req) (s : State) : State :=
  ((s.arrived p q).perform p q).state.modPort p fun x =>
    { x with answers := x.answers
               ++ [{ kind := q.kindByte ||| 0x80, status := ((s.arrived p q).perform p q).status, index := q.indexByte,
                     payload := ((s.arrived p q).perform p q).payload,
                     role := match q, ((s.arrived p q).perform p q).status with
                       | .warmRestart _, .done => .warmRestart
                       | _, _ => .current }] }

/-- A request carried out that changes nothing but its port's own items, as a READ of an item is. -/
def replies (p : Port) (q : Req) (st : Status) (payload : Payload) (s : State) : Host.Outcome State Fault Refusal :=
  .next ((s.arrived p q).answered p q st payload)

/-- The answer to a READ of a stored record, made of the state `u` that its use leaves: DONE, or DAMAGED where the record is damaged
(R168, R185). -/
def readsRecord (p : Port) (q : Req) (id : RecId) (payload : Payload) (s u : State) :
    Host.Outcome State Fault Refusal :=
  .next (u.answered p q (if s.damaged id then .damaged else .done) payload)

/-- Who receives record `i` when port `p` gives it up: its Default Holder in the corridor settings in use, or NONE where that is
NONE, `p` itself, or a SILENT port (R144, R146). -/
def heir (s : State) (p : Port) (i : Fin 7) : Option Port :=
  match s.corridorInUse.defaultHolder.get i with
  | none => none
  | some d => if d = p ∨ (s.port d).silent = true then none else some d

/-- AUTHORITY is pending at a port (R149). -/
def authorityPending (s : State) (p : Port) : Bool := classIn .authority (s.port p).pending

/-- A use of the corridor settings changes no Lapse Time in force, so that it makes no port SILENT (R146). -/
def lapsesStand (s : State) : Prop := ∀ p, s.corridorInUse.lapseTime.get (portIdx p) = (s.port p).lapseTime

/-- The ports with the classes other than AUTHORITY taken out of their Pending Sets, and the Holders of the authority records. -/
def links (s : State) : Tab 3 LinkPort × Tab 7 (Option Port) := (s.ports.map LinkPort.settled, s.arbiter.holders)

/-- What an operation on lists, sequencers and lamps leaves alone: all that `kept` names, the link ports but for the events pending
there, the Holders, and which records are damaged. -/
structure Calm (s t : State) : Prop where
  kept : t.kept = s.kept
  links : t.links = s.links
  damaged : ∀ id, t.damaged id = s.damaged id

/-- What the Lane Count reports and the slots leave alone besides `kept`: the router, the arbiter and configuration memory. -/
def fixtures (s : State) : Router × Arbiter × ConfigMemory := (s.router, s.arbiter, s.memory)

/-! ### The period close (chapters 2 and 3) -/

/-- The Lane Count of a ramp at a close, from the corridor settings the close reads (R22). -/
def closeLanes (s : State) (r : Ramp) : Nat := s.corridorInUse.laneCount.get r

/-- The fallback number of stage 1 for an active plan that cannot run: its Fallback Plan where that is another slot whose plan can
run, else 0 (R44). -/
def fallbackFor (s : State) (k : PlanSlot) (merge : Option Nat) : PlanRef :=
  match s.readablePlan k with
  | some p =>
    match p.fallbackPlan with
    | .slot j => if j ≠ k ∧ s.canRun j merge = true then .slot j else .builtin
    | .builtin => .builtin
  | none => .builtin

/-- STATION_DATA is caused by a station: some loop belongs to it, and its condition has turned to no data, or under BOTH to data
(R36). -/
def stationTurns (edge : Edge) (vs : PeriodValues) (belongs : Identity → Bool) (was now : Bool) : Prop :=
  (∃ i x, (vs.get i).ident = some x ∧ belongs x = true)
    ∧ (was = true ∧ now = false ∨ edge = .both ∧ was = false ∧ now = true)

/-- An edge of one flag: it is set and was clear, or under BOTH it is clear and was set (R61, R62, R82). -/
def flagTurns (edge : Edge) (was now : Bool) : Prop := was = false ∧ now = true ∨ edge = .both ∧ was = true ∧ now = false

/-- An event raised between two states in phase 7 of a close: class `c` is pending at the ports where it was pending already, and,
where `event` holds, at those it is delivered to (R188). -/
def raisedBetween (c : EventClass) (event : Prop) (u t : State) : Prop :=
  ∀ p, classIn c (t.port p).pending = true ↔ classIn c (u.port p).pending = true ∨ event ∧ u.delivers c p = true

/-- Class `c` is pending after an event at the ports where it was pending before, and at those it is delivered to by the routes of a
state of `vs` (R188, R189). -/
def raisedBy (c : EventClass) (vs : List State) (s t : State) : Prop :=
  ∀ p, classIn c (t.port p).pending = true ↔ classIn c (s.port p).pending = true ∨ ∃ v ∈ vs, v.delivers c p = true

/-- A change of state of ramp `r` from `s` to `t`: the was-metering flag is written but under the Supply Hold, and RAMP_STATE is raised
by the routes of `vs` (R122, R123). -/
def rampTurns (s : State) (r : Ramp) (wasMetering : Bool) (vs : List State) (t : State) : Prop :=
  t.retained.wasMetering.get r = (if (s.seq r).supplyHold = true then s.retained.wasMetering.get r else wasMetering)
    ∧ raisedBy .rampState vs s t

/-- The Lane Count report of the settings `cs` changes the state of ramp `r` (R104): of one in OFF with a count of 0, in UNCONFIGURED with
another, in WARNING with one that differs, and in METERING with one that differs and no lane GREEN. -/
def reportTurns (cs : CorridorRec) (s : State) (r : Ramp) : Bool :=
  match (s.seq r).state with
  | .off => cs.laneCount.get r = 0
  | .unconfigured => cs.laneCount.get r ≠ 0
  | .warning => cs.laneCount.get r ≠ (s.seq r).laneCount
  | .metering => cs.laneCount.get r ≠ (s.seq r).laneCount && !((s.seq r).lanes.get 0).isGreen && !((s.seq r).lanes.get 1).isGreen
  | _ => false

/-- The runs and marks of ramp `r` start again in the lanes whose commanded aspect has changed, and in the lanes of `also`, and stay in
the others (R128). -/
def lampsFollow (s : State) (r : Ramp) (also : List LaneNo) (t : State) : Prop :=
  ∀ ln, t.lamp r ln = if ln ∈ also ∨ t.commanded r ln ≠ s.commanded r ln then (s.lamp r ln).restarted else s.lamp r ln

/-- What stages 2 to 5 of a close leave for a ramp: `u` is the state after the close's reads, `t` the state after the close (R42,
R45 to R53). -/
def closeStage (u t : State) (r : Ramp) : Option Stage5 :=
  if u.closeLanes r ≠ 0 ∧ (u.seq r).state = .metering then
    match t.planInUse r, (t.meas r).results with
    | some p, some res =>
      some (stage5 t.safetyInUse p (t.runsBuiltin r) (u.closeLanes r) (u.rate r).previousClose (t.meas r).queueEstimate res)
    | _, _ => none
  else none

/-- The stage 5 results of the six ramps at a close. -/
def closeStages (u t : State) : Stage5s := Tab.ofFn fun r => closeStage u t r

/-- The bytes received at a port one after another, each by its own command. -/
def feed (p : Port) : List Byte → State → Host.Outcome State Fault Refusal
  | [], s => .next s
  | b :: bs, s =>
    match exec (.byteReceived p b) s with
    | .next t => feed p bs t
    | o => o

end State
end Sys2Proof.Machine

namespace Sys2Proof

/-- The port and the request of a request row; the other rows carry none. -/
def Instr.request : Instr → Option (Port × Req)
  | .readRampStatus p i => some (p, .read .rampStatus i 0)
  | .readRampHistory p age r => some (p, .read .rampHistory age r)
  | .readCorridorStatus p => some (p, .read .corridorStatus 0 0)
  | .readCorridorHistory p age => some (p, .read .corridorHistory age 0)
  | .readLoop p i => some (p, .read .loop i 0)
  | .readPlan p i => some (p, .read .plan i 0)
  | .readSchedule p i => some (p, .read .schedule i 0)
  | .readShift p i => some (p, .read .shift i 0)
  | .readSafety p => some (p, .read .safety 0 0)
  | .readCorridorSettings p => some (p, .read .corridorSettings 0 0)
  | .readClock p => some (p, .read .clock 0 0)
  | .readAuthority p => some (p, .read .authority 0 0)
  | .readIncident p => some (p, .read .incident 0 0)
  | .readMemory p => some (p, .read .memory 0 0)
  | .readPort p i => some (p, .read .port i 0)
  | .readDevice p => some (p, .read .device 0 0)
  | .writeLoop p i w => some (p, .write .loop i w)
  | .writePlan p i w => some (p, .write .plan i w)
  | .writeSchedule p i w => some (p, .write .schedule i w)
  | .writeShift p i w => some (p, .write .shift i w)
  | .writeSafety p w => some (p, .write .safety 0 w)
  | .writeCorridorSettings p w => some (p, .write .corridorSettings 0 w)
  | .claim p i => some (p, .claim i)
  | .yieldRecord p i => some (p, .yieldRecord i)
  | .select p i plan => some (p, .select i plan)
  | .withdraw p i => some (p, .withdraw i)
  | .clearHold p i => some (p, .clearHold i)
  | .restartRamp p i => some (p, .restartRamp i)
  | .clearIncident p => some (p, .clearIncident 0)
  | .testIncident p i lane rank => some (p, .testIncident i lane rank)
  | .setClock p y mo d h mi sec => some (p, .setClock 0 y mo d h mi sec)
  | .lockSafety p => some (p, .lockSafety 0)
  | .testPresence p i d => some (p, .testPresence i d)
  | .insertError p o i e => some (p, .insertError o i e)
  | .watch p cs => some (p, .watch 0 cs)
  | .takeEvents p => some (p, .takeEvents 0)
  | .warmRestart p => some (p, .warmRestart 0)
  | _ => none

/-- The commands that also act on a part that does not run: the supply, the reset line, and errors in its memory (R158, R172 to
R175). -/
def Instr.actsStopped : Instr → Bool
  | .storageFault _ => true
  | .coldPower _ _ _ => true
  | .coldLine _ _ _ => true
  | .resetLineAsserted => true
  | .mainSupplyLost => true
  | .batterySupplyLow => true
  | _ => false

/-- The two cold restarts. -/
def Instr.isCold : Instr → Bool
  | .coldPower _ _ _ => true
  | .coldLine _ _ _ => true
  | _ => false

end Sys2Proof
end

