-- ==== Sys2Proof/Certificates/Slice0/Obligations.lean ====
section
/-! DEFINITION. The statements for the provers. -/

section
open Sys2Proof Sys2Proof.Machine

/-! ### The queue and the part as a whole -/

/-- A step runs the command at the front of the queue, with the queue's rest; on an empty queue the block idles, the model's choice
(log 1). -/
def Obligations.StepTakesTheFront : Prop :=
  (∀ (c : Instr) (rest : List Instr) (s : State), s.pending = c :: rest → step s = exec c { s with pending := rest })
  ∧ ∀ s : State, s.pending = [] → step s = .next s

/-- Every command answers a next state from every state, and leaves the queue alone. -/
def Obligations.CommandsCompleteAndKeepTheQueue : Prop :=
  ∀ (c : Instr) (s : State), ∃ t, exec c s = .next t ∧ t.pending = s.pending

/-- A part held at reset or without main supply ignores every command but those of the supply, the reset line and the storage
faults (R175; that nothing at all changes is the model's choice, log 10). -/
def Obligations.StoppedPartIgnoresCommands : Prop :=
  ∀ (c : Instr) (s : State), s.supply.power ≠ .running → c.actsStopped = false → exec c s = .next s

/-! ### Invariants -/

/-- Every step keeps the order of R72 in every list: a FALLBACK entry stands only above a plan entry. -/
def Obligations.StepKeepsListsOrdered : Prop :=
  ∀ s t : State, s.listsOrdered → step s = .next t → t.listsOrdered

/-- Every step keeps the lanes of every ramp as R102 allows in its state, and never lights both lanes of a ramp GREEN (R117). The
lamp drive outputs of a lane, red and green, follow its lane state: off and off in DARK, red alone in RED, green alone in REST_GREEN and
GREEN (R126). -/
def Obligations.StepKeepsLampsDisciplined : Prop :=
  (∀ s t : State, s.lampsDisciplined → step s = .next t → t.lampsDisciplined)
  ∧ ∀ (s : State) (r : Ramp) (ln : LaneNo),
    (s.commanded r ln = match (s.seq r).lanes.get ln with
      | .dark => .none
      | .restGreen => .green
      | .red _ => .red
      | .green _ => .green)
    ∧ (s.commanded r ln).outputs = match (s.seq r).lanes.get ln with
      | .dark => (false, false)
      | .restGreen => (false, true)
      | .red _ => (true, false)
      | .green _ => (false, true)

/-- Every step keeps the clock on the calendar of R84 and R85, whatever shifts it applies. -/
def Obligations.StepKeepsCalendar : Prop :=
  ∀ s t : State, s.calendarSound → step s = .next t → t.calendarSound

/-- The reset state meets the three invariants. -/
def Obligations.ResetMeetsInvariants : Prop :=
  State.reset.listsOrdered ∧ State.reset.lampsDisciplined ∧ State.reset.calendarSound

/-- With the Safety Lock set, no command but a COLD restart changes the safety table or clears the lock (R167). -/
def Obligations.LockedSafetyTableStands : Prop :=
  ∀ (c : Instr) (s t : State), c.isCold = false → s.memory.safetyLock = true → exec c s = .next t →
    t.memory.safetyLock = true ∧ t.memory.safety = s.memory.safety

/-! ### Frames and encodings (11.1, 11.7) -/

/-- Every well-formed request is read back from the bytes that carry it. -/
def Obligations.RequestsDecode : Prop :=
  ∀ q : Req, q.wf = true → decodeRequest q.kindByte q.objectByte q.indexByte q.payloadBytes = q

/-- The frame of every well-formed request is one of 7 to 128 bytes whose CRC matches and which carries that request. The frame of an
answer has the same form, with the request kind, the status code of R194, the index and the payload, and it is what the port sends
(R182, R184, R194); `layout` stands for the byte layouts the manual does not give (log 19). -/
def Obligations.FramesCarryTheirRequests : Prop :=
  (∀ q : Req, q.wf = true →
    (∃ body : List Byte, ∃ crc : BitVec 16, q.frame = 0xA5 :: BitVec.ofNat 8 body.length :: body
        ++ [crc.extractLsb' 8 8, crc.extractLsb' 0 8] ∧ 3 ≤ body.length ∧ body.length ≤ 124)
      ∧ frameCrcOk q.frame = true ∧ frameRequest q.frame = q)
  ∧ (∀ (layout : Payload → List Byte) (a : Answer) (body : List Byte),
      body = a.kind :: a.status.code :: a.index :: a.payload.encode layout → body.length ≤ 124 →
      (∃ crc : BitVec 16, a.frame layout = 0xA5 :: BitVec.ofNat 8 body.length :: body
          ++ [crc.extractLsb' 8 8, crc.extractLsb' 0 8])
        ∧ frameCrcOk (a.frame layout) = true
        ∧ ∀ (p : Port) (rest : List Answer) (s : State), (s.port p).answers = a :: rest → s.sending layout p = a.frame layout)
  ∧ (∀ (layout : Payload → List Byte) (bs : List Byte), Payload.encode layout .empty = [] ∧ Payload.encode layout (.bytes bs) = bs)
  ∧ [Status.done, .damaged, .busy, .badRequest, .badValue, .notHeld, .heldElsewhere, .notOnPort, .locked, .empty, .rampActive,
      .conditionPresent].map Status.code = [0x00, 0x01, 0x02, 0x03, 0x04, 0x05, 0x06, 0x07, 0x08, 0x09, 0x0A, 0x0B]

/-- The bytes of a request's frame, received one by one at a hunting port, followed by FRAME_COMPLETE, do what the request's own
row does. That such a row stands for the arrival of the whole frame is the model's reading (log 4). -/
def Obligations.BytesOfAFrameDoItsRow : Prop :=
  ∀ (c : Instr) (p : Port) (q : Req) (s : State), c.request = some (p, q) → q.wf = true → s.running →
    (s.port p).receiver = .hunting →
    ∃ t, s.feed p q.frame = .next t ∧ exec (.frameComplete p) t = exec c s

/-- The field bytes of the six stored records: a record with every field in its range (R1, R66, R89, R92, R165, R166) is read back from
the bytes that carry it; bytes that are accepted carry the record in range which they decode to; and bytes that carry no record in range
are refused (R194). -/
def Obligations.RecordsKeepTheirBytes : Prop :=
  carriesRecord 7 LoopRec.inRange encodeLoop decodeLoop ∧ carriesRecord 22 Plan.inRange encodePlan decodePlan
    ∧ carriesRecord 5 ScheduleRec.inRange encodeSchedule decodeSchedule ∧ carriesRecord 6 ShiftRec.inRange encodeShift decodeShift
    ∧ carriesRecord 9 SafetyRec.inRange encodeSafety decodeSafety
    ∧ carriesRecord 50 CorridorRec.inRange encodeCorridor decodeCorridor

/-! ### The link ports (chapter 11) -/

/-- A request at a port that can take it at once is carried out on the state its arrival leaves, and its answer joins the queue:
whether the request comes by its own row (log 4), or FRAME_COMPLETE ends a frame whose length and CRC are right, the port ACTIVE, with
no Current Request and room in its Answer Queue. FRAME_COMPLETE changes nothing while the receiver hunts, before the length byte, with a
bad length, and before the last of the length + 4 bytes (R182, R184). A frame that fails the first four checks of R185 (request kind,
object kind, writable object, length and clear mark) carries a request that is answered BAD_REQUEST whenever it is taken, and changes
nothing else; one that passes them carries a well-formed request of its kind, object, index and payload. -/
def Obligations.RequestTakenAtOnce : Prop :=
  (∀ (c : Instr) (p : Port) (q : Req) (s : State), c.request = some (p, q) → s.ready p → exec c s = .next (s.takenAtOnce p q))
  ∧ (∀ (p : Port) (s : State), s.running →
    (∀ m n body idle, (s.port p).receiver = .receiving (m :: n :: body) idle → 3 ≤ n.toNat → n.toNat ≤ 124 →
      body.length = n.toNat + 2 → frameCrcOk (m :: n :: body) = true → (s.port p).silent = false → (s.port p).current = none →
      (s.port p).answers.length < 16 →
      exec (.frameComplete p) s = .next (s.takenAtOnce p (frameRequest (m :: n :: body)))
      ∧ ∀ kind obj index payload crc, body = kind :: obj :: index :: (payload ++ crc) → crc.length = 2 →
        frameAccepted kind obj payload = false → exec (.frameComplete p) s = s.refusal p (.bad kind index) .badRequest)
    ∧ ((s.port p).receiver = .hunting → exec (.frameComplete p) s = .next s)
    ∧ (∀ buffer idle, (s.port p).receiver = .receiving buffer idle → buffer.length < 2 → exec (.frameComplete p) s = .next s)
    ∧ ∀ m n body idle, (s.port p).receiver = .receiving (m :: n :: body) idle →
      (n.toNat < 3 ∨ 124 < n.toNat ∨ body.length < n.toNat + 2) → exec (.frameComplete p) s = .next s)
  ∧ (∀ (p : Port) (kind index : Byte) (s : State),
      s.takeRequest p (.bad kind index) = s.answered p (.bad kind index) .badRequest .empty)
  ∧ ∀ (kind obj index : Byte) (payload : List Byte),
    (frameAccepted kind obj payload = false → decodeRequest kind obj index payload = .bad kind index)
    ∧ (frameAccepted kind obj payload = true → ∀ q, q = decodeRequest kind obj index payload →
        q.wf = true ∧ q.kindByte = kind ∧ q.indexByte = index ∧ q.payloadBytes = payload
          ∧ (kind = 0x01 ∨ kind = 0x02 ∨ kind = 0x0E → q.objectByte = obj))

/-- A request at an ACTIVE port with a Current Request waits where none waits, and else is answered BUSY; with the Answer Queue full
its frame is discarded (R183, R184). A complete frame that waits at the port when a request row comes is taken first (log 4). -/
def Obligations.RequestsWaitOrAreBusy : Prop :=
  (∀ (c : Instr) (p : Port) (q : Req) (s : State), c.request = some (p, q) → s.running → s.frameWaits p = true →
    ∃ t, exec (.frameComplete p) s = .next t ∧ exec c s = .next (t.submit p q))
  ∧ ∀ (c : Instr) (p : Port) (q r : Req) (s : State), c.request = some (p, q) → s.running → (s.port p).silent = false →
    s.frameWaits p = false →
    ((s.port p).answers.length < 16 → (s.port p).current = some r → (s.port p).waiting = none →
      exec c s = .next (s.modPort p fun x =>
        { x with receiver := .hunting, silenceSeconds := 0, silencePart := 0, waiting := some q }))
    ∧ ((s.port p).answers.length < 16 → (s.port p).current = some r → (s.port p).waiting ≠ none →
      exec c s = .next (s.modPort p fun x =>
        { x with receiver := .hunting, silenceSeconds := 0, silencePart := 0,
                 answers := x.answers ++ [{ kind := q.kindByte ||| 0x80, status := .busy, index := q.indexByte,
                                            payload := .empty, role := .busy }] }))
    ∧ (16 ≤ (s.port p).answers.length → exec c s = .next (s.modPort p fun x => { x with receiver := .hunting }))

/-- A frame completed at a SILENT port returns it to ACTIVE with its Silence Timer at 0, and the port regains the records that hold
NONE and whose default it is (R147), before the request is placed: `v` is the state of the return. At a free port the request is then
taken at once, else it waits or is answered BUSY (R184; that a request row is such a frame is log 4). -/
def Obligations.SilentPortReturns : Prop :=
  ∀ (c : Instr) (p : Port) (q : Req) (s : State), c.request = some (p, q) → s.running → (s.port p).silent = true →
    (s.port p).answers.length < 16 → s.frameWaits p = false → s.lapsesStand →
    ∃ v : State, (v.port p).silent = false ∧ (v.port p).silenceSeconds = 0 ∧ (v.port p).receiver = .hunting
      ∧ (v.port p).current = (s.port p).current ∧ (v.port p).waiting = (s.port p).waiting
      ∧ (v.port p).answers = (s.port p).answers
      ∧ (∀ i, v.holder i = if s.holder i = none ∧ s.corridorInUse.defaultHolder.get i = some p then some p else s.holder i)
      ∧ (∀ p', v.authorityPending p' = s.authorityPending p') ∧ v.kept = s.kept
      ∧ ((s.port p).current = none → exec c s = .next ((v.modPort p fun x => { x with current := some q }).takeRequest p q))
      ∧ (∀ r, (s.port p).current = some r → (s.port p).waiting = none →
          exec c s = .next (v.modPort p fun x => { x with waiting := some q }))
      ∧ (∀ r w, (s.port p).current = some r → (s.port p).waiting = some w →
          exec c s = .next (v.modPort p fun x => { x with
            answers := x.answers ++ [{ kind := q.kindByte ||| 0x80, status := .busy, index := q.indexByte, payload := .empty
                                       role := .busy }] }))

/-- The receiver (R182, R183): hunting passes over all but the start marker, receiving appends, and a bad length, 50 ms without a
byte or a bad CRC drops the frame. The 50 ms are five samples, and a byte before the fifth is in time: the model's reading (log 26, on
the time base of log 2). -/
def Obligations.ReceiverFollowsFraming : Prop :=
  ∀ (p : Port) (b : Byte) (s : State), s.running →
    ((s.port p).receiver = .hunting →
      exec (.byteReceived p b) s
        = .next (if b = 0xA5 then s.modPort p fun x => { x with receiver := .receiving [0xA5] 0 } else s))
    ∧ (∀ buffer idle, (s.port p).receiver = .receiving buffer idle →
      ((∀ m n rest, buffer = m :: n :: rest → 3 ≤ n.toNat ∧ n.toNat ≤ 124 ∧ buffer.length < n.toNat + 4) → idle < 5 →
        exec (.byteReceived p b) s = .next (s.modPort p fun x => { x with receiver := .receiving (buffer ++ [b]) 0 }))
      ∧ (∀ m, buffer = [m] →
        (5 ≤ idle → exec (.interByteTimeout p) s = .next (s.modPort p fun x => { x with receiver := .hunting }))
        ∧ (idle < 5 → exec (.interByteTimeout p) s = .next s))
      ∧ (∀ m n rest, buffer = m :: n :: rest →
        ((n.toNat < 3 ∨ 124 < n.toNat) →
          exec (.badLength p) s = .next (s.modPort p fun x => { x with receiver := .hunting }))
        ∧ (3 ≤ n.toNat → n.toNat ≤ 124 → buffer.length < n.toNat + 4 → 5 ≤ idle →
          exec (.interByteTimeout p) s = .next (s.modPort p fun x => { x with receiver := .hunting }))
        ∧ (3 ≤ n.toNat → n.toNat ≤ 124 → n.toNat + 4 ≤ buffer.length → frameCrcOk buffer = false →
          exec (.frameComplete p) s = .next (s.modPort p fun x => { x with receiver := .hunting }))))

/-- The end of the first queued answer (R184): a BUSY answer changes nothing more, an accepted WARM_RESTART asks for the restart, and
the Current Request's answer ends that request, after which the Waiting Request is taken. That the end of an accepted WARM_RESTART sets
a mark on which WARM_RESTART_TAKEN is due, its requests standing until then, is the model's choice (log 20). -/
def Obligations.AnswerEndTakesTheWaitingRequest : Prop :=
  ∀ (p : Port) (a : Answer) (rest : List Answer) (s : State), s.running → (s.port p).answers = a :: rest →
    (a.role = .busy → exec (.answerSent p) s = .next (s.modPort p fun x => { x with answers := rest }))
    ∧ (a.role = .warmRestart → exec (.answerSent p) s
        = .next { s.modPort p (fun x => { x with answers := rest }) with supply := { s.supply with warmDue := true } })
    ∧ (a.role = .current → (s.port p).waiting = none →
        exec (.answerSent p) s = .next (s.modPort p fun x => { x with answers := rest, current := none }))
    ∧ (∀ q, a.role = .current → (s.port p).waiting = some q →
        exec (.answerSent p) s
          = .next ((s.modPort p fun x => { x with answers := rest, waiting := none, current := some q }).takeRequest p q))

/-- An event of any class but AUTHORITY goes to the ports that its route, the centre failover and the Watch Set name, and changes
nothing else (R188). -/
def Obligations.EventsFollowTheirRoutes : Prop :=
  ∀ (c : EventClass) (s : State), c ≠ .authority →
    { s.raise c with ports := s.ports } = s
    ∧ (s.raise c).port .centre = (if s.router.routes.of c = .centre ∨ s.router.routes.of c = .both
        then { s.port .centre with pending := (s.port .centre).pending ||| BitVec.twoPow 12 c.place } else s.port .centre)
    ∧ (s.raise c).port .cabinet = (if s.router.routes.of c = .cabinet ∨ s.router.routes.of c = .both
          ∨ (s.router.routes.of c = .centre ∧ (s.port .centre).silent = true)
        then { s.port .cabinet with pending := (s.port .cabinet).pending ||| BitVec.twoPow 12 c.place } else s.port .cabinet)
    ∧ (s.raise c).port .service = (if s.router.watch.getLsbD c.place = true
        then { s.port .service with pending := (s.port .service).pending ||| BitVec.twoPow 12 c.place } else s.port .service)

/-- Delivery adds a class to a port's Pending Set, once, and the Attention Line is asserted exactly while that set is non-empty. -/
def Obligations.DeliveryFillsThePendingSet : Prop :=
  ∀ (c : EventClass) (p : Port) (s : State),
    s.deliver c p = s.modPort p (fun x => { x with pending := x.pending ||| BitVec.twoPow 12 c.place })
      ∧ classIn c ((s.deliver c p).port p).pending = true
      ∧ (∀ d, d ≠ c → classIn d ((s.deliver c p).port p).pending = classIn d (s.port p).pending)
      ∧ (classIn c (s.port p).pending = true → s.deliver c p = s)
      ∧ (s.deliver c p).attention p = true
      ∧ (s.attention p = true ↔ ∃ d, classIn d (s.port p).pending = true)

/-- TAKE_EVENTS, whenever it is taken, answers with the classes pending at its port and empties the set; a later event enters the
emptied set and not that answer; answered BUSY it takes nothing. -/
def Obligations.TakeEventsEmptiesThePendingSet : Prop :=
  ∀ (p : Port) (s : State),
    (∀ i : Byte, s.takeRequest p (.takeEvents i) = (s.modPort p fun x => { x with pending := 0 }).answered p (.takeEvents i) .done
        (.bytes [((s.port p).pending.setWidth 16).extractLsb' 8 8, ((s.port p).pending.setWidth 16).extractLsb' 0 8]))
    ∧ (s.ready p → ∃ t, exec (.takeEvents p) s = .next t
      ∧ t = ((s.arrived p (.takeEvents 0)).modPort p fun x => { x with pending := 0 }).answered p (.takeEvents 0) .done
          (.bytes [((s.port p).pending.setWidth 16).extractLsb' 8 8, ((s.port p).pending.setWidth 16).extractLsb' 0 8])
      ∧ t.attention p = false
      ∧ ∀ c, ((t.deliver c p).port p).pending = BitVec.twoPow 12 c.place ∧ (t.deliver c p).attention p = true
          ∧ ((t.deliver c p).port p).answers = (t.port p).answers)
    ∧ (∀ q r, s.running → (s.port p).silent = false → (s.port p).answers.length < 16 → (s.port p).current = some q →
        (s.port p).waiting = some r →
        ∃ t, exec (.takeEvents p) s = .next t ∧ (t.port p).pending = (s.port p).pending)

/-- WATCH is taken from the service port alone and replaces the Watch Set; a set that names AUTHORITY or has one of the upper four
bits is refused; classes already pending stay, and later events are delivered by the new set. -/
def Obligations.WatchReplacesTheWatchSet : Prop :=
  ∀ (cs : BitVec 16) (s : State),
    (∀ p, p ≠ .service → s.ready p → exec (.watch p cs) s = s.refusal p (.watch 0 cs) .notOnPort)
    ∧ (s.ready .service →
      (cs.getLsbD 4 = false → cs.toNat < 4096 → ∃ t, exec (.watch .service cs) s = .next t
        ∧ t = { s.arrived .service (.watch 0 cs) with router := { s.router with watch := cs.setWidth 12 } }.answered
            .service (.watch 0 cs) .done .empty
        ∧ (t.port .service).pending = (s.port .service).pending
        ∧ ∀ c, t.delivers c .service = cs.getLsbD c.place)
      ∧ (cs.getLsbD 4 = true ∨ 4096 ≤ cs.toNat →
        exec (.watch .service cs) s = s.refusal .service (.watch 0 cs) .badValue))

/-! ### Authority (chapter 8) -/

/-- A request that its kind keeps to certain ports is refused NOT_ON_PORT from another, and changes nothing (R148). -/
def Obligations.RequestsKeepToTheirPorts : Prop :=
  ∀ (p : Port) (s : State), s.ready p →
    (p ≠ .service →
      (∀ w, w.wf .safety = true → exec (.writeSafety p w) s = s.refusal p (.write .safety 0 w) .notOnPort)
      ∧ exec (.lockSafety p) s = s.refusal p (.lockSafety 0) .notOnPort
      ∧ (∀ i d, exec (.testPresence p i d) s = s.refusal p (.testPresence i d) .notOnPort)
      ∧ (∀ o i e, exec (.insertError p o i e) s = s.refusal p (.insertError o i e) .notOnPort)
      ∧ (∀ i ln k, exec (.testIncident p i ln k) s = s.refusal p (.testIncident i ln k) .notOnPort)
      ∧ (∀ cs, exec (.watch p cs) s = s.refusal p (.watch 0 cs) .notOnPort))
    ∧ (p = .centre → ∀ i, exec (.clearHold p i) s = s.refusal p (.clearHold i) .notOnPort)

/-- A request that needs an authority record which its port does not hold is refused NOT_HELD, and changes nothing (R148). -/
def Obligations.RequestsNeedTheirAuthority : Prop :=
  ∀ (p : Port) (s : State), s.ready p →
    (∀ (r : Ramp) (b : Byte), b.toNat = r.val + 1 → s.holder (rampRecord r) ≠ some p →
      (∀ plan, exec (.select p b plan) s = s.refusal p (.select b plan) .notHeld)
      ∧ exec (.withdraw p b) s = s.refusal p (.withdraw b) .notHeld
      ∧ exec (.restartRamp p b) s = s.refusal p (.restartRamp b) .notHeld
      ∧ (p ≠ .centre → exec (.clearHold p b) s = s.refusal p (.clearHold b) .notHeld))
    ∧ (s.holder corridorRecord ≠ some p →
      (∀ b w, w.wf .loop = true → exec (.writeLoop p b w) s = s.refusal p (.write .loop b w) .notHeld)
      ∧ (∀ b w, w.wf .plan = true → exec (.writePlan p b w) s = s.refusal p (.write .plan b w) .notHeld)
      ∧ (∀ b w, w.wf .schedule = true → exec (.writeSchedule p b w) s = s.refusal p (.write .schedule b w) .notHeld)
      ∧ (∀ b w, w.wf .shift = true → exec (.writeShift p b w) s = s.refusal p (.write .shift b w) .notHeld)
      ∧ (∀ w, w.wf .corridorSettings = true →
          exec (.writeCorridorSettings p w) s = s.refusal p (.write .corridorSettings 0 w) .notHeld)
      ∧ (∀ y mo d h mi sec, exec (.setClock p y mo d h mi sec) s = s.refusal p (.setClock 0 y mo d h mi sec) .notHeld)
      ∧ exec (.warmRestart p) s = s.refusal p (.warmRestart 0) .notHeld
      ∧ (p ≠ .service → exec (.clearIncident p) s = s.refusal p (.clearIncident 0) .notHeld)
      ∧ (p = .service → exec (.lockSafety p) s = s.refusal p (.lockSafety 0) .notHeld
          ∧ ∀ w, w.wf .safety = true → exec (.writeSafety p w) s = s.refusal p (.write .safety 0 w) .notHeld))

/-- CLAIM, judged by priority (R142, R143): SERVICE before CABINET before CENTRE before NONE. A CLAIM that waited and is taken when its
port has fallen SILENT wins the same records and gives them up at once, as a SILENT port holds none (R146); that it is answered DONE and
has AUTHORITY pending then is the model's choice (log 39). -/
def Obligations.ClaimsGoByPriority : Prop :=
  (priority .centre < priority .cabinet ∧ priority .cabinet < priority .service)
    ∧ (∀ (p : Port) (b : Byte) (s : State), s.ready p →
      (∀ i : Fin 7, b.toNat = i.val →
        (s.holder i = some p → exec (.claim p b) s = .next ((s.arrived p (.claim b)).answered p (.claim b) .done .empty))
        ∧ (s.holder i = none →
            exec (.claim p b) s = .next (((s.arrived p (.claim b)).setHolder i (some p)).answered p (.claim b) .done .empty))
        ∧ (∀ h, s.holder i = some h → priority h < priority p →
            exec (.claim p b) s = .next ((((s.arrived p (.claim b)).setHolder i (some p)).deliver .authority h).answered p
              (.claim b) .done .empty))
        ∧ (∀ h, s.holder i = some h → priority p < priority h →
            exec (.claim p b) s = .next ((s.arrived p (.claim b)).answered p (.claim b) .heldElsewhere
              (.bytes [match h with | .centre => 1 | .cabinet => 2 | .service => 3]))))
      ∧ (7 ≤ b.toNat → exec (.claim p b) s = s.refusal p (.claim b) .badValue))
    ∧ ∀ (p : Port) (b : Byte) (i : Fin 7) (s : State), b.toNat = i.val → (s.port p).silent = true → s.lapsesStand →
      (s.holder i = none ∨ ∃ h, s.holder i = some h ∧ priority h < priority p) →
      ∃ t : State, s.takeRequest p (.claim b) = t.answered p (.claim b) .done .empty
        ∧ t.holder i = s.heir p i ∧ (∀ j, j ≠ i → t.holder j = s.holder j)
        ∧ (∀ p', t.authorityPending p' = true ↔ s.authorityPending p' = true ∨ p' = p ∨ s.holder i = some p')
        ∧ (∀ p', (t.port p').silent = (s.port p').silent) ∧ t.lists = s.lists ∧ t.kept = s.kept

/-- YIELD gives a record to its Default Holder, or to NONE where that is NONE, the yielding port or a SILENT port; it raises no
AUTHORITY and moves no other record (R144). -/
def Obligations.YieldGivesARecordUp : Prop :=
  ∀ (p : Port) (b : Byte) (s : State), s.ready p →
    (∀ i : Fin 7, b.toNat = i.val →
      (s.holder i ≠ some p → exec (.yieldRecord p b) s = s.refusal p (.yieldRecord b) .notHeld)
      ∧ (s.holder i = some p → s.lapsesStand →
        ∃ t, exec (.yieldRecord p b) s = .next t ∧ t.holder i = s.heir p i ∧ (∀ j, j ≠ i → t.holder j = s.holder j)
          ∧ (t.port p).answers = (s.port p).answers
              ++ [{ kind := 0x84, status := .done, index := b, payload := .empty, role := .current }]
          ∧ (∀ p', t.authorityPending p' = s.authorityPending p') ∧ t.lists = s.lists ∧ t.kept = s.kept))
    ∧ (7 ≤ b.toNat → exec (.yieldRecord p b) s = s.refusal p (.yieldRecord b) .badValue)

/-- An ACTIVE port whose Silence Timer has reached its Lapse Time becomes SILENT, gives up every record it holds to its heir, and has
AUTHORITY pending where it held one (R146, R149). No lapse is due at a SILENT port, before the Lapse Time is reached, and, at the sender
of a WRITE that brought a Lapse Time its timer had already reached, until that timer's next count, the model's choice (log 40). -/
def Obligations.LapsedPortGivesItsRecordsUp : Prop :=
  ∀ (p : Port) (s : State), s.running →
    ((s.port p).silent = false → (s.port p).spared = false → (s.port p).lapseTime ≤ (s.port p).silenceSeconds → s.lapsesStand →
      ∃ t, exec (.portLapse p) s = .next t ∧ (t.port p).silent = true
        ∧ (∀ i, t.holder i = if s.holder i = some p then s.heir p i else s.holder i)
        ∧ (t.authorityPending p = true ↔ s.authorityPending p = true ∨ ∃ i, s.holder i = some p)
        ∧ (∀ p', p' ≠ p → t.authorityPending p' = s.authorityPending p') ∧ t.lists = s.lists ∧ t.kept = s.kept)
    ∧ ((s.port p).silent = true ∨ (s.port p).spared = true ∨ (s.port p).silenceSeconds < (s.port p).lapseTime →
        exec (.portLapse p) s = .next s)

/-! ### Reads -/

/-- The READs of the units: each shows the items of its unit as they stand once the request has arrived, and changes nothing (R63,
R87, R139, R150, R168, R181, R186; that coordination shows as not applied before the first close, and a button as not pressed before the
first sample after a restart, is the model's choice, log 31, log 38). A READ of AUTHORITY shows its own port ACTIVE with its timer at 0
whenever it is taken. -/
def Obligations.UnitReadsShowTheirItems : Prop :=
  ∀ (p : Port) (s : State), s.ready p →
    exec (.readCorridorStatus p) s = s.replies p (.read .corridorStatus 0 0) .done (.corridorStatus
      { period := s.timer.number, elapsedSeconds := min 29 (s.timer.samples / 100), bottleneck := s.corridorMeasure.bottleneck,
        allowance := s.corridorRate.allowance, heldCount := s.corridorRate.heldCount,
        allowanceHeld := s.corridorRate.allowanceHeld, suspended := s.corridorRate.suspended, notMet := s.corridorRate.notMet,
        applied := (s.corridorRate.results.bind (·.coordination)).isSome,
        sumDesired := (s.corridorRate.results.bind (·.coordination)).map (·.1),
        excess := (s.corridorRate.results.bind (·.coordination)).map (·.2) })
    ∧ exec (.readClock p) s = s.replies p (.read .clock 0 0) .done
        (.clock s.retained.clock s.retained.clock.weekday s.retained.clockValid)
    ∧ exec (.readIncident p) s = s.replies p (.read .incident 0 0) .done (.incident s.retained.incident)
    ∧ exec (.readMemory p) s = s.replies p (.read .memory 0 0) .done (.memory
        { correctionCount := s.memory.correctionCount, damagedList := s.memory.damagedList, overflow := s.memory.overflow,
          safetyLock := s.memory.safetyLock, scrubPosition := s.memory.scrubPosition })
    ∧ exec (.readDevice p) s = s.replies p (.read .device 0 0) .done (.device
        { vendor := "Malkrec", family := "Teglin", part := 640, cause := s.supply.cause,
          storeFoundValid := s.supply.storeFoundValid, supplyAsserted := s.supply.sampled, storeValid := s.retained.valid })
    ∧ (∃ ports buttons, exec (.readAuthority p) s = s.replies p (.read .authority 0 0) .done
          (.authority s.arbiter.holders s.arbiter.defaults ports buttons)
        ∧ (∀ q, ports.get (portIdx q)
            = { silent := (s.port q).silent, silenceSeconds := if q = p then 0 else (s.port q).silenceSeconds,
                lapseTime := (s.port q).lapseTime })
        ∧ (∀ r, buttons.get r = { pressed := (s.button r).latest = some true, run := (s.button r).run,
                                  holdReported := (s.button r).holdReported }))
    ∧ (∀ (v : State) (i : Byte), ∃ ports buttons, v.takeRequest p (.read .authority i 0)
          = v.answered p (.read .authority i 0) .done (.authority v.arbiter.holders v.arbiter.defaults ports buttons)
        ∧ ports.get (portIdx p) = { silent := false, silenceSeconds := 0, lapseTime := (v.port p).lapseTime }
        ∧ (∀ q, q ≠ p → ports.get (portIdx q)
            = { silent := (v.port q).silent, silenceSeconds := (v.port q).silenceSeconds, lapseTime := (v.port q).lapseTime })
        ∧ ∀ r, buttons.get r = { pressed := (v.button r).latest = some true, run := (v.button r).run,
                                 holdReported := (v.button r).holdReported })
    ∧ (∀ b : Byte, ∀ q, (b = 1 ∧ q = .centre ∨ b = 2 ∧ q = .cabinet ∨ b = 3 ∧ q = .service) →
        exec (.readPort p b) s = s.replies p (.read .port b 0) .done (.port
          { receiving := q ≠ p ∧ (s.port q).receiver ≠ .hunting, current := q = p ∨ (s.port q).current.isSome,
            waiting := (s.port q).waiting.isSome, answers := (s.port q).answers.length, pending := (s.port q).pending,
            attention := (s.port q).pending ≠ 0, baud := (s.port q).baud,
            watch := if q = .service then some s.router.watch else none }))
    ∧ (∀ b : Byte, b = 0 ∨ 4 ≤ b.toNat → exec (.readPort p b) s = s.refusal p (.read .port b 0) .badValue)

/-- READ RAMP_STATUS shows the ramp, RAMP_HISTORY and CORRIDOR_HISTORY the record of the age asked for, 0 the newest; what there is
no record for is EMPTY, and a ramp or an age out of range is BAD_VALUE (R35, R124, R139, R194). The shown timers are rounded as log 18 has it,
before the first sense sample after a COLD or WARM restart no incident condition is shown (log 30), and the items absent for an
UNCONFIGURED ramp are those of log 36: the model's choices. -/
def Obligations.RampReadsShowTheRamp : Prop :=
  ∀ (p : Port) (s : State), s.ready p →
    (∀ (r : Ramp) (b : Byte), b.toNat = r.val + 1 →
      exec (.readRampStatus p b) s = s.replies p (.read .rampStatus b 0) .done (.rampStatus
        { state := (s.seq r).state, stopping := (s.seq r).stopping, signFlashing := (s.seq r).sign ≠ .off,
          laneCount := (s.seq r).laneCount, pendingCount := (s.seq r).pendingCount,
          sequencer := if (s.seq r).state = .unconfigured then none else some (s.seq r).show,
          supplyHold := (s.seq r).supplyHold, wasMetering := s.retained.wasMetering.get r,
          faultDark := s.retained.faultDark.get r, holdFlag := s.retained.hold.get r, list := (s.planList r).entries,
          demanded := (s.planList r).demanded,
          results := if (s.seq r).state = .unconfigured then none else (s.meas r).results,
          queueEstimate := (s.meas r).queueEstimate,
          close := if (s.seq r).state = .unconfigured then none else (s.rate r).close,
          previousClose := (s.rate r).previousClose, lastFinal := (s.rate r).lastFinal,
          lamps := Tab.ofFn fun ln => s.lampShown r ln })
      ∧ (∀ q : Sequencer, (∀ ln, q.show.lanes.get ln = match q.lanes.get ln with
            | .dark => .dark | .restGreen => .restGreen | .red e => .red (e / 10) | .green g => .green ((g + 9) / 10))
          ∧ q.show.slotTimerDs = q.slotTimer.map (fun n => (n + 9) / 10) ∧ q.show.heldSlot = q.heldSlot
          ∧ q.show.lastLane = q.lastLane ∧ q.show.timing = q.timing ∧ q.show.pendingTiming = q.pendingTiming
          ∧ q.show.redMinimum = q.redMinimum ∧ q.show.warningSeconds = q.warningTimer.map (fun n => (n + 99) / 100)
          ∧ q.show.clearanceSeconds = q.clearanceTimer.map (fun n => (n + 99) / 100) ∧ q.show.greens = q.greens
          ∧ q.show.lastVehicles = q.lastVehicles)
      ∧ (∀ ln, (s.lampShown r ln).commanded = s.commanded r ln ∧ (s.lampShown r ln).sensed = (s.lamp r ln).sensed
        ∧ ∀ holds : IncidentKind → Bool,
          holds = (fun k => match (s.lamp r ln).sampled with
            | some c => conditionHolds k c (s.lamp r ln).sensed
            | none => false) →
          (s.lampShown r ln).conflict = (holds .conflict, (s.lamp r ln).conflict.run)
          ∧ (s.lampShown r ln).strayGreen = (holds .strayGreen, (s.lamp r ln).strayGreen.run)
          ∧ (s.lampShown r ln).redOut = (holds .redOut, (s.lamp r ln).redOut.run)
          ∧ (s.lampShown r ln).greenOut = (holds .greenOut, (s.lamp r ln).greenOut.run))
      ∧ ∀ age : Byte, age.toNat < 20 →
        ((s.seq r).state = .unconfigured ∨ (s.meas r).history.length ≤ age.toNat →
          exec (.readRampHistory p age b) s = s.refusal p (.read .rampHistory age b) .empty)
        ∧ (∀ older h newer, (s.seq r).state ≠ .unconfigured → (s.meas r).history = older ++ h :: newer →
          newer.length = age.toNat →
          exec (.readRampHistory p age b) s = s.replies p (.read .rampHistory age b) .done (.bytes (encodeHistory h))
          ∧ h.CarriedBy (encodeHistory h)))
    ∧ (∀ b : Byte, b = 0 ∨ 7 ≤ b.toNat →
        exec (.readRampStatus p b) s = s.refusal p (.read .rampStatus b 0) .badValue
        ∧ ∀ age, exec (.readRampHistory p age b) s = s.refusal p (.read .rampHistory age b) .badValue)
    ∧ (∀ age b : Byte, 20 ≤ age.toNat →
        exec (.readRampHistory p age b) s = s.refusal p (.read .rampHistory age b) .badValue
        ∧ exec (.readCorridorHistory p age) s = s.refusal p (.read .corridorHistory age 0) .badValue)
    ∧ (∀ age : Byte, age.toNat < 20 →
        (s.corridorMeasure.history.length ≤ age.toNat →
          exec (.readCorridorHistory p age) s = s.refusal p (.read .corridorHistory age 0) .empty)
        ∧ (∀ older h newer, s.corridorMeasure.history = older ++ h :: newer → newer.length = age.toNat →
          exec (.readCorridorHistory p age) s
            = s.replies p (.read .corridorHistory age 0) .done (.corridorHistory h)))

/-- A READ of a stored record uses it, and shows its stored content with DONE, or with DAMAGED where it is damaged; an empty slot
shows its slot byte; a number out of range is BAD_VALUE (R18, R71, R89, R93, R166, R168, R194). The settings' READ hands their values over
and reports each ramp its Lane Count (R104). READ LOOP first takes the judgements of the latest sample (log 6), shows the test presence
remaining rounded up (log 18), and the settings' READ hands its values over before its reports (log 12, log 13): the model's choices. -/
def Obligations.ReadsOfStoredRecords : Prop :=
  ∀ (p : Port) (s : State), s.ready p →
    (∀ b : Byte, b = 0 → exec (.readPlan p b) s
        = .next (((s.arrived p (.read .plan b 0)).useRecord .safety).answered p (.read .plan b 0) .done
            (.bytes (0x00 :: encodePlan (planZero s.safetyInUse)))))
    ∧ (∀ (k : PlanSlot) (b : Byte), b.toNat = k.val + 1 → exec (.readPlan p b) s
        = State.readsRecord p (.read .plan b 0) (.plan k)
            (.bytes (match s.memory.plans.get k with | some x => 0x00 :: encodePlan x | none => [0x01])) s
            ((s.arrived p (.read .plan b 0)).useRecord (.plan k)))
    ∧ (∀ b : Byte, 33 ≤ b.toNat → exec (.readPlan p b) s = s.refusal p (.read .plan b 0) .badValue)
    ∧ (∀ (i : ScheduleSlot) (b : Byte), b.toNat = i.val + 1 → exec (.readSchedule p b) s
        = State.readsRecord p (.read .schedule b 0) (.schedule i)
            (.bytes (match s.memory.schedule.get i with | some x => 0x00 :: encodeSchedule x | none => [0x01])) s
            ((s.arrived p (.read .schedule b 0)).useRecord (.schedule i)))
    ∧ (∀ b : Byte, b = 0 ∨ 49 ≤ b.toNat → exec (.readSchedule p b) s = s.refusal p (.read .schedule b 0) .badValue
        ∧ exec (.readLoop p b) s = s.refusal p (.read .loop b 0) .badValue)
    ∧ (∀ (i : ShiftSlot) (b : Byte), b.toNat = i.val + 1 → exec (.readShift p b) s
        = State.readsRecord p (.read .shift b 0) (.shift i)
            (.bytes (match s.memory.shifts.get i with | some x => 0x00 :: encodeShift x | none => [0x01])) s
            ((s.arrived p (.read .shift b 0)).useRecord (.shift i)))
    ∧ (∀ b : Byte, b = 0 ∨ 3 ≤ b.toNat → exec (.readShift p b) s = s.refusal p (.read .shift b 0) .badValue)
    ∧ exec (.readSafety p) s
        = State.readsRecord p (.read .safety 0 0) .safety
            (.safety (0x00 :: encodeSafety s.memory.safety) s.memory.safetyLock) s
            ((s.arrived p (.read .safety 0 0)).useRecord .safety)
    ∧ (∀ (i : LoopNo) (b : Byte), b.toNat = i.val + 1 → ∀ u, u = (s.arrived p (.read .loop b 0)).settleLoops.useLoop i →
        exec (.readLoop p b) s
          = State.readsRecord p (.read .loop b 0) (.loop i)
              (.loop (0x00 :: encodeLoop (s.memory.loops.get i)) (u.loopShown i)) s u
        ∧ u.loopShown i = {
            state := (u.loop i).state
            identity := if (u.loop i).ident = none then .unknown
              else if (u.loop i).state = .configLost then .lastIdentity else .stored
            stuckOn := (u.loop i).stuckOn, chatter := (u.loop i).chatter, silence := (u.loop i).silence
            testRemainingDs := if (u.loop i).testActive then ((u.loop i).testTimer + 9) / 10 else 0
            onSamples := (u.loop i).onSamples, count := (u.loop i).count, notOkSeen := (u.loop i).notOkSeen
            rewritten := (u.loop i).rewritten, testSeen := (u.loop i).testSeen
            last := (u.loop i).last.map fun v =>
              { onSamples := v.onSamples, count := v.count, valid := v.valid, testSeen := v.testSeen } }
        ∧ (s.damaged (.loop i) = true → (u.loop i).state = .configLost))
    ∧ (∀ u, u = (s.arrived p (.read .corridorSettings 0 0)).useCorridor →
        exec (.readCorridorSettings p) s
          = State.readsRecord p (.read .corridorSettings 0 0) .corridorSettings
              (.bytes (0x00 :: encodeCorridor s.memory.corridor)) s u
        ∧ u.router.routes = s.corridorInUse.routes ∧ u.router.edges = s.corridorInUse.edges
        ∧ u.arbiter.defaults = s.corridorInUse.defaultHolder
        ∧ (∀ q, (u.port q).lapseTime = s.corridorInUse.lapseTime.get (portIdx q))
        ∧ ∀ r, u.seq r = (s.seq r).reported s.corridorInUse s.supply.input (s.planList r).demanded
            (s.corridorInUse.laneCount.get r))

/-! ### Writes -/

/-- WRITE of a plan, schedule or shift slot from the port that holds the corridor record: accepted fields are stored, the clear mark
empties the slot, both leave the record GOOD, and a field or a number out of range is BAD_VALUE and stores nothing (R67, R68, R89,
R92, R161). -/
def Obligations.SlotWritesStoreTheirRecord : Prop :=
  ∀ (p : Port) (b : Byte) (s : State), s.ready p → s.holder corridorRecord = some p →
    (∀ k : PlanSlot, b.toNat = k.val + 1 →
      (∀ bytes x, bytes.length = 22 → decodePlan bytes = some x → exec (.writePlan p b (.fields bytes)) s
        = .next (({ s.arrived p (.write .plan b (.fields bytes)) with
                    memory := ConfigMemory.stored (.plan k) { s.memory with plans := s.memory.plans.set k (some x) } } : State).answered
                  p (.write .plan b (.fields bytes)) .done .empty))
      ∧ exec (.writePlan p b .clear) s
        = .next (({ s.arrived p (.write .plan b .clear) with
                    memory := ConfigMemory.stored (.plan k) { s.memory with plans := s.memory.plans.set k none } } : State).answered
                  p (.write .plan b .clear) .done .empty))
    ∧ (∀ i : ScheduleSlot, b.toNat = i.val + 1 →
      (∀ bytes x, bytes.length = 5 → decodeSchedule bytes = some x → exec (.writeSchedule p b (.fields bytes)) s
        = .next (({ s.arrived p (.write .schedule b (.fields bytes)) with
                    memory := ConfigMemory.stored (.schedule i)
                      { s.memory with schedule := s.memory.schedule.set i (some x) } } : State).answered
                  p (.write .schedule b (.fields bytes)) .done .empty))
      ∧ exec (.writeSchedule p b .clear) s
        = .next (({ s.arrived p (.write .schedule b .clear) with
                    memory := ConfigMemory.stored (.schedule i)
                      { s.memory with schedule := s.memory.schedule.set i none } } : State).answered
                  p (.write .schedule b .clear) .done .empty))
    ∧ (∀ i : ShiftSlot, b.toNat = i.val + 1 →
      (∀ bytes x, bytes.length = 6 → decodeShift bytes = some x → exec (.writeShift p b (.fields bytes)) s
        = .next (({ s.arrived p (.write .shift b (.fields bytes)) with
                    memory := ConfigMemory.stored (.shift i) { s.memory with shifts := s.memory.shifts.set i (some x) } } : State).answered
                  p (.write .shift b (.fields bytes)) .done .empty))
      ∧ exec (.writeShift p b .clear) s
        = .next (({ s.arrived p (.write .shift b .clear) with
                    memory := ConfigMemory.stored (.shift i) { s.memory with shifts := s.memory.shifts.set i none } } : State).answered
                  p (.write .shift b .clear) .done .empty))
    ∧ (∀ bytes,
        (bytes.length = 22 → decodePlan bytes = none ∨ b = 0 ∨ 33 ≤ b.toNat →
          exec (.writePlan p b (.fields bytes)) s = s.refusal p (.write .plan b (.fields bytes)) .badValue)
        ∧ (bytes.length = 5 → decodeSchedule bytes = none ∨ b = 0 ∨ 49 ≤ b.toNat →
          exec (.writeSchedule p b (.fields bytes)) s = s.refusal p (.write .schedule b (.fields bytes)) .badValue)
        ∧ (bytes.length = 6 → decodeShift bytes = none ∨ b = 0 ∨ 3 ≤ b.toNat →
          exec (.writeShift p b (.fields bytes)) s = s.refusal p (.write .shift b (.fields bytes)) .badValue))
    ∧ (b = 0 ∨ 33 ≤ b.toNat → exec (.writePlan p b .clear) s = s.refusal p (.write .plan b .clear) .badValue)
    ∧ (b = 0 ∨ 49 ≤ b.toNat → exec (.writeSchedule p b .clear) s = s.refusal p (.write .schedule b .clear) .badValue)
    ∧ (b = 0 ∨ 3 ≤ b.toNat → exec (.writeShift p b .clear) s = s.refusal p (.write .shift b .clear) .badValue)

/-- WRITE SAFETY and LOCK_SAFETY from the service port while it holds the corridor record: an unlocked table is stored whole, or
refused BAD_VALUE for a field out of range or the clear mark; a locked one is LOCKED; LOCK_SAFETY sets the lock (R166, R167). -/
def Obligations.SafetyTableIsWrittenUntilLocked : Prop :=
  ∀ s : State, s.ready .service → s.holder corridorRecord = some .service →
    (s.memory.safetyLock = false →
      (∀ bytes x, bytes.length = 9 → decodeSafety bytes = some x → exec (.writeSafety .service (.fields bytes)) s
        = .next (({ s.arrived .service (.write .safety 0 (.fields bytes)) with
                    memory := ConfigMemory.stored .safety { s.memory with safety := x } } : State).answered
                  .service (.write .safety 0 (.fields bytes)) .done .empty))
      ∧ (∀ bytes, bytes.length = 9 → decodeSafety bytes = none → exec (.writeSafety .service (.fields bytes)) s
          = s.refusal .service (.write .safety 0 (.fields bytes)) .badValue)
      ∧ exec (.writeSafety .service .clear) s = s.refusal .service (.write .safety 0 .clear) .badValue)
    ∧ (s.memory.safetyLock = true → ∀ w, w.wf .safety = true →
        exec (.writeSafety .service w) s = s.refusal .service (.write .safety 0 w) .locked)
    ∧ exec (.lockSafety .service) s
        = .next (({ s.arrived .service (.lockSafety 0) with
                    memory := { s.memory with safetyLock := true } } : State).answered .service (.lockSafety 0) .done .empty)

/-- WRITE LOOP from the port that holds the corridor record. `v` is the state the reads of its checks leave: the corridor settings
where the Role serves a lane, and every other loop record. Within the lane count and the limits of R3 the record and the loop are
replaced, and LOOP_FAULT is raised under BOTH where a faulty loop returns to OK; else it is BAD_VALUE and stores nothing (R3, R4, R17).
Besides, nothing changes but the DONE answer. That the judgements of the latest sample are taken first (log 6), and that
the checks use the corridor settings and the other 47 records in rising order (log 22), is the model's reading. -/
def Obligations.LoopWritesCheckAndStore : Prop :=
  ∀ (p : Port) (b : Byte) (s : State), s.ready p → s.holder corridorRecord = some p →
    (∀ bytes, bytes.length = 7 → b = 0 ∨ 49 ≤ b.toNat →
      exec (.writeLoop p b (.fields bytes)) s = s.refusal p (.write .loop b (.fields bytes)) .badValue)
    ∧ exec (.writeLoop p b .clear) s = s.refusal p (.write .loop b .clear) .badValue
    ∧ (∀ bytes, bytes.length = 7 → (∀ x, decodeLoop bytes = some x → x.ident.wellFormed = false) →
        exec (.writeLoop p b (.fields bytes)) s = s.refusal p (.write .loop b (.fields bytes)) .badValue)
    ∧ (∀ (i : LoopNo) bytes x, b.toNat = i.val + 1 → bytes.length = 7 → decodeLoop bytes = some x → x.ident.wellFormed = true →
        ∀ u, u = (s.arrived p (.write .loop b (.fields bytes))).settleLoops →
        ∀ u', u' = (if x.ident.role = .checkin ∨ x.ident.role = .passage then u.useCorridor else u) →
        ∀ v, v = u'.each (loopNos.filter (· ≠ i)) State.useLoop →
        (∀ r n, (x.ident.role = .checkin ∨ x.ident.role = .passage) → x.ident.ramp = some r → x.ident.lane = some n →
          s.corridorInUse.laneCount.get r < n →
          exec (.writeLoop p b (.fields bytes)) s
            = .next (u'.answered p (.write .loop b (.fields bytes)) .badValue .empty))
        ∧ ((∀ r n, (x.ident.role = .checkin ∨ x.ident.role = .passage) → x.ident.ramp = some r → x.ident.lane = some n →
            n ≤ s.corridorInUse.laneCount.get r) →
          (withinLimits (x.ident :: (loopNos.filter (· ≠ i)).filterMap v.countedIdentity) = false →
            exec (.writeLoop p b (.fields bytes)) s
              = .next (v.answered p (.write .loop b (.fields bytes)) .badValue .empty))
          ∧ (withinLimits (x.ident :: (loopNos.filter (· ≠ i)).filterMap v.countedIdentity) = true →
            ∃ t : State, exec (.writeLoop p b (.fields bytes)) s = .next (t.answered p (.write .loop b (.fields bytes)) .done .empty)
              ∧ t.memory = ConfigMemory.stored (.loop i) { v.memory with loops := v.memory.loops.set i x }
              ∧ t.loops = v.loops.set i (Loop.writtenAs x (v.loop i))
              ∧ { t with memory := v.memory, loops := v.loops }
                  = v.raiseIf (decide (x.ident.role ≠ .unused ∧ v.router.edges.loopFault = .both
                      ∧ ((v.loop i).state = .stuckOn ∨ (v.loop i).state = .chatter ∨ (v.loop i).state = .noActivity
                        ∨ (v.loop i).state = .configLost))) .loopFault)))

/-- WRITE CORRIDOR_SETTINGS from the port that holds the corridor record: a change of the Lane Count of a ramp in WARNING, METERING
or ENDING is RAMP_ACTIVE; else the record is stored and every unit takes its values at once (R104, R141, R146, R187, R188): each ramp its
Lane Count, and a port whose Silence Timer has reached a new Lapse Time becomes SILENT and gives its records up, but not the sender, also
where its WRITE has waited. That a report taken in DARK_FAULT leaves no Pending Lane Count is the model's reading (log 14), and that the
ports lapse in turn is its choice (log 34). -/
def Obligations.CorridorWritesTakeEffect : Prop :=
  ∀ (p : Port) (s : State), s.ready p → s.holder corridorRecord = some p →
    exec (.writeCorridorSettings p .clear) s = s.refusal p (.write .corridorSettings 0 .clear) .badValue
    ∧ ∀ bytes, bytes.length = 50 →
      (decodeCorridor bytes = none →
        exec (.writeCorridorSettings p (.fields bytes)) s = s.refusal p (.write .corridorSettings 0 (.fields bytes)) .badValue)
      ∧ ∀ x, decodeCorridor bytes = some x →
        ((∃ r, ((s.seq r).state = .warning ∨ (s.seq r).state = .metering ∨ (s.seq r).state = .ending)
            ∧ x.laneCount.get r ≠ (s.seq r).laneCount) →
          exec (.writeCorridorSettings p (.fields bytes)) s
            = s.refusal p (.write .corridorSettings 0 (.fields bytes)) .rampActive)
        ∧ ((∀ r, ((s.seq r).state = .warning ∨ (s.seq r).state = .metering ∨ (s.seq r).state = .ending) →
              x.laneCount.get r = (s.seq r).laneCount) →
          ∃ t : State, exec (.writeCorridorSettings p (.fields bytes)) s
              = .next (t.answered p (.write .corridorSettings 0 (.fields bytes)) .done .empty)
            ∧ t.memory = ConfigMemory.stored .corridorSettings { s.memory with corridor := x }
            ∧ t.router = { s.router with routes := x.routes, edges := x.edges }
            ∧ t.arbiter.defaults = x.defaultHolder
            ∧ (∀ q, (t.port q).lapseTime = x.lapseTime.get (portIdx q))
            ∧ (∀ r, ((s.seq r).state = .off ∨ (s.seq r).state = .darkFault
                  ∨ (s.seq r).state = .unconfigured ∧ x.laneCount.get r ≠ 0) →
                (t.seq r).laneCount = x.laneCount.get r ∧ (t.seq r).pendingCount = none)
            ∧ (∀ r, (s.seq r).state = .off → x.laneCount.get r = 0 → (t.seq r).state = .unconfigured)
            ∧ (∀ r, ((s.seq r).state = .warning ∨ (s.seq r).state = .metering ∨ (s.seq r).state = .ending) →
                t.seq r = { s.seq r with pendingCount := none })
            ∧ (∀ r, t.seq r = (s.seq r).reported x s.supply.input (s.planList r).demanded (x.laneCount.get r))
            ∧ (∀ q lapses, lapses = decide (q ≠ p ∧ (s.port q).silent = false ∧ x.lapseTime.get (portIdx q) ≠ (s.port q).lapseTime
                  ∧ x.lapseTime.get (portIdx q) ≤ (s.port q).silenceSeconds) →
                (t.port q).silent = ((s.port q).silent || lapses)
                ∧ (lapses = true → (∃ i, s.holder i = some q) → t.authorityPending q = true)
                ∧ (lapses = false → t.authorityPending q = s.authorityPending q)
                ∧ (∀ i, s.holder i = some q → t.holder i = if lapses then
                      (match x.defaultHolder.get i with
                        | some d => if (t.port d).silent then none else some d
                        | none => none) else some q)
                ∧ (t.port q).answers = (s.port q).answers ∧ (t.port q).waiting = (s.port q).waiting)
            ∧ (∀ i, s.holder i = none → t.holder i = none)
            ∧ t.lists = s.lists ∧ t.loops = s.loops)
        ∧ ∀ v : State, v.holder corridorRecord = some p → ∃ t, t = v.takeRequest p (.write .corridorSettings 0 (.fields bytes))
            ∧ (t.port p).silent = (v.port p).silent

/-! ### Configuration memory (chapter 9) -/

/-- A use of a stored record: a single error is corrected and counted, a damaged record is discovered once, and anything else is left
alone (R159, R160). -/
def Obligations.UseCorrectsOrDiscovers : Prop :=
  ∀ (id : RecId) (s : State),
    (s.memory.holds id = false → s.useRecord id = s)
    ∧ (s.memory.holds id = true →
      ((s.health id).check = .good → s.useRecord id = s)
      ∧ ((s.health id).check = .oneError → s.useRecord id
          = { s with memory := { s.memory with
                health := s.memory.health.set (RecId.turn id) { check := .good, damagedMark := (s.health id).damagedMark },
                correctionCount := min 65535 (s.memory.correctionCount + 1) } })
      ∧ ((s.health id).check = .twoErrors → (s.health id).damagedMark = true → s.useRecord id = s)
      ∧ ((s.health id).check = .twoErrors → (s.health id).damagedMark = false → s.useRecord id
          = State.raise .memory { s with memory := { s.memory with
                health := s.memory.health.set (RecId.turn id) { check := .twoErrors, damagedMark := true },
                damagedList := if s.memory.damagedList.length < 16 then s.memory.damagedList ++ [id] else s.memory.damagedList,
                overflow := if s.memory.damagedList.length < 16 then s.memory.overflow else true } }))

/-- Errors of the field, and those INSERT_ERROR puts in: each worsens the check state of a record that holds content, a second makes
two (R158, R163). That a storage fault acts on a part that does not run and not on an empty slot, and that the index of SAFETY and
CORRIDOR_SETTINGS is not checked, is the model's reading (log 23). -/
def Obligations.ErrorsWorsenTheCheckState : Prop :=
  (∀ (id : RecId) (s : State),
    exec (.storageFault id) s = .next (if s.memory.holds id then
      { s with memory := { s.memory with
                 health := s.memory.health.set (RecId.turn id)
                   { check := if (s.health id).check = .good then .oneError else .twoErrors,
                     damagedMark := (s.health id).damagedMark } } }
      else s))
  ∧ (∀ (obj : ObjectKind) (b : Byte) (id : RecId), State.recIdOf obj b = some id ↔
      (∃ i : LoopNo, obj = .loop ∧ b.toNat = i.val + 1 ∧ id = .loop i)
      ∨ (∃ k : PlanSlot, obj = .plan ∧ b.toNat = k.val + 1 ∧ id = .plan k)
      ∨ (∃ i : ScheduleSlot, obj = .schedule ∧ b.toNat = i.val + 1 ∧ id = .schedule i)
      ∨ (∃ i : ShiftSlot, obj = .shift ∧ b.toNat = i.val + 1 ∧ id = .shift i)
      ∨ obj = .safety ∧ id = .safety ∨ obj = .corridorSettings ∧ id = .corridorSettings)
  ∧ ∀ (obj : ObjectKind) (b e : Byte) (s : State), s.ready .service →
    (∀ id, State.recIdOf obj b = some id → s.memory.holds id = true → (e = 1 ∨ e = 2) →
      exec (.insertError .service obj b e) s
        = .next (({ s.arrived .service (.insertError obj b e) with
                    memory := { s.memory with
                      health := s.memory.health.set (RecId.turn id)
                        { check := if e = 1 ∧ (s.health id).check = .good then .oneError else .twoErrors,
                          damagedMark := (s.health id).damagedMark } } } : State).answered .service (.insertError obj b e) .done .empty))
    ∧ (∀ id, State.recIdOf obj b = some id → s.memory.holds id = false → (e = 1 ∨ e = 2) →
        exec (.insertError .service obj b e) s = s.refusal .service (.insertError obj b e) .empty)
    ∧ (State.recIdOf obj b = none ∨ e ≠ 1 ∧ e ≠ 2 →
        exec (.insertError .service obj b e) s = s.refusal .service (.insertError obj b e) .badValue)

/-- SCRUB_READ, due at every 400th sample, moves on to the next record and uses the one the Scrub Position names; 132 reads use each
record once (R162). The read of the settings reports each ramp its Lane Count, 0 from a damaged record: a count that differs from the one
in force stops a ramp in WARNING, METERING or ENDING through OFF or ENDING, and each change of state raises RAMP_STATE and writes the
was-metering flag but under the Supply Hold (R104, R122, R123). That the read of a loop first takes the judgements of the latest sample (log 6), and that of the settings hands its
values over before its reports (log 12, log 13), is the model's order. -/
def Obligations.ScrubReadsEveryRecordInTurn : Prop :=
  (∀ id : RecId, (RecId.turn (RecId.next id)).val = ((RecId.turn id).val + 1) % 132)
  ∧ (∀ id j : RecId, RecId.turn id = RecId.turn j → id = j)
  ∧ ∀ s : State, s.running →
    (s.timer.scrubCount < 400 → exec .scrubRead s = .next s)
    ∧ (400 ≤ s.timer.scrubCount → ∀ u, u = ({ s with
          timer := { s.timer with scrubCount := 0 },
          memory := { s.memory with scrubPosition := RecId.next s.memory.scrubPosition } } : State) →
        exec .scrubRead s = .next (match s.memory.scrubPosition with
          | .loop i => u.settleLoops.useLoop i
          | .corridorSettings => u.takeCorridor.reports
          | id => u.useRecord id)
        ∧ (s.memory.scrubPosition = .corridorSettings → ∀ t, t = u.takeCorridor.reports →
          t.lists = s.lists ∧ State.raisedBetween .rampState (∃ r, State.reportTurns s.corridorInUse s r = true) u.takeCorridor t
          ∧ ∀ r, t.seq r = (s.seq r).reported s.corridorInUse s.supply.input (s.planList r).demanded
                (s.corridorInUse.laneCount.get r)
            ∧ t.retained.wasMetering.get r = if State.reportTurns s.corridorInUse s r = true ∧ (t.seq r).supplyHold = false
                then decide ((t.seq r).state = .warning) else s.retained.wasMetering.get r))

/-! ### Loops (chapter 1) -/

/-- STUCK_ON_ENTRY, STUCK_ON_CLEAR and SILENCE_ENTRY, each when it is due: the condition changes, the state of the loop is that of the
highest-ranked condition once all three are judged, and LOOP_FAULT is raised as R17 says; one that is not due changes nothing (R11 to
R13, R17). That the first of several judgements of one sample sets the state which all of them give is the model's choice (log 6). -/
def Obligations.LoopConditionsFollowTheirRuns : Prop :=
  ∀ (i : LoopNo) (s : State) (x : LoopRec), s.running → x = s.memory.loops.get i →
    ((s.loop i).qualifies = true →
      ((s.loop i).stuckOn = false → x.stuckOnTime * 100 ≤ (s.loop i).stuckRun →
        exec (.stuckOnEntry i) s
          = .next ((s.setLoop i { s.loop i with state := .stuckOn, stuckOn := true, clearRun := 0 }).raiseIf
              ((s.loop i).state ≠ .stuckOn) .loopFault))
      ∧ ((s.loop i).stuckOn = true → 200 ≤ (s.loop i).clearRun →
        ∀ l st, l = { s.loop i with stuckOn := false, clearRun := 0 } → st = l.stateAfter x s.timer.secondDue →
        exec (.stuckOnClear i) s
          = .next ((s.setLoop i { l with state := st }).raiseIf
              ((s.loop i).state ≠ st ∧ (st ≠ .ok ∨ s.router.edges.loopFault = .both)) .loopFault))
      ∧ ((s.loop i).silence = false → x.silenceTime * 6000 ≤ (s.loop i).silenceRun →
        ∀ l st, l = { s.loop i with silence := true } → st = l.stateAfter x s.timer.secondDue →
        exec (.silenceEntry i) s
          = .next ((s.setLoop i { l with state := st }).raiseIf ((s.loop i).state ≠ st) .loopFault)))
    ∧ ((s.loop i).qualifies = false ∨ (s.loop i).stuckOn = true ∨ (s.loop i).stuckRun < x.stuckOnTime * 100 →
        exec (.stuckOnEntry i) s = .next s)
    ∧ ((s.loop i).qualifies = false ∨ (s.loop i).stuckOn = false ∨ (s.loop i).clearRun < 200 →
        exec (.stuckOnClear i) s = .next s)
    ∧ ((s.loop i).qualifies = false ∨ (s.loop i).silence = true ∨ (s.loop i).silenceRun < x.silenceTime * 6000 →
        exec (.silenceEntry i) s = .next s)

/-- CHATTER_SECOND_JUDGEMENT at the end of a second: in every loop that qualifies, more edges than the Chatter Limit make the
condition active, 30 quiet seconds in a row clear it, the edge count starts again, and the state is that of the highest-ranked condition
once all three are judged; LOOP_FAULT is raised where a state has changed, to OK under BOTH alone (R11, R14, R17; log 6). -/
def Obligations.SecondJudgesChatterOfEveryLoop : Prop :=
  ∀ s : State, s.running →
    (s.timer.secondDue = false → exec .chatterSecondJudgement s = .next s)
    ∧ (s.timer.secondDue = true → ∃ t, exec .chatterSecondJudgement s = .next t
      ∧ t.timer = { s.timer with secondDue := false } ∧ t.memory = s.memory ∧ t.sequencers = s.sequencers ∧ t.lists = s.lists
      ∧ State.raisedBetween .loopFault (∃ i, (s.loop i).qualifies = true ∧ (t.loop i).state ≠ (s.loop i).state
          ∧ ((t.loop i).state ≠ .ok ∨ s.router.edges.loopFault = .both)) s t
      ∧ ∀ i, (t.loop i).edges = 0
        ∧ ((s.loop i).qualifies = false → t.loop i = { s.loop i with edges := 0 })
        ∧ ((s.loop i).qualifies = true → (t.loop i).state = (s.loop i).stateAfter (s.memory.loops.get i) true)
        ∧ ((s.loop i).qualifies = true → (s.memory.loops.get i).chatterLimit < (s.loop i).edges →
            (t.loop i).chatter = true ∧ (t.loop i).quietRun = 0
              ∧ ((s.loop i).stuckAfter (s.memory.loops.get i) = false → (t.loop i).state = .chatter))
        ∧ ((s.loop i).qualifies = true → (s.loop i).edges ≤ (s.memory.loops.get i).chatterLimit → (s.loop i).chatter = true →
            (29 ≤ (s.loop i).quietRun → (t.loop i).chatter = false ∧ (t.loop i).quietRun = 0)
            ∧ ((s.loop i).quietRun < 29 → (t.loop i).chatter = true ∧ (t.loop i).quietRun = (s.loop i).quietRun + 1))
        ∧ ((s.loop i).qualifies = true → (s.loop i).edges ≤ (s.memory.loops.get i).chatterLimit → (s.loop i).chatter = false →
            (t.loop i).chatter = false)
        ∧ (t.loop i).stuckOn = (s.loop i).stuckOn ∧ (t.loop i).silence = (s.loop i).silence
        ∧ (t.loop i).onSamples = (s.loop i).onSamples ∧ (t.loop i).count = (s.loop i).count)

/-- TEST_PRESENCE from the service port sets a test of 1 to 100 ds on a loop, and TEST_PRESENCE_END ends it when it has run out
(R7, R8). -/
def Obligations.TestPresenceRunsItsTime : Prop :=
  (∀ (i : LoopNo) (b d : Byte) (s : State), s.ready .service → b.toNat = i.val + 1 →
    (1 ≤ d.toNat → d.toNat ≤ 100 → exec (.testPresence .service b d) s
      = .next (((s.arrived .service (.testPresence b d)).setLoop i
          { s.loop i with testActive := true, testTimer := 10 * d.toNat }).answered .service (.testPresence b d) .done .empty))
    ∧ (d = 0 ∨ 101 ≤ d.toNat →
        exec (.testPresence .service b d) s = s.refusal .service (.testPresence b d) .badValue))
  ∧ (∀ (b d : Byte) (s : State), s.ready .service → (b = 0 ∨ 49 ≤ b.toNat) →
      exec (.testPresence .service b d) s = s.refusal .service (.testPresence b d) .badValue)
  ∧ ∀ (i : LoopNo) (s : State), s.running →
    ((s.loop i).testActive = true → (s.loop i).testTimer = 0 →
      exec (.testPresenceEnd i) s = .next (s.setLoop i { s.loop i with testActive := false }))
    ∧ ((s.loop i).testActive = false ∨ (s.loop i).testTimer ≠ 0 → exec (.testPresenceEnd i) s = .next s)

/-- SAMPLE: what is due is settled, 10 ms pass, the named steps are taken, and then the inputs are sampled: the presence and the
accumulators of every loop with the runs of its fault qualification, the sensed aspect of every lane with the runs of its monitor and the
incidents that qualify, the buttons with their presses, the supply-fail input and the period timer (R6, R8, R9, R12 to R15, R21, R127 to
R129, R152, R157, R173). The order of the due steps (log 3, log 27), that the lamps are judged under
the aspects commanded before the check-in of the same sample (log 29), that incidents wait in a list (log 7), and that the state of a
loop with a judgement outstanding is set by that judgement (log 6) are the model's choices, as are the presses of an UNCONFIGURED ramp
(log 16). -/
def Obligations.SampleTakesEveryInput : Prop :=
  ∀ (inp : Inputs) (first : List DueStep) (s u : State), s.running → u = ((s.settle inp).tick).each first State.takeStep →
    ∃ t, exec (.sample inp first) s = .next t
      ∧ t.timer.samples = u.timer.samples + 1 ∧ t.timer.number = u.timer.number
      ∧ t.timer.scrubCount = u.timer.scrubCount + 1 ∧ t.timer.secondDue = decide ((u.timer.samples + 1) % 100 = 0)
      ∧ (∀ i, ∀ on, on = (inp.presence.getLsbD i.val || (u.loop i).testActive) →
          (t.loop i).presence = some on ∧ (t.loop i).testTimer = (u.loop i).testTimer - 1
          ∧ (t.loop i).ident = (u.loop i).ident ∧ (t.loop i).testActive = (u.loop i).testActive
          ∧ (t.loop i).stuckOn = (u.loop i).stuckOn ∧ (t.loop i).chatter = (u.loop i).chatter
          ∧ (t.loop i).quietRun = (u.loop i).quietRun ∧ (t.loop i).last = (u.loop i).last
          ∧ (t.loop i).rewritten = (u.loop i).rewritten
          ∧ (∀ rising, rising = (on && decide ((u.loop i).presence = some false)) → (u.loop i).qualifies = true →
              (t.loop i).stuckRun = (if on then (u.loop i).stuckRun + 1 else 0)
              ∧ (t.loop i).clearRun = (if (u.loop i).stuckOn && !on then (u.loop i).clearRun + 1 else 0)
              ∧ (t.loop i).silence = ((u.loop i).silence && !rising)
              ∧ (t.loop i).silenceRun = (if rising then 0 else (u.loop i).silenceRun + 1)
              ∧ (t.loop i).edges = (u.loop i).edges + (if rising then 1 else 0))
          ∧ ((u.loop i).qualifies = false → (t.loop i).stuckRun = (u.loop i).stuckRun ∧ (t.loop i).clearRun = (u.loop i).clearRun
              ∧ (t.loop i).silence = (u.loop i).silence ∧ (t.loop i).silenceRun = (u.loop i).silenceRun
              ∧ (t.loop i).edges = (u.loop i).edges)
          ∧ ((u.loop i).state = .unused → (t.loop i).onSamples = (u.loop i).onSamples ∧ (t.loop i).count = (u.loop i).count)
          ∧ ((u.loop i).state ≠ .unused →
              (t.loop i).onSamples = (u.loop i).onSamples + (if on then 1 else 0)
              ∧ (t.loop i).count = (u.loop i).count + (if on ∧ (u.loop i).presence = some false then 1 else 0)
              ∧ (t.loop i).testSeen = ((u.loop i).testSeen || (u.loop i).testActive)))
      ∧ (∀ i, (t.loop i).notOkSeen = ((u.loop i).notOkSeen || decide (t.judgedState i ≠ .ok))
          ∧ (t.loop i).state = (if (t.loop i).outstanding (t.memory.loops.get i) t.timer.secondDue then (u.loop i).state
              else t.judgedState i)
          ∧ ((t.loop i).qualifies = true →
              t.judgedState i = (t.loop i).stateAfter (t.memory.loops.get i) t.timer.secondDue))
      ∧ (∀ r ln, (t.lamp r ln).sensed = sensedOf (inp.redLit.getLsbD (2 * r.val + ln.val)) (inp.greenLit.getLsbD (2 * r.val + ln.val))
          ∧ (t.lamp r ln).sampled = some (u.commanded r ln)
          ∧ (t.commanded r ln ≠ u.commanded r ln → ∀ k, (t.lamp r ln).qual k = { run := 0, reported := false })
          ∧ (t.commanded r ln = u.commanded r ln → ∀ k, k ≠ .test →
            ((u.seq r).state = .unconfigured → (t.lamp r ln).qual k = (u.lamp r ln).qual k)
            ∧ ((u.seq r).state ≠ .unconfigured → conditionHolds k (u.commanded r ln) (sensedAt inp r ln) = true →
                (t.lamp r ln).qual k = { run := min (qualifyingCount k) (((u.lamp r ln).qual k).run + 1)
                                         reported := ((u.lamp r ln).qual k).reported
                                           || decide (qualifyingCount k ≤ ((u.lamp r ln).qual k).run + 1) })
            ∧ ((u.seq r).state ≠ .unconfigured → conditionHolds k (u.commanded r ln) (sensedAt inp r ln) = false →
                (t.lamp r ln).qual k = { run := 0, reported := false })))
      ∧ (∀ c x, (conditionHolds .conflict c x = true ↔ x = .both)
          ∧ (conditionHolds .strayGreen c x = true ↔ (x = .green ∨ x = .both) ∧ c ≠ .green)
          ∧ (conditionHolds .redOut c x = true ↔ c = .red ∧ (x = .none ∨ x = .green))
          ∧ (conditionHolds .greenOut c x = true ↔ c = .green ∧ (x = .none ∨ x = .red)))
      ∧ qualifyingCount .conflict = 10 ∧ qualifyingCount .strayGreen = 30 ∧ qualifyingCount .redOut = 100
      ∧ qualifyingCount .greenOut = 100
      ∧ (∀ r ln k, ({ ramp := r, lane := ln, kind := k, commanded := u.commanded r ln, sensed := sensedAt inp r ln } : Qualified)
            ∈ t.qualified.drop u.qualified.length
          ↔ k ≠ .test ∧ (u.seq r).state ≠ .unconfigured ∧ conditionHolds k (u.commanded r ln) (sensedAt inp r ln) = true
            ∧ ((u.lamp r ln).qual k).reported = false ∧ qualifyingCount k ≤ ((u.lamp r ln).qual k).run + 1)
      ∧ (∀ r, (u.button r).Sampled ((u.seq r).state ≠ .unconfigured) (inp.panel.getLsbD r.val) (t.button r))
      ∧ t.supply = { u.supply with sampled := inp.supplyFail }
      ∧ t.lists = u.lists ∧ t.memory = u.memory ∧ t.retained = u.retained ∧ t.rates = u.rates ∧ t.measure = u.measure
      ∧ t.arbiter = u.arbiter ∧ t.router = u.router

/-- 10 ms pass: every running timer, run of a lane, part second and inter-byte time moves by one sample, and a Silence Timer counts
whole seconds up to 65535 (R102, R103, R116, R145, R183; the base of 10 ms is the model's, log 2, and the mark that a count clears is
that of log 40). -/
def Obligations.TimePassesInSamples : Prop :=
  ∀ s : State,
    { s.tick with sequencers := s.sequencers, ports := s.ports, retained := s.retained } = s
    ∧ s.tick.retained = { s.retained with phase := s.retained.phase + 1 }
    ∧ (∀ r, s.tick.seq r = { s.seq r with
          lanes := (s.seq r).lanes.map fun x => match x with
            | .red e => .red (e + 1) | .green g => .green (g - 1) | y => y
          slotTimer := (s.seq r).slotTimer.map (· - 1), warningTimer := (s.seq r).warningTimer.map (· - 1)
          clearanceTimer := (s.seq r).clearanceTimer.map (· - 1)
          sign := match (s.seq r).sign with | .flashing on e => .flashing on (e + 1) | .off => .off })
    ∧ ∀ p, s.tick.port p = { s.port p with
          receiver := match (s.port p).receiver with
            | .receiving buffer idle => .receiving buffer (idle + 1) | .hunting => .hunting
          silencePart := if 100 ≤ (s.port p).silencePart + 1 then 0 else (s.port p).silencePart + 1
          silenceSeconds := if 100 ≤ (s.port p).silencePart + 1 then min 65535 ((s.port p).silenceSeconds + 1)
            else (s.port p).silenceSeconds
          spared := if 100 ≤ (s.port p).silencePart + 1 then false else (s.port p).spared }

/-! ### The period close (chapters 2 and 3) -/

/-- PERIOD_CLOSE after 3000 samples: the period's values become each loop's last closed period and its accumulators start again, every
ramp and the corridor get their station results and one history record (the oldest of 20 goes), stage 1 sets the FALLBACK entry of a
metering ramp, the queue estimate is balanced and raised, the greens are counted anew, STATION_DATA and FALLBACK are raised where they
are caused, the period number goes on, and PERIOD is raised (R10, R21 to R34, R36, R43, R44, R82, R121). `u` is the state after
the reads of phases 1 and 2, their order log 6, log 12, log 13 and log 15. -/
def Obligations.PeriodCloseSettlesThePeriod : Prop :=
  (∀ st : List PeriodValue,
    ((∀ v ∈ st, v.valid = false) → meanOccupancy st = none ∧ maxOccupancy st = none)
    ∧ (∀ n total, n = (st.filter (·.valid)).length → total = ((st.filter (·.valid)).map fun v => (v.onSamples + 1) / 3).sum →
        n ≠ 0 → meanOccupancy st = some ((2 * total + n) / (2 * n)))
    ∧ (∀ m, maxOccupancy st = some m ↔ (∃ v ∈ st, v.valid = true ∧ (v.onSamples + 1) / 3 = m)
        ∧ ∀ v ∈ st, v.valid = true → (v.onSamples + 1) / 3 ≤ m)
    ∧ ((st = [] ∨ ∃ v ∈ st, v.valid = false) → sumCounts st = none)
    ∧ (st ≠ [] → (∀ v ∈ st, v.valid = true) → sumCounts st = some (st.map (·.count)).sum))
  ∧ (∀ (vs : PeriodValues) (belongs : Identity → Bool) (v : PeriodValue),
      v ∈ members vs belongs ↔ ∃ i x, vs.get i = v ∧ v.ident = some x ∧ belongs x = true)
  ∧ (∀ (r : Ramp) (ln : LaneNo) (x : Identity), (inMerge r x = true ↔ x.role = .merge ∧ x.ramp = some r)
      ∧ (inArrivals r x = true ↔ x.role = .demand ∧ x.ramp = some r)
      ∧ (inQueueEnd r x = true ↔ x.role = .queueEnd ∧ x.ramp = some r)
      ∧ (inPassage r ln x = true ↔ x.role = .passage ∧ x.ramp = some r ∧ x.lane = some (ln.val + 1))
      ∧ (inBottleneck x = true ↔ x.role = .bottleneck))
  ∧ ∀ s : State, s.running →
    (s.timer.samples < 3000 → exec .periodClose s = .next s)
    ∧ (3000 ≤ s.timer.samples → ∀ (vs : PeriodValues) (u : State), vs = s.loops.map Loop.value →
        u = s.settleLoops.closeLoops.useCorridor →
      ∃ t, exec .periodClose s = .next t
        ∧ t.timer.samples = 0 ∧ t.timer.number = (s.timer.number + 1) % 65536 ∧ t.timer.scrubCount = s.timer.scrubCount
        ∧ (∀ i, (t.loop i).last = some { ident := (s.loop i).ident, onSamples := (s.loop i).onSamples, count := (s.loop i).count,
                                         valid := (s.loop i).valid, testSeen := (s.loop i).testSeen }
            ∧ (t.loop i).onSamples = 0 ∧ (t.loop i).count = 0 ∧ (t.loop i).notOkSeen = false ∧ (t.loop i).rewritten = false
            ∧ (t.loop i).testSeen = false)
        ∧ (∀ r, (t.seq r).greens = Tab.replicate 2 0)
        ∧ (∀ r, (s.seq r).state = .metering → (s.seq r).laneCount = s.closeLanes r → (u.seq r).state = .metering)
        ∧ (∀ r, s.closeLanes r = 0 →
            (t.meas r).results = none ∧ (t.meas r).history = [] ∧ (t.meas r).queueEstimate = 0)
        ∧ (∀ r, s.closeLanes r ≠ 0 → ∃ res h,
            (t.meas r).results = some res ∧ res.merge = meanOccupancy (members vs (inMerge r))
            ∧ res.arrivals = sumCounts (members vs (inArrivals r)) ∧ res.queueEnd = maxOccupancy (members vs (inQueueEnd r))
            ∧ res.departures = ((laneNos.filter fun ln => ln.val < s.closeLanes r).map fun ln =>
                match (members vs (inPassage r ln)).find? (·.valid) with
                | some v => v.count
                | none => (s.seq r).greens.get ln * (s.seq r).lastVehicles).sum
            ∧ (res.substituted = true
                ↔ ∃ ln : LaneNo, ln.val < s.closeLanes r ∧ (members vs (inPassage r ln)).find? (·.valid) = none)
            ∧ (t.meas r).history = (s.meas r).history.drop ((s.meas r).history.length - 19) ++ [h]
            ∧ h.period = s.timer.number ∧ h.stamp = s.stamp ∧ h.state = (u.seq r).state ∧ h.plan = (t.planList r).demanded
            ∧ h.origin = (t.planList r).topOrigin ∧ h.merge = res.merge ∧ h.arrivals = res.arrivals
            ∧ h.departures = res.departures ∧ h.queueEnd = res.queueEnd ∧ h.queueEstimate = (t.meas r).queueEstimate
            ∧ h.greens = ((laneNos.filter fun ln => ln.val < s.closeLanes r).map fun ln => (s.seq r).greens.get ln)
            ∧ (∀ close, close = (if (u.seq r).state = .metering then (t.rate r).close else none) →
              h.localRate = close.map (·.localRate) ∧ h.queueRate = close.bind (·.queueRate) ∧ h.lowLimit = close.map (·.lowLimit)
              ∧ h.highLimit = close.map (·.highLimit) ∧ h.desiredRate = close.map (·.desiredRate)
              ∧ h.floor = close.map (·.floor) ∧ h.finalRate = close.map (·.finalRate)
              ∧ h.flags.protectionActive = (close.map (·.protectionActive)).getD false
              ∧ h.flags.protectionLimited = (close.map (·.protectionLimited)).getD false
              ∧ h.flags.rateClamped = (close.map (·.rateClamped)).getD false)
            ∧ h.flags.noMergeData = res.merge.isNone ∧ h.flags.queueHeld = res.queueHeld
            ∧ h.flags.substituted = res.substituted
            ∧ h.flags.fallback = decide ((t.planList r).topOrigin = some .fallback)
            ∧ (h.flags.testSeen = true ↔ ∃ i x, (vs.get i).ident = some x ∧ x.ramp = some r ∧ (vs.get i).testSeen = true)
            ∧ ((u.seq r).state ≠ .metering → (t.meas r).queueEstimate = 0)
            ∧ ((u.seq r).state = .metering → res.queueHeld = res.arrivals.isNone
                ∧ ∀ balanced, balanced = (match res.arrivals with
                    | some a => min 250 ((s.meas r).queueEstimate + a - res.departures)
                    | none => (s.meas r).queueEstimate) →
                  (t.meas r).queueEstimate = match t.planInUse r, res.queueEnd with
                    | some p, some q => if p.queueEndThreshold ≤ q then max balanced p.queueStorage else balanced
                    | _, _ => balanced))
        ∧ (∀ r, s.closeLanes r = 0 ∨ (u.seq r).state ≠ .metering ∨ (s.planList r).governingPlan = none →
            t.planList r = s.planList r)
        ∧ (∀ r k merge, s.closeLanes r ≠ 0 → (u.seq r).state = .metering → (s.planList r).governingPlan = some k →
            merge = meanOccupancy (members vs (inMerge r)) →
            t.planList r = { s.planList r with fallback := if s.canRun k merge then none else some (s.fallbackFor k merge) })
        ∧ (∀ k merge, s.canRun k merge = true ↔ ∃ p, s.readablePlan k = some p ∧ (p.mode = .fixed ∨ merge.isSome = true))
        ∧ t.corridorMeasure.bottleneck = some (bottleneckResult vs)
        ∧ (∃ h, t.corridorMeasure.history
              = s.corridorMeasure.history.drop (s.corridorMeasure.history.length - 19) ++ [h]
            ∧ h.period = s.timer.number ∧ h.bottleneck = (bottleneckResult vs).occupancy ∧ h.allowance = t.corridorRate.allowance
            ∧ h.sumDesired = (t.corridorRate.results.bind (·.coordination)).map (·.1)
            ∧ h.excess = (t.corridorRate.results.bind (·.coordination)).map (·.2) ∧ h.heldCount = t.corridorRate.heldCount
            ∧ h.allowanceHeld = t.corridorRate.allowanceHeld ∧ h.coordinationSuspended = t.corridorRate.suspended
            ∧ h.allowanceNotMet = t.corridorRate.notMet)
        ∧ (bottleneckResult vs).occupancy = meanOccupancy (members vs inBottleneck)
        ∧ (∀ r, (t.meas r).mergeData = ((t.meas r).results.bind (·.merge)).isSome
            ∧ (t.meas r).arrivalsData = ((t.meas r).results.bind (·.arrivals)).isSome
            ∧ (t.meas r).queueEndData = ((t.meas r).results.bind (·.queueEnd)).isSome)
        ∧ t.corridorMeasure.bottleneckData = (bottleneckResult vs).occupancy.isSome
        ∧ State.raisedBetween .stationData
            ((∃ r, s.closeLanes r ≠ 0
                ∧ (State.stationTurns u.router.edges.stationData vs (inMerge r) (s.meas r).mergeData (t.meas r).mergeData
                  ∨ State.stationTurns u.router.edges.stationData vs (inArrivals r) (s.meas r).arrivalsData (t.meas r).arrivalsData
                  ∨ State.stationTurns u.router.edges.stationData vs (inQueueEnd r) (s.meas r).queueEndData (t.meas r).queueEndData))
              ∨ State.stationTurns u.router.edges.stationData vs inBottleneck s.corridorMeasure.bottleneckData
                  t.corridorMeasure.bottleneckData) u t
        ∧ State.raisedBetween .fallback
            (∃ r, State.flagTurns u.router.edges.fallback (s.planList r).fallback.isSome (t.planList r).fallback.isSome) u t
        ∧ State.raisedBetween .period True u t
        ∧ (s.corridorInUse.routes.period = .centre ∨ s.corridorInUse.routes.period = .both →
            classIn .period (t.port .centre).pending = true)
        ∧ (s.corridorInUse.routes.period = .cabinet ∨ s.corridorInUse.routes.period = .both →
            classIn .period (t.port .cabinet).pending = true)
        ∧ (∀ r, (t.planList r).hold = (s.planList r).hold ∧ (t.planList r).command = (s.planList r).command
            ∧ (t.planList r).schedule = (s.planList r).schedule)
        ∧ t.pinned = s.pinned)

/-- The rates of a close. Stages 2 to 5 reckon the local rate from the previous rate and the merge occupancy, judge queue protection,
reckon its queue rate, and clamp the greater of the two to the limits (R45 to R53). The High Limit is the least of the Rate Maximum, the
Rate Ceiling and the timing cap of the Green Time in force, the Low Limit the larger of the Rate Minimum and the Rate Floor, or the High
Limit where that is less; floor, desired and final rate lie in that order between them; and the slot interval
of a rate within the timing cap is at least the minimum slot interval (R56 to R59). PERIOD_CLOSE records the final rate of each metering
ramp with a plan in use and hands its timing over as the Pending Timing (R42, R59, R63), and raises QUEUE where protection has turned
(R61); the order of the close's reads is log 12, log 13 and log 15, and that a plan in use is judged by the list alone is log 37. -/
def Obligations.RatesStayWithinTheirLimits : Prop :=
  (∀ (t : SafetyRec) (p : Plan) (builtin : Bool) (lanes : Nat) (previous : Option Nat) (estimate : Nat) (res : RampResults) (x : Stage5),
    x = stage5 t p builtin lanes previous estimate res →
      x.limits.green = min t.greenMaximum (max t.greenMinimum p.greenTime) ∧ x.limits.vehicles = p.vehiclesPerGreen
      ∧ x.limits.minSlot = (if lanes = 2 then max x.limits.green ((x.limits.green + t.redMinimum + 1) / 2)
          else x.limits.green + t.redMinimum)
      ∧ x.limits.cap = 36000 * p.vehiclesPerGreen / x.limits.minSlot
      ∧ x.limits.high = min p.rateMaximum (min t.rateCeiling x.limits.cap)
      ∧ x.limits.low = min x.limits.high (max p.rateMinimum t.rateFloor)
      ∧ x.limits.low ≤ x.floor ∧ x.floor ≤ x.desired ∧ x.desired ≤ x.limits.high
      ∧ x.limits.high ≤ p.rateMaximum ∧ x.limits.high ≤ t.rateCeiling
      ∧ x.limits.high ≤ timingCap p.vehiclesPerGreen (minSlotInterval lanes (greenInForce t p) t.redMinimum)
      ∧ (p.mode = .fixed → x.localRate = p.fixedRate)
      ∧ (∀ m, p.mode = .feedback → res.merge = some m → x.localRate
          = (previous.getD p.startRate : Int) + Int.tdiv ((p.feedbackGain : Int) * ((p.targetOccupancy : Int) - (m : Int))) 16)
      ∧ (x.queueRate.isSome = true ↔ builtin = false
          ∧ (p.queueKeep < estimate ∨ ∃ q, res.queueEnd = some q ∧ p.queueEndThreshold ≤ q))
      ∧ (∀ rate, x.queueRate = some rate → 0 < p.flushPeriods →
          ∃ drain, rate = res.arrivals.getD 0 * 120 + drain ∧ (estimate - p.queueKeep) * 120 ≤ drain * p.flushPeriods
            ∧ ∀ less, (estimate - p.queueKeep) * 120 ≤ less * p.flushPeriods → drain ≤ less)
      ∧ (∀ wanted, wanted = (match x.queueRate with | some rate => max x.localRate (rate : Int) | none => x.localRate) →
          x.desired = min x.limits.high (max x.limits.low wanted.toNat) ∧ (x.clamped = true ↔ (x.desired : Int) ≠ wanted))
      ∧ x.floor = (match p.coordinated, x.queueRate with
          | true, some rate => min x.limits.high (max x.limits.low rate)
          | _, _ => x.limits.low)
      ∧ (x.limited = true ↔ ∃ rate, x.queueRate = some rate ∧ x.limits.high < rate))
  ∧ (∀ (applied : Bool) (allowance : Nat) (xs : Stage5s) (r : Ramp) (x : Stage5), xs.get r = some x →
      (∀ r' y, xs.get r' = some y → y.floor ≤ y.desired) →
      x.floor ≤ finalRateOf applied allowance xs r x ∧ finalRateOf applied allowance xs r x ≤ x.desired)
  ∧ (∀ vehicles rate minSlot : Nat, 0 < rate → rate ≤ timingCap vehicles minSlot → minSlot ≤ slotIntervalOf vehicles rate)
  ∧ ∀ s u : State, s.running → 3000 ≤ s.timer.samples → u = s.settleLoops.closeLoops.useCorridor →
      ∃ t, exec .periodClose s = .next t
        ∧ (∀ (xs : Stage5s) (applied : Bool) (r : Ramp), xs = State.closeStages u t →
            applied = applies s.corridorInUse t.corridorRate xs →
          (∀ x final, xs.get r = some x → final = finalRateOf applied t.corridorRate.allowance xs r x →
            t.rate r = { previousClose := some final, lastFinal := some final,
                         close := some (closeResultsOf x final ((t.planList r).topOrigin = some .fallback)),
                         protection := x.queueRate.isSome }
            ∧ (t.seq r).pendingTiming = some { slotInterval := (72000 * x.limits.vehicles + final) / (2 * final),
                                               greenTime := x.limits.green, vehiclesPerGreen := x.limits.vehicles })
          ∧ (xs.get r = none → (t.rate r).close = none ∧ (t.rate r).protection = false
            ∧ (t.rate r).lastFinal = (u.rate r).lastFinal ∧ (t.seq r).pendingTiming = (u.seq r).pendingTiming
            ∧ (s.closeLanes r = 0 ∨ (u.seq r).state ≠ .metering → (t.rate r).previousClose = none)))
        ∧ State.raisedBetween .queue
            (∃ r, State.flagTurns u.router.edges.queue (s.rate r).protection (t.rate r).protection) u t

/-- Coordination (R56 to R58): without an excess, or where it does not apply, every ramp keeps its desired rate; an excess of at least
the sum of margins puts every coordinated ramp on its floor; and a smaller one is shared out in proportion to the margins, rounded down,
the remainder one each to the lowest-numbered ramps with margin, so that the final rates of the coordinated ramps add up to the allowance
exactly. PERIOD_CLOSE moves the allowance by the bottleneck's occupancy or holds it, counts the
held closes, and raises ALLOWANCE where a corridor flag has turned (R54, R55, R62; the order of the close's reads is log 12, log 13 and
log 15). -/
def Obligations.CoordinationSharesTheExcess : Prop :=
  (∀ (allowance : Nat) (xs : Stage5s), (∀ r y, xs.get r = some y → y.floor ≤ y.desired) →
    (∀ r x, xs.get r = some x → finalRateOf false allowance xs r x = x.desired
      ∧ (x.coordinated = false → finalRateOf true allowance xs r x = x.desired)
      ∧ (sumDesired xs ≤ allowance → finalRateOf true allowance xs r x = x.desired)
      ∧ (x.coordinated = true → allowance < sumDesired xs → allowance + sumMargins xs ≤ sumDesired xs →
          finalRateOf true allowance xs r x = x.floor))
    ∧ (allowance < sumDesired xs → sumDesired xs < allowance + sumMargins xs →
        (ramps.map fun r => match xs.get r with
          | some x => if x.coordinated then finalRateOf true allowance xs r x else 0
          | none => 0).sum = allowance)
    ∧ (sumDesired xs = (ramps.map fun r => match xs.get r with | some x => if x.coordinated then x.desired else 0 | none => 0).sum
      ∧ sumMargins xs = (ramps.map fun r => match xs.get r with
          | some x => if x.coordinated then x.desired - x.floor else 0 | none => 0).sum)
    ∧ (allowance < sumDesired xs → sumDesired xs < allowance + sumMargins xs →
        ∀ (excess rest : Nat) (share : Ramp → Nat), excess = sumDesired xs - allowance →
          share = (fun r => match xs.get r with
            | some x => if x.coordinated then excess * (x.desired - x.floor) / sumMargins xs else 0
            | none => 0) →
          rest = excess - (ramps.map share).sum →
        ∀ r x before, xs.get r = some x → x.coordinated = true →
          before = (ramps.filter fun r' => decide (r' < r) && (match xs.get r' with
            | some y => y.coordinated && decide (y.floor < y.desired)
            | none => false)).length →
          finalRateOf true allowance xs r x + share r + (if x.floor < x.desired ∧ before < rest then 1 else 0) = x.desired))
  ∧ ∀ (s u : State) (vs : PeriodValues) (cs : CorridorRec), s.running → 3000 ≤ s.timer.samples → vs = s.loops.map Loop.value →
      u = s.settleLoops.closeLoops.useCorridor → cs = s.corridorInUse →
      ∃ t, exec .periodClose s = .next t
        ∧ (∀ o, (bottleneckResult vs).occupancy = some o →
            t.corridorRate.allowance = min cs.allowanceMaximum (max cs.allowanceMinimum
              ((s.corridorRate.allowance : Int)
                + Int.tdiv ((cs.allowanceGain : Int) * ((cs.bottleneckTarget : Int) - (o : Int))) 16).toNat)
            ∧ t.corridorRate.heldCount = 0 ∧ t.corridorRate.allowanceHeld = false ∧ t.corridorRate.suspended = false)
        ∧ ((bottleneckResult vs).occupancy = none →
            t.corridorRate.allowance = s.corridorRate.allowance
            ∧ t.corridorRate.heldCount = min 255 (s.corridorRate.heldCount + 1) ∧ t.corridorRate.allowanceHeld = true
            ∧ t.corridorRate.suspended = decide (10 < t.corridorRate.heldCount))
        ∧ (∀ xs : Stage5s, xs = State.closeStages u t →
          ((cs.coordinationEnable = true ∧ t.corridorRate.suspended = false
              ∧ ∃ r x, xs.get r = some x ∧ x.coordinated = true) →
            t.corridorRate.results = some { coordination := some (sumDesired xs,
              (sumDesired xs : Int) - (t.corridorRate.allowance : Int)) }
            ∧ (t.corridorRate.notMet = true ↔ t.corridorRate.allowance + sumMargins xs < sumDesired xs))
          ∧ ((cs.coordinationEnable = false ∨ t.corridorRate.suspended = true
              ∨ ∀ r x, xs.get r = some x → x.coordinated = false) →
            t.corridorRate.results = some { coordination := none } ∧ t.corridorRate.notMet = false))
        ∧ State.raisedBetween .allowance
            (State.flagTurns u.router.edges.allowance s.corridorRate.notMet t.corridorRate.notMet
              ∨ State.flagTurns u.router.edges.allowance s.corridorRate.allowanceHeld t.corridorRate.allowanceHeld
              ∨ State.flagTurns u.router.edges.allowance s.corridorRate.suspended t.corridorRate.suspended) u t

/-! ### The clock and the schedule (chapter 5) -/

/-- The calendar: the second after a time is one later, a hundred years from 2000 in 36525 days wrap to their start, no two times of
the calendar are the same second, and 2000-01-01 is a Saturday (R84, R85). -/
def Obligations.CalendarCountsSeconds : Prop :=
  (∀ t : DateTime, t.wf = true → t.nextSecond.wf = true ∧ t.nextSecond.instant = (t.instant + 1) % (36525 * 86400))
  ∧ (∀ t u : DateTime, t.wf = true → u.wf = true → t.instant = u.instant → t = u)
  ∧ DateTime.epoch.weekday = 6 ∧ DateTime.epoch.instant = 0
  ∧ ∀ t : DateTime, t.weekday = (t.dayNumber + 5) % 7 + 1

/-- CLOCK_ADVANCE after 100 samples: the clock goes on by a second; with a valid clock, both shift records are read at a full hour and
one that applies moves the hour once in its year, and a new minute sets the SCHEDULE entry of each ramp to the Action of its highest
matching slot. A shift applied, and each entry read that matches the minute evaluated, raises SCHEDULE (R85, R86, R90, R91, R94, R97;
its order in the evaluation is log 33). -/
def Obligations.ClockAdvanceFollowsTheSchedule : Prop :=
  ∀ (s : State) (n : DateTime), s.running → n = s.retained.clock.nextSecond →
    (s.retained.phase < 100 → exec .clockAdvance s = .next s)
    ∧ (100 ≤ s.retained.phase →
      (s.retained.clockValid = false ∨ n.second ≠ 0 → exec .clockAdvance s
        = .next { s with retained := { s.retained with clock := n, phase := s.retained.phase - 100 } })
      ∧ (s.retained.clockValid = true → n.second = 0 → ∃ t, exec .clockAdvance s = .next t
        ∧ t.retained.phase = s.retained.phase - 100 ∧ t.retained.clockValid = true ∧ t.memory.safety = s.memory.safety
        ∧ (∀ r, (t.planList r).hold = (s.planList r).hold ∧ (t.planList r).command = (s.planList r).command)
        ∧ (∀ i, n.minute = 0 → s.memory.shifts.get i ≠ none → (t.health (.shift i)).check ≠ .oneError)
        ∧ (∀ i x, n.minute = 0 → s.readableShift i = some x → x.applies n = true →
            (i = 0 ∨ ∀ y, s.readableShift 0 = some y → y.applies n = false) →
            t.retained.clock = { n with
              hour := (match x.direction with | .forward => x.hour + 1 | .back => x.hour - 1), minute := 0, second := 0 }
            ∧ t.memory.shifts = s.memory.shifts.set i (some { x with appliedYear := some n.year })
            ∧ ∀ p, classIn .schedule (t.port p).pending = true ↔ classIn .schedule (s.port p).pending = true
                ∨ s.delivers .schedule p = true
                ∨ t.delivers .schedule p = true ∧ (x.direction = .forward
                    ∨ ∃ j e, s.readableSchedule j = some e ∧ e.matchesMinute t.retained.clock = true))
        ∧ ((n.minute ≠ 0 ∨ ∀ i x, s.readableShift i = some x → x.applies n = false) →
            t.retained.clock = n ∧ t.memory.shifts = s.memory.shifts
            ∧ (∀ p, classIn .schedule (t.port p).pending = true ↔ classIn .schedule (s.port p).pending = true
                ∨ t.delivers .schedule p = true ∧ ∃ j e, s.readableSchedule j = some e ∧ e.matchesMinute n = true)
            ∧ ∀ r, ((∀ j e, s.readableSchedule j = some e → e.names r = true → e.matchesMinute n = false) →
                (t.planList r).schedule = (s.planList r).schedule)
              ∧ ∀ j e, s.readableSchedule j = some e → e.names r = true → e.matchesMinute n = true →
                (∀ j' e', j < j' → s.readableSchedule j' = some e' → e'.names r = true → e'.matchesMinute n = false) →
                (t.planList r).schedule = some e.action)))

/-- SET_CLOCK from the port that holds the corridor record: a time of the calendar is taken with the clock valid and its phase 0, and
the catch-up sets each ramp's SCHEDULE entry to the Action of the entry whose latest occurrence is youngest, the highest slot among
equals, or removes it where no entry names the ramp, and raises SCHEDULE; any other time is BAD_VALUE (R88, R95, R96, R97; that
SCHEDULE is raised after the lists is log 33). -/
def Obligations.SetClockCatchesUp : Prop :=
  ∀ (p : Port) (y mo d h mi sec : Byte) (s : State) (n : DateTime), s.ready p → s.holder corridorRecord = some p →
    n = { year := y.toNat, month := mo.toNat, day := d.toNat, hour := h.toNat, minute := mi.toNat, second := sec.toNat } →
    (n.wf = false → exec (.setClock p y mo d h mi sec) s = s.refusal p (.setClock 0 y mo d h mi sec) .badValue)
    ∧ (n.wf = true → ∃ t, exec (.setClock p y mo d h mi sec) s = .next t
      ∧ t.retained.clock = n ∧ t.retained.clockValid = true ∧ t.retained.phase = 0
      ∧ State.raisedBy .schedule [t] s t
      ∧ (∀ r, (t.planList r).hold = (s.planList r).hold ∧ (t.planList r).command = (s.planList r).command
        ∧ ((∀ j e, s.readableSchedule j = some e → e.names r = true → e.age n.minuteOfWeek = none) →
            (t.planList r).schedule = none)
        ∧ ∀ j e a, s.readableSchedule j = some e → e.names r = true → e.age n.minuteOfWeek = some a →
          (∀ j' e' a', s.readableSchedule j' = some e' → e'.names r = true → e'.age n.minuteOfWeek = some a' →
            a < a' ∨ a = a' ∧ j' ≤ j) →
          (t.planList r).schedule = some e.action))

/-! ### The sequencers and the lists (chapters 4 and 6) -/

/-- WARNING_TIMER_EXPIRY when it is due: the ramp enters METERING with every lane in force RED at 0, the rotation from lane 1, and the
start timing of the plan demanded then, clamped to its limits, in force; the queue estimate starts at 0; the was-metering flag is set but
under the Supply Hold, RAMP_STATE is raised, and the runs of the lanes turned red start again (R30, R60, R106, R107, R115, R122, R123,
R128; that the settings' values are in force at that RAMP_STATE is log 12). -/
def Obligations.MeteringStartsAtTheWarningsEnd : Prop :=
  ∀ (r : Ramp) (s : State), s.running →
    ((s.seq r).state ≠ .warning ∨ (s.seq r).warningTimer ≠ some 0 → exec (.warningTimerExpiry r) s = .next s)
    ∧ ∀ (x : Plan) (lim : Limits) (tm : Timing), (s.seq r).state = .warning → (s.seq r).warningTimer = some 0 →
      (s.seq r).laneCount ≠ 0 → s.corridorInUse.laneCount.get r = (s.seq r).laneCount →
      ((∃ k, (s.planList r).demanded = some (.slot k) ∧ s.readablePlan k = some x)
        ∨ (s.planList r).demanded = some .builtin ∧ x = planZero s.safetyInUse) →
      lim = limitsOf s.safetyInUse x (s.seq r).laneCount → tm = timingOf lim (clampNat lim.low lim.high x.startRate) →
      ∃ t, exec (.warningTimerExpiry r) s = .next t
        ∧ t.seq r = { s.seq r with
            state := .metering, stopping := false, lanes := Tab.ofFn (fun ln => if (s.seq r).inForce ln then .red 0 else .dark)
            slotTimer := some (tm.slotInterval * 10), heldSlot := false, lastLane := none, timing := some tm
            pendingTiming := none, lastVehicles := tm.vehiclesPerGreen, redMinimum := some s.safetyInUse.redMinimum
            pendingCount := none, warningTimer := none, clearanceTimer := none }
        ∧ (t.meas r).queueEstimate = 0 ∧ s.rampTurns r true [t] t ∧ s.lampsFollow r [] t
        ∧ t.lists = s.lists ∧ t.kept = s.kept

/-- CLEARANCE_TIMER_EXPIRY takes the ramp to OFF, and on to WARNING where a plan is demanded without a Supply Hold; GREEN_END turns the
lane RED, and ends a stopping ramp's metering; SIGN_PHASE_CHANGE turns the half of the sign. Each change of ramp state raises RAMP_STATE
and writes the was-metering flag but under the Supply Hold, and each change of commanded aspect restarts its lane's runs (R103, R105, R110,
R119, R122, R123, R128; that the values of the settings read are in force at that RAMP_STATE is log 12). -/
def Obligations.ClearancesGreensAndSignsEnd : Prop :=
  (∀ (r : Ramp) (s : State), s.running →
    ((s.seq r).state ≠ .ending ∨ (s.seq r).clearanceTimer ≠ some 0 → exec (.clearanceTimerExpiry r) s = .next s)
    ∧ ((s.seq r).state = .ending → (s.seq r).clearanceTimer = some 0 → (s.seq r).pendingCount = none →
        (s.seq r).laneCount ≠ 0 →
        (((s.planList r).demanded = none ∨ (s.seq r).supplyHold = true) →
          ∃ t, exec (.clearanceTimerExpiry r) s = .next t
            ∧ t.seq r = { (s.seq r).discard with lanes := Tab.replicate 2 .dark, state := .off }
            ∧ s.rampTurns r false [s] t ∧ s.lampsFollow r [] t ∧ t.lists = s.lists ∧ t.kept = s.kept)
        ∧ ((s.planList r).demanded ≠ none → (s.seq r).supplyHold = false →
          s.corridorInUse.laneCount.get r = (s.seq r).laneCount →
          ∃ t, exec (.clearanceTimerExpiry r) s = .next t
            ∧ t.seq r = { (s.seq r).discard with
                state := .warning, sign := .flashing true 0, warningTimer := some (s.corridorInUse.warnTime * 100)
                lanes := Tab.ofFn (fun ln => if (s.seq r).inForce ln then .restGreen else .dark) }
            ∧ s.rampTurns r true [s, t] t ∧ s.lampsFollow r ((List.finRange 2).filter (s.seq r).inForce) t
            ∧ t.lists = s.lists ∧ t.kept = s.kept)))
  ∧ (∀ (r : Ramp) (ln : LaneNo) (s : State), s.running →
    ((s.seq r).state ≠ .metering ∨ (s.seq r).lanes.get ln ≠ .green 0 → exec (.greenEnd r ln) s = .next s)
    ∧ ((s.seq r).state = .metering → (s.seq r).lanes.get ln = .green 0 →
        ((s.seq r).stopping = false → (s.seq r).heldSlot = false →
          ∃ t, exec (.greenEnd r ln) s = .next t
            ∧ t.seq r = { s.seq r with lanes := (s.seq r).lanes.set ln (.red 0) } ∧ s.lampsFollow r [] t ∧ t.ports = s.ports
            ∧ t.lists = s.lists ∧ t.kept = s.kept)
        ∧ ((s.seq r).stopping = true → s.corridorInUse.laneCount.get r = (s.seq r).laneCount → (s.seq r).laneCount ≠ 0 →
          ∃ t, exec (.greenEnd r ln) s = .next t
            ∧ t.seq r = { (s.seq r).discard with
                state := .ending, pendingCount := none, clearanceTimer := some (s.corridorInUse.clearanceTime * 100)
                lanes := Tab.ofFn (fun ln => if (s.seq r).inForce ln then .restGreen else .dark) }
            ∧ s.rampTurns r false [t] t ∧ s.lampsFollow r [ln] t ∧ t.lists = s.lists ∧ t.kept = s.kept)))
  ∧ ∀ (r : Ramp) (s : State), s.running →
    (∀ on e, (s.seq r).sign = .flashing on e → 50 ≤ e →
      exec (.signPhaseChange r) s = .next (s.setSeq r { s.seq r with sign := .flashing (!on) 0 }))
    ∧ (((s.seq r).sign = .off ∨ ∃ on e, (s.seq r).sign = .flashing on e ∧ e < 50) → exec (.signPhaseChange r) s = .next s)

/-- SLOT_EXPIRY, GREEN_END, RED_MINIMUM_REACHED and a SAMPLE that changes a check-in condition: a slot due or held goes to the next
eligible lane in the rotation after the Last Lane Given, with the Pending Timing adopted where one stands; with no eligible lane it is
held, and its timer stays stopped. The runs of the lanes whose commanded aspect changes start again (R128), and no RAMP_STATE is raised
(R123). `q` is the sequencer in which the slot is judged, `u` the state whose inputs the SAMPLE takes (R16,
R115 to R119, R121; the order within a SAMPLE is the model's, log 3, log 17, log 29). -/
def Obligations.SlotsGoToTheNextEligibleLane : Prop :=
  (∀ (q : Sequencer) (ln : LaneNo), q.eligible ln = true ↔
    ln.val < q.laneCount
    ∧ (∃ e m, q.lanes.get ln = .red e ∧ q.redMinimum = some m ∧ 10 * m ≤ e)
    ∧ (q.checkIn.get ln = some .present ∨ q.checkIn.get ln = some .unsupervised)
    ∧ (∀ ln', (q.lanes.get ln').isGreen = false) ∧ q.stopping = false)
  ∧ (∀ (r : Ramp) (s : State), s.running → (s.seq r).state = .metering →
    (∀ (q given : Sequencer) ln tm, q.eligible ln = true →
      (∀ other, other ≠ ln → q.eligible other = true →
        match q.lastLane with
        | some last => last = other
        | none => ln < other) →
      (q.pendingTiming = some tm ∨ q.pendingTiming = none ∧ q.timing = some tm) →
      given = { q with
          lanes := q.lanes.set ln (.green (tm.greenTime * 10)), slotTimer := some (tm.slotInterval * 10)
          heldSlot := false, lastLane := some ln, timing := some tm, pendingTiming := none
          lastVehicles := tm.vehiclesPerGreen, greens := q.greens.set ln (q.greens.get ln + 1) } →
      (q = s.seq r → (s.seq r).slotTimer = some 0 →
        ∃ t, exec (.slotExpiry r) s = .next t ∧ t.seq r = given ∧ s.lampsFollow r [] t ∧ t.ports = s.ports ∧ t.lists = s.lists
          ∧ t.kept = s.kept)
      ∧ (q = s.seq r → (s.seq r).heldSlot = true → ∀ ln', (s.seq r).redServed ln' = true →
        ∃ t, exec (.redMinimumReached r ln') s = .next t ∧ t.seq r = given ∧ s.lampsFollow r [] t ∧ t.ports = s.ports
          ∧ t.lists = s.lists ∧ t.kept = s.kept)
      ∧ (∀ ln', q = { s.seq r with lanes := (s.seq r).lanes.set ln' (.red 0) } → (s.seq r).lanes.get ln' = .green 0 →
        (s.seq r).heldSlot = true → (s.seq r).stopping = false →
        ∃ t, exec (.greenEnd r ln') s = .next t ∧ t.seq r = given ∧ s.lampsFollow r [ln', ln] t ∧ t.ports = s.ports
          ∧ t.lists = s.lists ∧ t.kept = s.kept))
    ∧ (∀ (q : Sequencer) ln', q = { s.seq r with lanes := (s.seq r).lanes.set ln' (.red 0) } →
        (s.seq r).lanes.get ln' = .green 0 → (s.seq r).heldSlot = true → (s.seq r).stopping = false →
        (∀ ln, q.eligible ln = false) →
        ∃ t, exec (.greenEnd r ln') s = .next t ∧ t.seq r = q ∧ s.lampsFollow r [] t ∧ t.ports = s.ports ∧ t.lists = s.lists
          ∧ t.kept = s.kept)
    ∧ ((s.seq r).slotTimer = some 0 → (∀ ln, (s.seq r).eligible ln = false) →
        exec (.slotExpiry r) s = .next (s.setSeq r { s.seq r with slotTimer := none, heldSlot := true }))
    ∧ ((s.seq r).slotTimer ≠ some 0 → exec (.slotExpiry r) s = .next s)
    ∧ (∀ ln, (s.seq r).redServed ln = false ∨ (s.seq r).heldSlot = false ∨ (∀ ln', (s.seq r).eligible ln' = false) →
        exec (.redMinimumReached r ln) s = .next s))
  ∧ ∀ (inp : Inputs) (first : List DueStep) (s u : State), s.running → u = ((s.settle inp).tick).each first State.takeStep →
      ∃ t, exec (.sample inp first) s = .next t
        ∧ (∀ (r' : Ramp) (ln : LaneNo) (x : Identity), x = { role := .checkin, ramp := some r', lane := some (ln.val + 1) } →
          ((∀ i, (t.loop i).ident ≠ some x) → t.checkInAt r' ln = .unsupervised)
          ∧ ∀ i, (t.loop i).ident = some x → (∀ j, j ≠ i → (t.loop j).ident ≠ some x) →
            t.checkInAt r' ln = (if t.judgedState i ≠ .ok then .unsupervised
              else if (t.loop i).presence = some true then .present else .absent))
        ∧ ∀ (r' : Ramp) (q : Sequencer),
          q = { u.seq r' with
            checkIn := Tab.ofFn fun ln => if ln.val < (u.seq r').laneCount then some (t.checkInAt r' ln) else none } →
          (((u.seq r').state ≠ .metering ∨ (u.seq r').heldSlot = false ∨ q.checkIn = (u.seq r').checkIn
              ∨ ∀ ln, q.eligible ln = false) → t.seq r' = q)
          ∧ ((u.seq r').state = .metering → (u.seq r').heldSlot = true → q.checkIn ≠ (u.seq r').checkIn →
            ∀ ln tm, q.eligible ln = true →
              (∀ other, other ≠ ln → q.eligible other = true →
                match q.lastLane with
                | some last => last = other
                | none => ln < other) →
              (q.pendingTiming = some tm ∨ q.pendingTiming = none ∧ q.timing = some tm) →
              t.seq r' = { q with
                lanes := q.lanes.set ln (.green (tm.greenTime * 10)), slotTimer := some (tm.slotInterval * 10)
                heldSlot := false, lastLane := some ln, timing := some tm, pendingTiming := none
                lastVehicles := tm.vehiclesPerGreen, greens := q.greens.set ln (q.greens.get ln + 1) })

/-- A change of the demanded plan, as a ramp of each state takes it: in UNCONFIGURED and DARK_FAULT it is not followed; elsewhere as given
here where the Lane Count of the settings is that in force (R105, R106, R108 to R110, R80). While a Pending Lane Count stands the demand
is taken as off (R104), and a METERING ramp reckons no change timing, the model's choice (log 32). Each change of ramp state raises
RAMP_STATE and writes the was-metering flag but under the Supply Hold, and each change of commanded aspect restarts its lane's runs (R122,
R123, R128; that the values of the settings read are in force at that RAMP_STATE is log 12). -/
def Obligations.DemandIsFollowedInEveryState : Prop :=
  (∀ (r : Ramp) (s : State),
    ((s.seq r).state = .unconfigured ∨ (s.seq r).state = .darkFault → s.handDemand r = s)
    ∧ ((s.seq r).pendingCount ≠ none →
      ((s.seq r).state = .off ∨ (s.seq r).state = .ending → s.handDemand r = s)
      ∧ ((s.seq r).state = .metering → (∃ ln, ((s.seq r).lanes.get ln).isGreen = true) →
          s.handDemand r = s.setSeq r { s.seq r with stopping := true })))
  ∧ ∀ (r : Ramp) (s : State), (s.seq r).laneCount ≠ 0 → s.corridorInUse.laneCount.get r = (s.seq r).laneCount →
    (s.seq r).pendingCount = none →
    ((s.planList r).demanded = none →
      ((s.seq r).state = .off ∨ (s.seq r).state = .ending → s.handDemand r = s)
      ∧ ((s.seq r).state = .warning →
          (s.handDemand r).seq r = { (s.seq r).discard with lanes := Tab.replicate 2 .dark, state := .off }
          ∧ s.rampTurns r false [s] (s.handDemand r) ∧ s.lampsFollow r [] (s.handDemand r))
      ∧ ((s.seq r).state = .metering → (∃ ln, ((s.seq r).lanes.get ln).isGreen = true) →
          s.handDemand r = s.setSeq r { s.seq r with stopping := true })
      ∧ ((s.seq r).state = .metering → (∀ ln, ((s.seq r).lanes.get ln).isGreen = false) →
          (s.handDemand r).seq r = { (s.seq r).discard with
            state := .ending, clearanceTimer := some (s.corridorInUse.clearanceTime * 100)
            lanes := Tab.ofFn (fun ln => if (s.seq r).inForce ln then .restGreen else .dark) }
          ∧ s.rampTurns r false [s.handDemand r] (s.handDemand r) ∧ s.lampsFollow r [] (s.handDemand r)))
    ∧ (∀ (x : Plan) (lim : Limits) (tm : Timing),
      ((∃ k, (s.planList r).demanded = some (.slot k) ∧ s.readablePlan k = some x)
        ∨ (s.planList r).demanded = some .builtin ∧ x = planZero s.safetyInUse) →
      lim = limitsOf s.safetyInUse x (s.seq r).laneCount →
      tm = timingOf lim (clampNat lim.low lim.high ((s.rate r).lastFinal.getD x.startRate)) →
      ((s.seq r).state = .off → (s.seq r).supplyHold = false →
          (s.handDemand r).seq r = { s.seq r with
            state := .warning, sign := .flashing true 0, warningTimer := some (s.corridorInUse.warnTime * 100)
            lanes := Tab.ofFn (fun ln => if (s.seq r).inForce ln then .restGreen else .dark) }
          ∧ s.rampTurns r true [s.handDemand r] (s.handDemand r) ∧ s.lampsFollow r [] (s.handDemand r))
      ∧ ((s.seq r).state = .off → (s.seq r).supplyHold = true → s.handDemand r = s)
      ∧ ((s.seq r).state = .warning → s.handDemand r = s)
      ∧ ((s.seq r).state = .metering → (s.seq r).heldSlot = false →
          (s.handDemand r).seq r
            = { s.seq r with stopping := false, redMinimum := some s.safetyInUse.redMinimum, pendingTiming := some tm })
      ∧ ((s.seq r).state = .ending →
          (s.handDemand r).seq r = { s.seq r with
            state := .metering, stopping := false, lanes := Tab.ofFn (fun ln => if (s.seq r).inForce ln then .red 0 else .dark)
            slotTimer := some (tm.slotInterval * 10), heldSlot := false, lastLane := none, timing := some tm
            pendingTiming := none, lastVehicles := tm.vehiclesPerGreen, redMinimum := some s.safetyInUse.redMinimum
            warningTimer := none, clearanceTimer := none, sign := .flashing true 0 }
          ∧ s.rampTurns r true [s.handDemand r] (s.handDemand r) ∧ s.lampsFollow r [] (s.handDemand r)))

/-- A list changed to `l` holds the entries of `l`. Where the governing entry changes, the FALLBACK entry is judged at once: removed with
no governing plan, removed where the governing plan is read as present and readable, and else placed, or set, to carry plan 0; its
placement raises FALLBACK, and under BOTH its removal (R74, R82). The sequencer then takes a changed demanded plan (R73). SELECT, WITHDRAW
and CLEAR_HOLD make such changes, or answer BAD_VALUE or EMPTY (R76 to R78). -/
def Obligations.ListCommandsChangeTheirList : Prop :=
  (∀ (r : Ramp) (l : PlanList) (s : State),
    ((s.changeList r l).planList r).hold = l.hold ∧ ((s.changeList r l).planList r).command = l.command
    ∧ ((s.changeList r l).planList r).schedule = l.schedule
    ∧ (∀ r', r' ≠ r → (s.changeList r l).planList r' = s.planList r')
    ∧ (l.governing ≠ (s.planList r).governing → l.governingPlan = none → ((s.changeList r l).planList r).fallback = none)
    ∧ (l.governing ≠ (s.planList r).governing → ∀ (fb : Option PlanRef) (w u : State),
        (l.governingPlan = none ∧ w = s.setList r l ∧ fb = none
          ∨ ∃ k, l.governingPlan = some k ∧ w = (s.setList r l).useRecord (.plan k)
              ∧ (s.readablePlan k ≠ none ∧ fb = none ∨ s.readablePlan k = none ∧ fb = some .builtin)) →
        u = (w.setList r { l with fallback := fb }).raiseIf
            (decide (l.fallback = none ∧ fb ≠ none ∨ l.fallback ≠ none ∧ fb = none ∧ s.router.edges.fallback = .both)) .fallback →
        (({ l with fallback := fb } : PlanList).demanded = (s.planList r).demanded → s.changeList r l = u)
        ∧ (({ l with fallback := fb } : PlanList).demanded ≠ (s.planList r).demanded → s.changeList r l = u.handDemand r))
    ∧ (l.governing = (s.planList r).governing → l.demanded = (s.planList r).demanded → s.changeList r l = s.setList r l)
    ∧ (l.governing = (s.planList r).governing → l.demanded ≠ (s.planList r).demanded →
        s.changeList r l = (s.setList r l).handDemand r))
  ∧ ∀ (p : Port) (b : Byte) (s : State), s.ready p →
    (b = 0 ∨ 7 ≤ b.toNat →
      (∀ plan, exec (.select p b plan) s = s.refusal p (.select b plan) .badValue)
      ∧ exec (.withdraw p b) s = s.refusal p (.withdraw b) .badValue
      ∧ (p ≠ .centre → exec (.clearHold p b) s = s.refusal p (.clearHold b) .badValue))
    ∧ ∀ r : Ramp, b.toNat = r.val + 1 → s.holder (rampRecord r) = some p →
      (∀ plan, plan = 0 ∨ 33 ≤ plan.toNat ∧ plan ≠ 0xFF →
        exec (.select p b plan) s = s.refusal p (.select b plan) .badValue)
      ∧ ((s.seq r).state = .unconfigured →
        (∀ k : PlanSlot, ∀ plan : Byte, plan.toNat = k.val + 1 ∨ plan = 0xFF →
          exec (.select p b plan) s = s.refusal p (.select b plan) .empty)
        ∧ exec (.withdraw p b) s = s.refusal p (.withdraw b) .empty
        ∧ (p ≠ .centre → exec (.clearHold p b) s = s.refusal p (.clearHold b) .empty))
      ∧ ((s.seq r).state ≠ .unconfigured →
        exec (.select p b 0xFF) s = .next (((s.arrived p (.select b 0xFF)).changeList r
            { s.planList r with command := some (.off, .port p) }).answered p (.select b 0xFF) .done .empty)
        ∧ (∀ (k : PlanSlot) (plan : Byte), plan.toNat = k.val + 1 →
          (s.memory.plans.get k = none → exec (.select p b plan) s = s.refusal p (.select b plan) .empty)
          ∧ (s.memory.plans.get k ≠ none → exec (.select p b plan) s
              = .next ((((s.arrived p (.select b plan)).useRecord (.plan k)).changeList r
                  { s.planList r with command := some (.plan k, .port p) }).answered p (.select b plan) .done .empty)))
        ∧ exec (.withdraw p b) s = .next (((s.arrived p (.withdraw b)).changeList r
            { s.planList r with command := none }).answered p (.withdraw b) .done .empty)
        ∧ (p ≠ .centre → exec (.clearHold p b) s = .next ((((s.arrived p (.clearHold b)).setHoldFlag r false).changeList r
            { s.planList r with hold := false }).answered p (.clearHold b) .done .empty)))

/-! ### The panel (8.8) -/

/-- PANEL_SHORT_PRESS places COMMAND OFF of the panel, and PANEL_LONG_HOLD the HOLD entry with its retained flag, the ramp dark at
once, with RAMP_STATE where its state changes; on an UNCONFIGURED ramp, or where neither is due, nothing happens (R79, R112, R122, R123,
R128, R153, R154). -/
def Obligations.PanelPressesActOnTheirRamp : Prop :=
  ∀ (r : Ramp) (s : State), s.running →
    ((s.button r).shortDue = false → exec (.panelShortPress r) s = .next s)
    ∧ ((s.button r).holdDue = false → exec (.panelLongHold r) s = .next s)
    ∧ ((s.button r).shortDue = true → ∀ u, u = s.setButton r { s.button r with shortDue := false } →
      ((s.seq r).state = .unconfigured → exec (.panelShortPress r) s = .next u)
      ∧ ((s.seq r).state ≠ .unconfigured →
        exec (.panelShortPress r) s = .next (u.changeList r { s.planList r with command := some (.off, .panel) })))
    ∧ ((s.button r).holdDue = true →
      ((s.seq r).state = .unconfigured →
        exec (.panelLongHold r) s = .next (s.setButton r { s.button r with holdDue := false }))
      ∧ ((s.seq r).state ≠ .unconfigured → ∃ t, exec (.panelLongHold r) s = .next t
        ∧ t.planList r = { s.planList r with hold := true, fallback := none }
        ∧ (∀ r', r' ≠ r → t.planList r' = s.planList r' ∧ t.seq r' = s.seq r')
        ∧ t.retained.hold = s.retained.hold.set r true ∧ t.memory = s.memory ∧ t.arbiter = s.arbiter
        ∧ State.raisedBetween .rampState
            ((s.seq r).state = .warning ∨ (s.seq r).state = .metering ∨ (s.seq r).state = .ending) s t
        ∧ ((s.seq r).state = .off ∨ (s.seq r).state = .darkFault → t.seq r = s.seq r ∧ s.lampsFollow r [] t)
        ∧ ((s.seq r).state = .warning ∨ (s.seq r).state = .metering ∨ (s.seq r).state = .ending →
            (s.seq r).pendingCount = none → (s.seq r).laneCount ≠ 0 →
            t.seq r = { (s.seq r).discard with lanes := Tab.replicate 2 .dark, state := .off }
            ∧ s.rampTurns r false [s] t ∧ s.lampsFollow r [] t)))

/-! ### Incidents (chapter 7) -/

/-- INCIDENT_QUALIFIES, due when the latest sample found it, and TEST_INCIDENT from the service port enter the record, darken their
ramp unless it is UNCONFIGURED or dark already, and raise INCIDENT; CLEAR_INCIDENT empties the record; RESTART_RAMP takes a ramp out
of DARK_FAULT unless a green is sensed; each change of ramp state raises RAMP_STATE, and each change of commanded aspect restarts its
lane's runs (R111, R114, R122, R123, R128, R130, R132, R134 to R137; that the values of the settings read at an entry into WARNING are in
force at its RAMP_STATE is log 12). -/
def Obligations.IncidentsDarkenTheirRamp : Prop :=
  (∀ new : IncidentRec,
    enterIncident none new = { new with later := 0 }
    ∧ (∀ h : IncidentRec, h.rank = .low → new.rank = .high → enterIncident (some h) new = { new with later := 0 })
    ∧ (∀ h : IncidentRec, h.rank = .high ∨ new.rank = .low →
        enterIncident (some h) new = { h with later := if h.later < 255 then h.later + 1 else 255 }))
  ∧ (∀ (r : Ramp) (ln : LaneNo) (x : IncidentRec) (s : State),
    (∀ k q, s.running → s.qualified.find? (fun q => q.ramp = r && q.lane = ln && q.kind = k) = some q →
      x = { kind := k, rank := if k = .conflict ∨ k = .strayGreen then .high else .low, ramp := r, lane := ln,
            stamp := if s.retained.clockValid then some s.retained.clock else none
            commanded := q.commanded, sensed := q.sensed, later := 0 } →
      exec (.incidentQualifies r ln k) s = .next (((({ s with qualified := s.qualified.erase q } : State).setIncident
        (some (enterIncident s.retained.incident x))).darken r).raise .incident))
    ∧ (∀ b l k, s.ready .service → (s.seq r).state ≠ .unconfigured → b.toNat = r.val + 1 → l.toNat = ln.val + 1 →
      (k = 0 ∧ x.rank = .high ∨ k = 1 ∧ x.rank = .low) →
      x = { kind := .test, rank := x.rank, ramp := r, lane := ln,
            stamp := if s.retained.clockValid then some s.retained.clock else none
            commanded := s.commanded r ln, sensed := (s.lamp r ln).sensed, later := 0 } →
      exec (.testIncident .service b l k) s = .next (((((s.arrived .service (.testIncident b l k)).setIncident
        (some (enterIncident s.retained.incident x))).darken r).raise .incident).answered .service (.testIncident b l k)
        .done .empty)))
  ∧ (∀ (r : Ramp) (ln : LaneNo) (k : IncidentKind) (s : State), s.running →
      (∀ q ∈ s.qualified, ¬ (q.ramp = r ∧ q.lane = ln ∧ q.kind = k)) → exec (.incidentQualifies r ln k) s = .next s)
  ∧ (∀ (r : Ramp) (s : State),
      ((s.seq r).state = .unconfigured ∨ (s.seq r).state = .darkFault → s.darken r = s)
      ∧ ((s.seq r).state = .off ∨ (s.seq r).state = .warning ∨ (s.seq r).state = .metering ∨ (s.seq r).state = .ending →
          (s.darken r).seq r = { (s.seq r).discard with lanes := Tab.replicate 2 .dark, state := .darkFault }
          ∧ (∀ r', r' ≠ r → (s.darken r).seq r' = s.seq r')
          ∧ (s.darken r).retained.faultDark = s.retained.faultDark.set r true
          ∧ ((s.seq r).supplyHold = false → (s.darken r).retained.wasMetering = s.retained.wasMetering.set r false)
          ∧ s.rampTurns r false [s] (s.darken r) ∧ s.lampsFollow r [] (s.darken r)
          ∧ (s.darken r).lists = s.lists ∧ (s.darken r).kept = s.kept))
  ∧ (∀ (b l k : Byte) (s : State), s.ready .service →
      (b = 0 ∨ 7 ≤ b.toNat ∨ l = 0 ∨ 3 ≤ l.toNat ∨ 2 ≤ k.toNat →
        exec (.testIncident .service b l k) s = s.refusal .service (.testIncident b l k) .badValue)
      ∧ (∀ r : Ramp, b.toNat = r.val + 1 → (l = 1 ∨ l = 2) → (k = 0 ∨ k = 1) → (s.seq r).state = .unconfigured →
        exec (.testIncident .service b l k) s = s.refusal .service (.testIncident b l k) .empty))
  ∧ (∀ (p : Port) (s : State), s.ready p → (p = .service ∨ s.holder corridorRecord = some p) →
      exec (.clearIncident p) s = .next (((s.arrived p (.clearIncident 0)).setIncident none).answered p (.clearIncident 0)
        .done .empty))
  ∧ ∀ (p : Port) (b : Byte) (s : State), s.ready p →
    (b = 0 ∨ 7 ≤ b.toNat → exec (.restartRamp p b) s = s.refusal p (.restartRamp b) .badValue)
    ∧ ∀ r : Ramp, b.toNat = r.val + 1 → s.holder (rampRecord r) = some p →
      ((s.seq r).state = .unconfigured → exec (.restartRamp p b) s = s.refusal p (.restartRamp b) .empty)
      ∧ ((s.seq r).state ≠ .unconfigured → (s.seq r).state ≠ .darkFault →
        exec (.restartRamp p b) s = .next ((s.arrived p (.restartRamp b)).answered p (.restartRamp b) .done .empty))
      ∧ ((s.seq r).state = .darkFault →
        ((∃ ln, (s.lamp r ln).sensed = .green ∨ (s.lamp r ln).sensed = .both) →
          exec (.restartRamp p b) s = s.refusal p (.restartRamp b) .conditionPresent)
        ∧ ((∀ ln, (s.lamp r ln).sensed = .none ∨ (s.lamp r ln).sensed = .red) → (s.seq r).pendingCount = none →
          ∃ t, exec (.restartRamp p b) s = .next t ∧ t.retained.faultDark = s.retained.faultDark.set r false
            ∧ t.retained.incident = s.retained.incident ∧ t.lists = s.lists
            ∧ ((s.seq r).laneCount = 0 → (t.seq r).state = .unconfigured ∧ s.rampTurns r false [s] t)
            ∧ ((s.seq r).laneCount ≠ 0 → ((s.planList r).demanded = none ∨ (s.seq r).supplyHold = true) →
                (t.seq r).state = .off ∧ s.rampTurns r false [s] t)
            ∧ ((s.seq r).laneCount ≠ 0 → (s.planList r).demanded ≠ none → (s.seq r).supplyHold = false →
                s.corridorInUse.laneCount.get r = (s.seq r).laneCount →
                (t.seq r).state = .warning ∧ s.rampTurns r true [s, t] t)))

/-! ### Supply, restarts and reset (chapter 10) -/

/-- SUPPLY_FAIL_ASSERTED: the was-metering flags are captured, every configured ramp takes the Supply Hold, and a ramp in WARNING,
METERING or ENDING goes dark to OFF at once, raising RAMP_STATE; no list and no other retained item changes (R113, R123, R128, R173). -/
def Obligations.SupplyFailHoldsEveryRamp : Prop :=
  ∀ s : State, s.running →
    (s.supply.sampled = false ∨ s.supply.input = true → exec .supplyFailAsserted s = .next s)
    ∧ (s.supply.sampled = true → s.supply.input = false → ∃ t, exec .supplyFailAsserted s = .next t
      ∧ t.supply = { s.supply with input := true } ∧ t.lists = s.lists ∧ t.memory = s.memory
      ∧ t.retained = { s.retained with
          wasMetering := Tab.ofFn fun r => decide ((s.seq r).state = .warning ∨ (s.seq r).state = .metering) }
      ∧ State.raisedBetween .rampState
          (∃ r, (s.seq r).state = .warning ∨ (s.seq r).state = .metering ∨ (s.seq r).state = .ending) s t
      ∧ ∀ r,
        ((s.seq r).state = .unconfigured → t.seq r = s.seq r)
        ∧ ((s.seq r).state = .off ∨ (s.seq r).state = .darkFault → t.seq r = { s.seq r with supplyHold := true })
        ∧ ((s.seq r).state = .warning ∨ (s.seq r).state = .metering ∨ (s.seq r).state = .ending →
            (s.seq r).pendingCount = none → (s.seq r).laneCount ≠ 0 →
            t.seq r = { (s.seq r).discard with supplyHold := true, lanes := Tab.replicate 2 .dark, state := .off }
            ∧ s.lampsFollow r [] t))

/-- SUPPLY_RESTART: the holds are cleared, the rates and the queue estimates start again, the lists are rebuilt from the retained flags
and the Restart Policy, and each ramp goes where its fault-dark flag, the Lane Count and its rebuilt list send it; an incident that waits
to be taken stays only while its reported mark stands; configuration memory but for corrections and discoveries, the clock and the
incident record stay; RESTART joins the pending sets, which keep what was pending (R30, R65, R83, R125, R174, R177, R179, R180). That the Lane Count of the settings is in force after it, with the start
states this gives, is the model's order of the restart (log 28), and its reads are those of log 21. -/
def Obligations.SupplyRestartRebuilds : Prop :=
  ∀ s : State, s.running →
    (s.supply.sampled = true ∨ s.supply.input = false → exec .supplyRestart s = .next s)
    ∧ (s.supply.sampled = false → s.supply.input = true → ∃ t, exec .supplyRestart s = .next t
      ∧ t.supply = { s.supply with input := false, cause := .supply }
      ∧ t.kept = { s.kept with
          supply := t.supply
          qualified := s.qualified.filter fun q => ((t.lamp q.ramp q.lane).qual q.kind).reported }
      ∧ State.raisedBy .restart [t] s t
      ∧ (∀ p c, classIn c (s.port p).pending = true → classIn c (t.port p).pending = true)
      ∧ ∀ r, (t.seq r).supplyHold = false ∧ (t.rate r).previousClose = none ∧ (t.rate r).lastFinal = none
        ∧ (t.meas r).queueEstimate = 0 ∧ (t.planList r).hold = s.retained.hold.get r
        ∧ (t.planList r).command = (match s.corridorInUse.restartPolicy, s.retained.wasMetering.get r with
            | .resumeSchedule, _ => none
            | .resumePrior, true => none
            | .resumePrior, false => some (.off, .restart)
            | .stayOff, _ => some (.off, .restart))
        ∧ (s.retained.clockValid = false → (t.planList r).schedule = none)
        ∧ (s.retained.faultDark.get r = true → (t.seq r).state = .darkFault)
        ∧ (s.retained.faultDark.get r = false → (t.seq r).laneCount = s.corridorInUse.laneCount.get r
          ∧ (t.seq r).state = if s.corridorInUse.laneCount.get r = 0 then .unconfigured
              else if (t.planList r).demanded = none then .off else .warning))

/-- COLD_POWER of an unpowered part and COLD_LINE of one held at reset, where no record has an error: the retained store is kept or
initialised by its mark, and every block starts afresh; elsewhere COLD_POWER changes nothing or, the reset line asserted, leaves the
part held at reset, and COLD_LINE releases the line (R19, R38, R64, R125, R140, R156, R157, R170, R172, R175, R177, R193). The Supply
Input taking its pin's level and the inputs, straps and time as operands are log 9; the cases in which nothing restarts and the part held
at reset are log 10: the model's choices. -/
def Obligations.ColdRestartsStartEveryBlock : Prop :=
  ∀ (inp : Inputs) (straps : Straps) (off : Nat) (s : State),
    (s.supply.power ≠ .unpowered → exec (.coldPower inp straps off) s = .next s)
    ∧ (s.supply.power = .unpowered → s.supply.resetLine = true → ∃ t, exec (.coldPower inp straps off) s = .next t
        ∧ t.supply = { s.supply with power := .heldAtReset } ∧ t.memory = s.memory ∧ t.retained = s.retained.ran off)
    ∧ (s.supply.power ≠ .heldAtReset → exec (.coldLine inp straps off) s
        = .next { s with supply := { s.supply with resetLine := false } })
    ∧ ∀ (c : Instr) (k : RestartKind),
      (c = .coldPower inp straps off ∧ k = .coldPower ∧ s.supply.power = .unpowered ∧ s.supply.resetLine = false
        ∨ c = .coldLine inp straps off ∧ k = .coldLine ∧ s.supply.power = .heldAtReset) →
      (∀ id, (s.health id).check = .good) → (∀ p, 0 < s.memory.corridor.lapseTime.get (portIdx p)) →
      ∃ t, exec c s = .next t
        ∧ t.supply = { power := .running, resetLine := false, input := inp.supplyFail, sampled := inp.supplyFail, cause := k,
                       storeFoundValid := s.retained.valid, warmDue := false }
        ∧ t.retained.valid = true ∧ (∀ r, t.retained.wasMetering.get r = true → s.retained.valid = true ∧ inp.supplyFail = true
            ∨ (t.seq r).state = .warning)
        ∧ (s.retained.valid = false → t.retained.clock = DateTime.epoch ∧ t.retained.clockValid = false
            ∧ t.retained.incident = none ∧ ∀ r, t.retained.hold.get r = false ∧ t.retained.faultDark.get r = false)
        ∧ (s.retained.valid = true → t.retained.clock = (s.retained.ran off).clock
            ∧ t.retained.clockValid = s.retained.clockValid ∧ t.retained.incident = s.retained.incident
            ∧ t.retained.hold = s.retained.hold ∧ t.retained.faultDark = s.retained.faultDark)
        ∧ t.memory = { s.memory with health := Tab.replicate 132 { check := .good, damagedMark := false }, damagedList := []
                                     overflow := false, correctionCount := 0, safetyLock := false, scrubPosition := .loop 0 }
        ∧ (∀ i, t.loop i = Loop.afresh (if (s.memory.loops.get i).ident.role = .unused then .unused else .ok)
            (some (s.memory.loops.get i).ident))
        ∧ t.timer = PeriodTimer.start ∧ t.corridorMeasure = CorridorMeasure.start
        ∧ t.corridorRate = CorridorRate.start s.memory.corridor.startAllowance
        ∧ (∀ r, t.meas r = RampMeasure.start ∧ t.rate r = RampRate.start ∧ t.button r = Button.start
            ∧ ∀ ln, (t.lamp r ln).sensed = sensedAt inp r ln)
        ∧ t.arbiter = { holders := s.memory.corridor.defaultHolder, defaults := s.memory.corridor.defaultHolder }
        ∧ t.router = { routes := s.memory.corridor.routes, edges := s.memory.corridor.edges, watch := 0 }
        ∧ (∀ p, { t.port p with pending := 0 } = LinkPort.start (strapBaud straps p) (s.memory.corridor.lapseTime.get (portIdx p)))
        ∧ (∀ p, classIn .restart (t.port p).pending = true ↔ t.delivers .restart p = true)
        ∧ ∀ r, (t.planList r).hold = t.retained.hold.get r
          ∧ (t.planList r).command = (match s.memory.corridor.restartPolicy, s.retained.valid && s.retained.wasMetering.get r with
              | .resumeSchedule, _ => none
              | .resumePrior, true => none
              | .resumePrior, false => some (.off, .restart)
              | .stayOff, _ => some (.off, .restart))
          ∧ (t.retained.clockValid = false → (t.planList r).schedule = none)
          ∧ (t.seq r).laneCount = s.memory.corridor.laneCount.get r
          ∧ (t.seq r).state = (if t.retained.faultDark.get r then .darkFault
              else if s.memory.corridor.laneCount.get r = 0 then .unconfigured
              else if (t.planList r).demanded = none ∨ inp.supplyFail = true then .off else .warning)
          ∧ (t.seq r).supplyHold = (inp.supplyFail && (t.seq r).state ≠ .unconfigured)

/-- WARM_RESTART from the port that holds the corridor record is answered DONE with the answer that asks for the restart, and
WARM_RESTART_TAKEN, once that answer has gone, drops every request and answer unanswered, keeps the retained store but for the
was-metering flags, the stored records and the Safety Lock, and starts the ports, the authority records, the loops, the period and the
rates afresh and rebuilds the lists; of the events pending before, none stays, and RESTART goes to its route (R19, R38, R64, R83, R125,
R156, R176, R177, R179, R193; that a mark asks for the restart is log 20, the reads of the rebuild are log 21). -/
def Obligations.WarmRestartKeepsItsState : Prop :=
  (∀ (p : Port) (s : State), s.ready p → s.holder corridorRecord = some p →
    exec (.warmRestart p) s = .next ((s.arrived p (.warmRestart 0)).modPort p fun x => { x with
      answers := x.answers ++ [{ kind := (Req.warmRestart 0).kindByte ||| 0x80, status := .done, index := 0, payload := .empty,
                                 role := .warmRestart }] }))
  ∧ ∀ (inp : Inputs) (s : State), s.running →
    (s.supply.warmDue = false → exec (.warmRestartTaken inp) s = .next s)
    ∧ (s.supply.warmDue = true → ∃ t, exec (.warmRestartTaken inp) s = .next t
      ∧ t.supply = { s.supply with cause := .warm, warmDue := false }
      ∧ (∀ p, (t.port p).receiver = .hunting ∧ (t.port p).current = none ∧ (t.port p).waiting = none ∧ (t.port p).answers = []
          ∧ (t.port p).baud = (s.port p).baud ∧ (t.port p).silenceSeconds = 0)
      ∧ { t.retained with wasMetering := s.retained.wasMetering } = s.retained
      ∧ t.memory.loops = s.memory.loops ∧ t.memory.plans = s.memory.plans ∧ t.memory.schedule = s.memory.schedule
      ∧ t.memory.shifts = s.memory.shifts ∧ t.memory.safety = s.memory.safety ∧ t.memory.corridor = s.memory.corridor
      ∧ t.memory.safetyLock = s.memory.safetyLock ∧ t.memory.scrubPosition = .loop 0
      ∧ t.timer = PeriodTimer.start ∧ t.corridorMeasure = CorridorMeasure.start
      ∧ t.corridorRate = CorridorRate.start s.corridorInUse.startAllowance ∧ t.router.watch = 0
      ∧ t.router.routes = s.corridorInUse.routes ∧ t.router.edges = s.corridorInUse.edges
      ∧ t.arbiter.defaults = s.corridorInUse.defaultHolder
      ∧ ((∀ p, 0 < s.corridorInUse.lapseTime.get (portIdx p)) → t.arbiter.holders = s.corridorInUse.defaultHolder
          ∧ ∀ p, (t.port p).silent = false ∧ classIn .authority (t.port p).pending = false)
      ∧ (∀ p, (t.port p).lapseTime = s.corridorInUse.lapseTime.get (portIdx p)
          ∧ (classIn .restart (t.port p).pending = true ↔ t.delivers .restart p = true)
          ∧ ∀ c, (c = .stationData ∨ c = .incident ∨ c = .allowance ∨ c = .queue ∨ c = .period) →
              classIn c (t.port p).pending = false)
      ∧ (∀ i, t.loop i = if s.damaged (.loop i) then Loop.afresh .configLost none
          else Loop.afresh (if (s.memory.loops.get i).ident.role = .unused then .unused else .ok)
            (some (s.memory.loops.get i).ident))
      ∧ (∀ r, (t.planList r).hold = s.retained.hold.get r
          ∧ (t.planList r).command = (match s.corridorInUse.restartPolicy, s.retained.wasMetering.get r with
              | .resumeSchedule, _ => none
              | .resumePrior, true => none
              | .resumePrior, false => some (.off, .restart)
              | .stayOff, _ => some (.off, .restart))
          ∧ (s.retained.clockValid = false → (t.planList r).schedule = none))
      ∧ (∀ r ln, (t.lamp r ln).sensed = sensedAt inp r ln) ∧ t.qualified = []
      ∧ ∀ r, t.meas r = RampMeasure.start ∧ t.rate r = RampRate.start ∧ t.button r = Button.start
        ∧ (s.retained.faultDark.get r = true → (t.seq r).state = .darkFault)
        ∧ (s.retained.faultDark.get r = false → s.corridorInUse.laneCount.get r = 0 → (t.seq r).state = .unconfigured)
        ∧ (s.retained.faultDark.get r = false → s.corridorInUse.laneCount.get r ≠ 0 →
            (t.seq r).state = .off ∨ (t.seq r).state = .warning))

/-- RESET_LINE_ASSERTED and MAIN_SUPPLY_LOST stop the part: every lamp and sign goes off, every attention line falls, work at the ports
is abandoned, and the retained store and configuration memory stay as they are; BATTERY_SUPPLY_LOW clears the validity mark of an
unpowered part (R172, R174, R175; what becomes of the volatile items is the model's choice, log 10, log 11). -/
def Obligations.StoppingLeavesTheRetainedStore : Prop :=
  ∀ s : State,
    (∀ c x l, (c = .resetLineAsserted ∧ s.supply.power = .running ∧ x = .heldAtReset ∧ l = true
        ∨ c = .mainSupplyLost ∧ x = .unpowered ∧ l = s.supply.resetLine) →
      ∃ t, exec c s = .next t ∧ t.supply.power = x ∧ t.supply.resetLine = l
        ∧ t.retained = s.retained ∧ t.memory = s.memory ∧ t.lists = s.lists ∧ t.loops = s.loops
        ∧ (∀ r ln, t.commanded r ln = .none) ∧ (∀ r, (t.seq r).sign = .off)
        ∧ ∀ p, t.attention p = false ∧ (t.port p).receiver = .hunting ∧ (t.port p).current = none
          ∧ (t.port p).waiting = none ∧ (t.port p).answers = [])
    ∧ (s.supply.power ≠ .running → exec .resetLineAsserted s = .next { s with supply := { s.supply with resetLine := true } })
    ∧ (s.supply.power = .unpowered → exec .batterySupplyLow s = .next { s with retained := { s.retained with valid := false } })
    ∧ (s.supply.power ≠ .unpowered → exec .batterySupplyLow s = .next s)

/-- The reset state: the part as delivered, right after a COLD_POWER restart that found its store INVALID with the inputs dark and
the straps open, the model's reading of "reset" (log 5): the values of R1, R38, R64, R125, R156, R157, R158, R165, R166, R170, R172,
R175, R177, R179, R182 and R193. -/
def Obligations.ResetIsTheDeliveredColdStart : Prop :=
  State.reset.running ∧ State.reset.supply.cause = .coldPower ∧ State.reset.supply.storeFoundValid = false
  ∧ State.reset.retained.valid = true ∧ State.reset.retained.clockValid = false ∧ State.reset.retained.incident = none
  ∧ State.reset.retained.clock = { year := 0, month := 1, day := 1, hour := 0, minute := 0, second := 0 }
  ∧ (∀ r, State.reset.retained.hold.get r = false ∧ State.reset.retained.faultDark.get r = false
      ∧ State.reset.retained.wasMetering.get r = false)
  ∧ State.reset.memory.safety
      = { redMinimum := 20, greenMinimum := 10, greenMaximum := 40, rateFloor := 240, rateCeiling := 1800, safeRate := 900 }
  ∧ (∀ k, State.reset.memory.plans.get k = none) ∧ (∀ i, State.reset.memory.schedule.get i = none)
  ∧ (∀ i, State.reset.memory.shifts.get i = none)
  ∧ (∀ i, State.reset.memory.loops.get i = { ident := { role := .unused, ramp := none, lane := none }, stuckOnTime := 240
                                             silenceTime := 20, chatterLimit := 8 } ∧ (State.reset.loop i).state = .unused)
  ∧ (∀ id, State.reset.health id = { check := .good, damagedMark := false })
  ∧ State.reset.memory.damagedList = [] ∧ State.reset.memory.overflow = false ∧ State.reset.memory.correctionCount = 0
  ∧ State.reset.memory.safetyLock = false ∧ State.reset.memory.scrubPosition = .loop 0
  ∧ State.reset.memory.corridor.restartPolicy = .resumePrior ∧ State.reset.memory.corridor.warnTime = 30
  ∧ State.reset.memory.corridor.clearanceTime = 60 ∧ State.reset.memory.corridor.startAllowance = 20000
  ∧ State.reset.timer.samples = 0 ∧ State.reset.timer.number = 0 ∧ State.reset.corridorRate.allowance = 20000
  ∧ (∀ r, (State.reset.seq r).state = .unconfigured ∧ (State.reset.seq r).laneCount = 0 ∧ (State.reset.seq r).lastVehicles = 1
      ∧ (State.reset.seq r).redMinimum = none ∧ (State.reset.seq r).lanes = Tab.replicate 2 .dark
      ∧ (State.reset.planList r).entries = [.command .off .restart] ∧ (State.reset.meas r).history = []
      ∧ (State.reset.rate r).lastFinal = none ∧ (State.reset.button r).latest = none)
  ∧ (∀ i, State.reset.holder i = some .centre)
  ∧ (∀ p, (State.reset.port p).silent = false ∧ (State.reset.port p).baud = .b9600 ∧ (State.reset.port p).answers = []
      ∧ (State.reset.port p).lapseTime = match p with | .centre => 120 | .cabinet => 30 | .service => 600)
  ∧ State.reset.attention .centre = true ∧ State.reset.attention .cabinet = true ∧ State.reset.attention .service = false
  ∧ State.reset.router.watch = 0 ∧ State.reset.pending = []

end
end

