-- ==== Sys2Proof/Laws/State.lean ====
section
/-! SUPPORT. What each named update of the state does to each field of it: one lemma per field per update. -/

namespace Sys2Proof.Machine

namespace State

variable (s : State)

@[simp] theorem setPort_pending (p : Port) (x : LinkPort) : (s.setPort p x).pending = s.pending := rfl
@[simp] theorem setPort_supply (p : Port) (x : LinkPort) : (s.setPort p x).supply = s.supply := rfl
@[simp] theorem setPort_retained (p : Port) (x : LinkPort) : (s.setPort p x).retained = s.retained := rfl
@[simp] theorem setPort_memory (p : Port) (x : LinkPort) : (s.setPort p x).memory = s.memory := rfl
@[simp] theorem setPort_loops (p : Port) (x : LinkPort) : (s.setPort p x).loops = s.loops := rfl
@[simp] theorem setPort_timer (p : Port) (x : LinkPort) : (s.setPort p x).timer = s.timer := rfl
@[simp] theorem setPort_measure (p : Port) (x : LinkPort) : (s.setPort p x).measure = s.measure := rfl
@[simp] theorem setPort_corridorMeasure (p : Port) (x : LinkPort) : (s.setPort p x).corridorMeasure = s.corridorMeasure := rfl
@[simp] theorem setPort_rates (p : Port) (x : LinkPort) : (s.setPort p x).rates = s.rates := rfl
@[simp] theorem setPort_corridorRate (p : Port) (x : LinkPort) : (s.setPort p x).corridorRate = s.corridorRate := rfl
@[simp] theorem setPort_lists (p : Port) (x : LinkPort) : (s.setPort p x).lists = s.lists := rfl
@[simp] theorem setPort_sequencers (p : Port) (x : LinkPort) : (s.setPort p x).sequencers = s.sequencers := rfl
@[simp] theorem setPort_lamps (p : Port) (x : LinkPort) : (s.setPort p x).lamps = s.lamps := rfl
@[simp] theorem setPort_qualified (p : Port) (x : LinkPort) : (s.setPort p x).qualified = s.qualified := rfl
@[simp] theorem setPort_arbiter (p : Port) (x : LinkPort) : (s.setPort p x).arbiter = s.arbiter := rfl
@[simp] theorem setPort_buttons (p : Port) (x : LinkPort) : (s.setPort p x).buttons = s.buttons := rfl
@[simp] theorem setPort_ports (p : Port) (x : LinkPort) : (s.setPort p x).ports = s.ports.set (portIdx p) x := rfl
@[simp] theorem setPort_router (p : Port) (x : LinkPort) : (s.setPort p x).router = s.router := rfl

@[simp] theorem modPort_pending (p : Port) (f : LinkPort → LinkPort) : (s.modPort p f).pending = s.pending := rfl
@[simp] theorem modPort_supply (p : Port) (f : LinkPort → LinkPort) : (s.modPort p f).supply = s.supply := rfl
@[simp] theorem modPort_retained (p : Port) (f : LinkPort → LinkPort) : (s.modPort p f).retained = s.retained := rfl
@[simp] theorem modPort_memory (p : Port) (f : LinkPort → LinkPort) : (s.modPort p f).memory = s.memory := rfl
@[simp] theorem modPort_loops (p : Port) (f : LinkPort → LinkPort) : (s.modPort p f).loops = s.loops := rfl
@[simp] theorem modPort_timer (p : Port) (f : LinkPort → LinkPort) : (s.modPort p f).timer = s.timer := rfl
@[simp] theorem modPort_measure (p : Port) (f : LinkPort → LinkPort) : (s.modPort p f).measure = s.measure := rfl
@[simp] theorem modPort_corridorMeasure (p : Port) (f : LinkPort → LinkPort) : (s.modPort p f).corridorMeasure = s.corridorMeasure := rfl
@[simp] theorem modPort_rates (p : Port) (f : LinkPort → LinkPort) : (s.modPort p f).rates = s.rates := rfl
@[simp] theorem modPort_corridorRate (p : Port) (f : LinkPort → LinkPort) : (s.modPort p f).corridorRate = s.corridorRate := rfl
@[simp] theorem modPort_lists (p : Port) (f : LinkPort → LinkPort) : (s.modPort p f).lists = s.lists := rfl
@[simp] theorem modPort_sequencers (p : Port) (f : LinkPort → LinkPort) : (s.modPort p f).sequencers = s.sequencers := rfl
@[simp] theorem modPort_lamps (p : Port) (f : LinkPort → LinkPort) : (s.modPort p f).lamps = s.lamps := rfl
@[simp] theorem modPort_qualified (p : Port) (f : LinkPort → LinkPort) : (s.modPort p f).qualified = s.qualified := rfl
@[simp] theorem modPort_arbiter (p : Port) (f : LinkPort → LinkPort) : (s.modPort p f).arbiter = s.arbiter := rfl
@[simp] theorem modPort_buttons (p : Port) (f : LinkPort → LinkPort) : (s.modPort p f).buttons = s.buttons := rfl
@[simp] theorem modPort_ports (p : Port) (f : LinkPort → LinkPort) : (s.modPort p f).ports = s.ports.set (portIdx p) (f (s.port p)) := rfl
@[simp] theorem modPort_router (p : Port) (f : LinkPort → LinkPort) : (s.modPort p f).router = s.router := rfl

@[simp] theorem setSeq_pending (r : Ramp) (q : Sequencer) : (s.setSeq r q).pending = s.pending := rfl
@[simp] theorem setSeq_supply (r : Ramp) (q : Sequencer) : (s.setSeq r q).supply = s.supply := rfl
@[simp] theorem setSeq_retained (r : Ramp) (q : Sequencer) : (s.setSeq r q).retained = s.retained := rfl
@[simp] theorem setSeq_memory (r : Ramp) (q : Sequencer) : (s.setSeq r q).memory = s.memory := rfl
@[simp] theorem setSeq_loops (r : Ramp) (q : Sequencer) : (s.setSeq r q).loops = s.loops := rfl
@[simp] theorem setSeq_timer (r : Ramp) (q : Sequencer) : (s.setSeq r q).timer = s.timer := rfl
@[simp] theorem setSeq_measure (r : Ramp) (q : Sequencer) : (s.setSeq r q).measure = s.measure := rfl
@[simp] theorem setSeq_corridorMeasure (r : Ramp) (q : Sequencer) : (s.setSeq r q).corridorMeasure = s.corridorMeasure := rfl
@[simp] theorem setSeq_rates (r : Ramp) (q : Sequencer) : (s.setSeq r q).rates = s.rates := rfl
@[simp] theorem setSeq_corridorRate (r : Ramp) (q : Sequencer) : (s.setSeq r q).corridorRate = s.corridorRate := rfl
@[simp] theorem setSeq_lists (r : Ramp) (q : Sequencer) : (s.setSeq r q).lists = s.lists := rfl
@[simp] theorem setSeq_sequencers (r : Ramp) (q : Sequencer) : (s.setSeq r q).sequencers = s.sequencers.set r q := rfl
@[simp] theorem setSeq_lamps (r : Ramp) (q : Sequencer) : (s.setSeq r q).lamps = s.lamps := rfl
@[simp] theorem setSeq_qualified (r : Ramp) (q : Sequencer) : (s.setSeq r q).qualified = s.qualified := rfl
@[simp] theorem setSeq_arbiter (r : Ramp) (q : Sequencer) : (s.setSeq r q).arbiter = s.arbiter := rfl
@[simp] theorem setSeq_buttons (r : Ramp) (q : Sequencer) : (s.setSeq r q).buttons = s.buttons := rfl
@[simp] theorem setSeq_ports (r : Ramp) (q : Sequencer) : (s.setSeq r q).ports = s.ports := rfl
@[simp] theorem setSeq_router (r : Ramp) (q : Sequencer) : (s.setSeq r q).router = s.router := rfl

@[simp] theorem modSeq_pending (r : Ramp) (f : Sequencer → Sequencer) : (s.modSeq r f).pending = s.pending := rfl
@[simp] theorem modSeq_supply (r : Ramp) (f : Sequencer → Sequencer) : (s.modSeq r f).supply = s.supply := rfl
@[simp] theorem modSeq_retained (r : Ramp) (f : Sequencer → Sequencer) : (s.modSeq r f).retained = s.retained := rfl
@[simp] theorem modSeq_memory (r : Ramp) (f : Sequencer → Sequencer) : (s.modSeq r f).memory = s.memory := rfl
@[simp] theorem modSeq_loops (r : Ramp) (f : Sequencer → Sequencer) : (s.modSeq r f).loops = s.loops := rfl
@[simp] theorem modSeq_timer (r : Ramp) (f : Sequencer → Sequencer) : (s.modSeq r f).timer = s.timer := rfl
@[simp] theorem modSeq_measure (r : Ramp) (f : Sequencer → Sequencer) : (s.modSeq r f).measure = s.measure := rfl
@[simp] theorem modSeq_corridorMeasure (r : Ramp) (f : Sequencer → Sequencer) : (s.modSeq r f).corridorMeasure = s.corridorMeasure := rfl
@[simp] theorem modSeq_rates (r : Ramp) (f : Sequencer → Sequencer) : (s.modSeq r f).rates = s.rates := rfl
@[simp] theorem modSeq_corridorRate (r : Ramp) (f : Sequencer → Sequencer) : (s.modSeq r f).corridorRate = s.corridorRate := rfl
@[simp] theorem modSeq_lists (r : Ramp) (f : Sequencer → Sequencer) : (s.modSeq r f).lists = s.lists := rfl
@[simp] theorem modSeq_sequencers (r : Ramp) (f : Sequencer → Sequencer) : (s.modSeq r f).sequencers = s.sequencers.set r (f (s.seq r)) := rfl
@[simp] theorem modSeq_lamps (r : Ramp) (f : Sequencer → Sequencer) : (s.modSeq r f).lamps = s.lamps := rfl
@[simp] theorem modSeq_qualified (r : Ramp) (f : Sequencer → Sequencer) : (s.modSeq r f).qualified = s.qualified := rfl
@[simp] theorem modSeq_arbiter (r : Ramp) (f : Sequencer → Sequencer) : (s.modSeq r f).arbiter = s.arbiter := rfl
@[simp] theorem modSeq_buttons (r : Ramp) (f : Sequencer → Sequencer) : (s.modSeq r f).buttons = s.buttons := rfl
@[simp] theorem modSeq_ports (r : Ramp) (f : Sequencer → Sequencer) : (s.modSeq r f).ports = s.ports := rfl
@[simp] theorem modSeq_router (r : Ramp) (f : Sequencer → Sequencer) : (s.modSeq r f).router = s.router := rfl

@[simp] theorem setList_pending (r : Ramp) (l : PlanList) : (s.setList r l).pending = s.pending := rfl
@[simp] theorem setList_supply (r : Ramp) (l : PlanList) : (s.setList r l).supply = s.supply := rfl
@[simp] theorem setList_retained (r : Ramp) (l : PlanList) : (s.setList r l).retained = s.retained := rfl
@[simp] theorem setList_memory (r : Ramp) (l : PlanList) : (s.setList r l).memory = s.memory := rfl
@[simp] theorem setList_loops (r : Ramp) (l : PlanList) : (s.setList r l).loops = s.loops := rfl
@[simp] theorem setList_timer (r : Ramp) (l : PlanList) : (s.setList r l).timer = s.timer := rfl
@[simp] theorem setList_measure (r : Ramp) (l : PlanList) : (s.setList r l).measure = s.measure := rfl
@[simp] theorem setList_corridorMeasure (r : Ramp) (l : PlanList) : (s.setList r l).corridorMeasure = s.corridorMeasure := rfl
@[simp] theorem setList_rates (r : Ramp) (l : PlanList) : (s.setList r l).rates = s.rates := rfl
@[simp] theorem setList_corridorRate (r : Ramp) (l : PlanList) : (s.setList r l).corridorRate = s.corridorRate := rfl
@[simp] theorem setList_lists (r : Ramp) (l : PlanList) : (s.setList r l).lists = s.lists.set r l := rfl
@[simp] theorem setList_sequencers (r : Ramp) (l : PlanList) : (s.setList r l).sequencers = s.sequencers := rfl
@[simp] theorem setList_lamps (r : Ramp) (l : PlanList) : (s.setList r l).lamps = s.lamps := rfl
@[simp] theorem setList_qualified (r : Ramp) (l : PlanList) : (s.setList r l).qualified = s.qualified := rfl
@[simp] theorem setList_arbiter (r : Ramp) (l : PlanList) : (s.setList r l).arbiter = s.arbiter := rfl
@[simp] theorem setList_buttons (r : Ramp) (l : PlanList) : (s.setList r l).buttons = s.buttons := rfl
@[simp] theorem setList_ports (r : Ramp) (l : PlanList) : (s.setList r l).ports = s.ports := rfl
@[simp] theorem setList_router (r : Ramp) (l : PlanList) : (s.setList r l).router = s.router := rfl

@[simp] theorem setLoop_pending (i : LoopNo) (l : Loop) : (s.setLoop i l).pending = s.pending := rfl
@[simp] theorem setLoop_supply (i : LoopNo) (l : Loop) : (s.setLoop i l).supply = s.supply := rfl
@[simp] theorem setLoop_retained (i : LoopNo) (l : Loop) : (s.setLoop i l).retained = s.retained := rfl
@[simp] theorem setLoop_memory (i : LoopNo) (l : Loop) : (s.setLoop i l).memory = s.memory := rfl
@[simp] theorem setLoop_loops (i : LoopNo) (l : Loop) : (s.setLoop i l).loops = s.loops.set i l := rfl
@[simp] theorem setLoop_timer (i : LoopNo) (l : Loop) : (s.setLoop i l).timer = s.timer := rfl
@[simp] theorem setLoop_measure (i : LoopNo) (l : Loop) : (s.setLoop i l).measure = s.measure := rfl
@[simp] theorem setLoop_corridorMeasure (i : LoopNo) (l : Loop) : (s.setLoop i l).corridorMeasure = s.corridorMeasure := rfl
@[simp] theorem setLoop_rates (i : LoopNo) (l : Loop) : (s.setLoop i l).rates = s.rates := rfl
@[simp] theorem setLoop_corridorRate (i : LoopNo) (l : Loop) : (s.setLoop i l).corridorRate = s.corridorRate := rfl
@[simp] theorem setLoop_lists (i : LoopNo) (l : Loop) : (s.setLoop i l).lists = s.lists := rfl
@[simp] theorem setLoop_sequencers (i : LoopNo) (l : Loop) : (s.setLoop i l).sequencers = s.sequencers := rfl
@[simp] theorem setLoop_lamps (i : LoopNo) (l : Loop) : (s.setLoop i l).lamps = s.lamps := rfl
@[simp] theorem setLoop_qualified (i : LoopNo) (l : Loop) : (s.setLoop i l).qualified = s.qualified := rfl
@[simp] theorem setLoop_arbiter (i : LoopNo) (l : Loop) : (s.setLoop i l).arbiter = s.arbiter := rfl
@[simp] theorem setLoop_buttons (i : LoopNo) (l : Loop) : (s.setLoop i l).buttons = s.buttons := rfl
@[simp] theorem setLoop_ports (i : LoopNo) (l : Loop) : (s.setLoop i l).ports = s.ports := rfl
@[simp] theorem setLoop_router (i : LoopNo) (l : Loop) : (s.setLoop i l).router = s.router := rfl

@[simp] theorem setMeas_pending (r : Ramp) (m : RampMeasure) : (s.setMeas r m).pending = s.pending := rfl
@[simp] theorem setMeas_supply (r : Ramp) (m : RampMeasure) : (s.setMeas r m).supply = s.supply := rfl
@[simp] theorem setMeas_retained (r : Ramp) (m : RampMeasure) : (s.setMeas r m).retained = s.retained := rfl
@[simp] theorem setMeas_memory (r : Ramp) (m : RampMeasure) : (s.setMeas r m).memory = s.memory := rfl
@[simp] theorem setMeas_loops (r : Ramp) (m : RampMeasure) : (s.setMeas r m).loops = s.loops := rfl
@[simp] theorem setMeas_timer (r : Ramp) (m : RampMeasure) : (s.setMeas r m).timer = s.timer := rfl
@[simp] theorem setMeas_measure (r : Ramp) (m : RampMeasure) : (s.setMeas r m).measure = s.measure.set r m := rfl
@[simp] theorem setMeas_corridorMeasure (r : Ramp) (m : RampMeasure) : (s.setMeas r m).corridorMeasure = s.corridorMeasure := rfl
@[simp] theorem setMeas_rates (r : Ramp) (m : RampMeasure) : (s.setMeas r m).rates = s.rates := rfl
@[simp] theorem setMeas_corridorRate (r : Ramp) (m : RampMeasure) : (s.setMeas r m).corridorRate = s.corridorRate := rfl
@[simp] theorem setMeas_lists (r : Ramp) (m : RampMeasure) : (s.setMeas r m).lists = s.lists := rfl
@[simp] theorem setMeas_sequencers (r : Ramp) (m : RampMeasure) : (s.setMeas r m).sequencers = s.sequencers := rfl
@[simp] theorem setMeas_lamps (r : Ramp) (m : RampMeasure) : (s.setMeas r m).lamps = s.lamps := rfl
@[simp] theorem setMeas_qualified (r : Ramp) (m : RampMeasure) : (s.setMeas r m).qualified = s.qualified := rfl
@[simp] theorem setMeas_arbiter (r : Ramp) (m : RampMeasure) : (s.setMeas r m).arbiter = s.arbiter := rfl
@[simp] theorem setMeas_buttons (r : Ramp) (m : RampMeasure) : (s.setMeas r m).buttons = s.buttons := rfl
@[simp] theorem setMeas_ports (r : Ramp) (m : RampMeasure) : (s.setMeas r m).ports = s.ports := rfl
@[simp] theorem setMeas_router (r : Ramp) (m : RampMeasure) : (s.setMeas r m).router = s.router := rfl

@[simp] theorem setRate_pending (r : Ramp) (m : RampRate) : (s.setRate r m).pending = s.pending := rfl
@[simp] theorem setRate_supply (r : Ramp) (m : RampRate) : (s.setRate r m).supply = s.supply := rfl
@[simp] theorem setRate_retained (r : Ramp) (m : RampRate) : (s.setRate r m).retained = s.retained := rfl
@[simp] theorem setRate_memory (r : Ramp) (m : RampRate) : (s.setRate r m).memory = s.memory := rfl
@[simp] theorem setRate_loops (r : Ramp) (m : RampRate) : (s.setRate r m).loops = s.loops := rfl
@[simp] theorem setRate_timer (r : Ramp) (m : RampRate) : (s.setRate r m).timer = s.timer := rfl
@[simp] theorem setRate_measure (r : Ramp) (m : RampRate) : (s.setRate r m).measure = s.measure := rfl
@[simp] theorem setRate_corridorMeasure (r : Ramp) (m : RampRate) : (s.setRate r m).corridorMeasure = s.corridorMeasure := rfl
@[simp] theorem setRate_rates (r : Ramp) (m : RampRate) : (s.setRate r m).rates = s.rates.set r m := rfl
@[simp] theorem setRate_corridorRate (r : Ramp) (m : RampRate) : (s.setRate r m).corridorRate = s.corridorRate := rfl
@[simp] theorem setRate_lists (r : Ramp) (m : RampRate) : (s.setRate r m).lists = s.lists := rfl
@[simp] theorem setRate_sequencers (r : Ramp) (m : RampRate) : (s.setRate r m).sequencers = s.sequencers := rfl
@[simp] theorem setRate_lamps (r : Ramp) (m : RampRate) : (s.setRate r m).lamps = s.lamps := rfl
@[simp] theorem setRate_qualified (r : Ramp) (m : RampRate) : (s.setRate r m).qualified = s.qualified := rfl
@[simp] theorem setRate_arbiter (r : Ramp) (m : RampRate) : (s.setRate r m).arbiter = s.arbiter := rfl
@[simp] theorem setRate_buttons (r : Ramp) (m : RampRate) : (s.setRate r m).buttons = s.buttons := rfl
@[simp] theorem setRate_ports (r : Ramp) (m : RampRate) : (s.setRate r m).ports = s.ports := rfl
@[simp] theorem setRate_router (r : Ramp) (m : RampRate) : (s.setRate r m).router = s.router := rfl

@[simp] theorem setLamp_pending (r : Ramp) (ln : LaneNo) (m : LaneMonitor) : (s.setLamp r ln m).pending = s.pending := rfl
@[simp] theorem setLamp_supply (r : Ramp) (ln : LaneNo) (m : LaneMonitor) : (s.setLamp r ln m).supply = s.supply := rfl
@[simp] theorem setLamp_retained (r : Ramp) (ln : LaneNo) (m : LaneMonitor) : (s.setLamp r ln m).retained = s.retained := rfl
@[simp] theorem setLamp_memory (r : Ramp) (ln : LaneNo) (m : LaneMonitor) : (s.setLamp r ln m).memory = s.memory := rfl
@[simp] theorem setLamp_loops (r : Ramp) (ln : LaneNo) (m : LaneMonitor) : (s.setLamp r ln m).loops = s.loops := rfl
@[simp] theorem setLamp_timer (r : Ramp) (ln : LaneNo) (m : LaneMonitor) : (s.setLamp r ln m).timer = s.timer := rfl
@[simp] theorem setLamp_measure (r : Ramp) (ln : LaneNo) (m : LaneMonitor) : (s.setLamp r ln m).measure = s.measure := rfl
@[simp] theorem setLamp_corridorMeasure (r : Ramp) (ln : LaneNo) (m : LaneMonitor) : (s.setLamp r ln m).corridorMeasure = s.corridorMeasure := rfl
@[simp] theorem setLamp_rates (r : Ramp) (ln : LaneNo) (m : LaneMonitor) : (s.setLamp r ln m).rates = s.rates := rfl
@[simp] theorem setLamp_corridorRate (r : Ramp) (ln : LaneNo) (m : LaneMonitor) : (s.setLamp r ln m).corridorRate = s.corridorRate := rfl
@[simp] theorem setLamp_lists (r : Ramp) (ln : LaneNo) (m : LaneMonitor) : (s.setLamp r ln m).lists = s.lists := rfl
@[simp] theorem setLamp_sequencers (r : Ramp) (ln : LaneNo) (m : LaneMonitor) : (s.setLamp r ln m).sequencers = s.sequencers := rfl
@[simp] theorem setLamp_lamps (r : Ramp) (ln : LaneNo) (m : LaneMonitor) : (s.setLamp r ln m).lamps = s.lamps.set r ((s.lamps.get r).set ln m) := rfl
@[simp] theorem setLamp_qualified (r : Ramp) (ln : LaneNo) (m : LaneMonitor) : (s.setLamp r ln m).qualified = s.qualified := rfl
@[simp] theorem setLamp_arbiter (r : Ramp) (ln : LaneNo) (m : LaneMonitor) : (s.setLamp r ln m).arbiter = s.arbiter := rfl
@[simp] theorem setLamp_buttons (r : Ramp) (ln : LaneNo) (m : LaneMonitor) : (s.setLamp r ln m).buttons = s.buttons := rfl
@[simp] theorem setLamp_ports (r : Ramp) (ln : LaneNo) (m : LaneMonitor) : (s.setLamp r ln m).ports = s.ports := rfl
@[simp] theorem setLamp_router (r : Ramp) (ln : LaneNo) (m : LaneMonitor) : (s.setLamp r ln m).router = s.router := rfl

@[simp] theorem setButton_pending (r : Ramp) (b : Button) : (s.setButton r b).pending = s.pending := rfl
@[simp] theorem setButton_supply (r : Ramp) (b : Button) : (s.setButton r b).supply = s.supply := rfl
@[simp] theorem setButton_retained (r : Ramp) (b : Button) : (s.setButton r b).retained = s.retained := rfl
@[simp] theorem setButton_memory (r : Ramp) (b : Button) : (s.setButton r b).memory = s.memory := rfl
@[simp] theorem setButton_loops (r : Ramp) (b : Button) : (s.setButton r b).loops = s.loops := rfl
@[simp] theorem setButton_timer (r : Ramp) (b : Button) : (s.setButton r b).timer = s.timer := rfl
@[simp] theorem setButton_measure (r : Ramp) (b : Button) : (s.setButton r b).measure = s.measure := rfl
@[simp] theorem setButton_corridorMeasure (r : Ramp) (b : Button) : (s.setButton r b).corridorMeasure = s.corridorMeasure := rfl
@[simp] theorem setButton_rates (r : Ramp) (b : Button) : (s.setButton r b).rates = s.rates := rfl
@[simp] theorem setButton_corridorRate (r : Ramp) (b : Button) : (s.setButton r b).corridorRate = s.corridorRate := rfl
@[simp] theorem setButton_lists (r : Ramp) (b : Button) : (s.setButton r b).lists = s.lists := rfl
@[simp] theorem setButton_sequencers (r : Ramp) (b : Button) : (s.setButton r b).sequencers = s.sequencers := rfl
@[simp] theorem setButton_lamps (r : Ramp) (b : Button) : (s.setButton r b).lamps = s.lamps := rfl
@[simp] theorem setButton_qualified (r : Ramp) (b : Button) : (s.setButton r b).qualified = s.qualified := rfl
@[simp] theorem setButton_arbiter (r : Ramp) (b : Button) : (s.setButton r b).arbiter = s.arbiter := rfl
@[simp] theorem setButton_buttons (r : Ramp) (b : Button) : (s.setButton r b).buttons = s.buttons.set r b := rfl
@[simp] theorem setButton_ports (r : Ramp) (b : Button) : (s.setButton r b).ports = s.ports := rfl
@[simp] theorem setButton_router (r : Ramp) (b : Button) : (s.setButton r b).router = s.router := rfl

@[simp] theorem setHoldFlag_pending (r : Ramp) (b : Bool) : (s.setHoldFlag r b).pending = s.pending := rfl
@[simp] theorem setHoldFlag_supply (r : Ramp) (b : Bool) : (s.setHoldFlag r b).supply = s.supply := rfl
@[simp] theorem setHoldFlag_retained (r : Ramp) (b : Bool) : (s.setHoldFlag r b).retained = { s.retained with hold := s.retained.hold.set r b } := rfl
@[simp] theorem setHoldFlag_memory (r : Ramp) (b : Bool) : (s.setHoldFlag r b).memory = s.memory := rfl
@[simp] theorem setHoldFlag_loops (r : Ramp) (b : Bool) : (s.setHoldFlag r b).loops = s.loops := rfl
@[simp] theorem setHoldFlag_timer (r : Ramp) (b : Bool) : (s.setHoldFlag r b).timer = s.timer := rfl
@[simp] theorem setHoldFlag_measure (r : Ramp) (b : Bool) : (s.setHoldFlag r b).measure = s.measure := rfl
@[simp] theorem setHoldFlag_corridorMeasure (r : Ramp) (b : Bool) : (s.setHoldFlag r b).corridorMeasure = s.corridorMeasure := rfl
@[simp] theorem setHoldFlag_rates (r : Ramp) (b : Bool) : (s.setHoldFlag r b).rates = s.rates := rfl
@[simp] theorem setHoldFlag_corridorRate (r : Ramp) (b : Bool) : (s.setHoldFlag r b).corridorRate = s.corridorRate := rfl
@[simp] theorem setHoldFlag_lists (r : Ramp) (b : Bool) : (s.setHoldFlag r b).lists = s.lists := rfl
@[simp] theorem setHoldFlag_sequencers (r : Ramp) (b : Bool) : (s.setHoldFlag r b).sequencers = s.sequencers := rfl
@[simp] theorem setHoldFlag_lamps (r : Ramp) (b : Bool) : (s.setHoldFlag r b).lamps = s.lamps := rfl
@[simp] theorem setHoldFlag_qualified (r : Ramp) (b : Bool) : (s.setHoldFlag r b).qualified = s.qualified := rfl
@[simp] theorem setHoldFlag_arbiter (r : Ramp) (b : Bool) : (s.setHoldFlag r b).arbiter = s.arbiter := rfl
@[simp] theorem setHoldFlag_buttons (r : Ramp) (b : Bool) : (s.setHoldFlag r b).buttons = s.buttons := rfl
@[simp] theorem setHoldFlag_ports (r : Ramp) (b : Bool) : (s.setHoldFlag r b).ports = s.ports := rfl
@[simp] theorem setHoldFlag_router (r : Ramp) (b : Bool) : (s.setHoldFlag r b).router = s.router := rfl

@[simp] theorem setFaultDark_pending (r : Ramp) (b : Bool) : (s.setFaultDark r b).pending = s.pending := rfl
@[simp] theorem setFaultDark_supply (r : Ramp) (b : Bool) : (s.setFaultDark r b).supply = s.supply := rfl
@[simp] theorem setFaultDark_retained (r : Ramp) (b : Bool) : (s.setFaultDark r b).retained = { s.retained with faultDark := s.retained.faultDark.set r b } := rfl
@[simp] theorem setFaultDark_memory (r : Ramp) (b : Bool) : (s.setFaultDark r b).memory = s.memory := rfl
@[simp] theorem setFaultDark_loops (r : Ramp) (b : Bool) : (s.setFaultDark r b).loops = s.loops := rfl
@[simp] theorem setFaultDark_timer (r : Ramp) (b : Bool) : (s.setFaultDark r b).timer = s.timer := rfl
@[simp] theorem setFaultDark_measure (r : Ramp) (b : Bool) : (s.setFaultDark r b).measure = s.measure := rfl
@[simp] theorem setFaultDark_corridorMeasure (r : Ramp) (b : Bool) : (s.setFaultDark r b).corridorMeasure = s.corridorMeasure := rfl
@[simp] theorem setFaultDark_rates (r : Ramp) (b : Bool) : (s.setFaultDark r b).rates = s.rates := rfl
@[simp] theorem setFaultDark_corridorRate (r : Ramp) (b : Bool) : (s.setFaultDark r b).corridorRate = s.corridorRate := rfl
@[simp] theorem setFaultDark_lists (r : Ramp) (b : Bool) : (s.setFaultDark r b).lists = s.lists := rfl
@[simp] theorem setFaultDark_sequencers (r : Ramp) (b : Bool) : (s.setFaultDark r b).sequencers = s.sequencers := rfl
@[simp] theorem setFaultDark_lamps (r : Ramp) (b : Bool) : (s.setFaultDark r b).lamps = s.lamps := rfl
@[simp] theorem setFaultDark_qualified (r : Ramp) (b : Bool) : (s.setFaultDark r b).qualified = s.qualified := rfl
@[simp] theorem setFaultDark_arbiter (r : Ramp) (b : Bool) : (s.setFaultDark r b).arbiter = s.arbiter := rfl
@[simp] theorem setFaultDark_buttons (r : Ramp) (b : Bool) : (s.setFaultDark r b).buttons = s.buttons := rfl
@[simp] theorem setFaultDark_ports (r : Ramp) (b : Bool) : (s.setFaultDark r b).ports = s.ports := rfl
@[simp] theorem setFaultDark_router (r : Ramp) (b : Bool) : (s.setFaultDark r b).router = s.router := rfl

@[simp] theorem setWasMetering_pending (r : Ramp) (b : Bool) : (s.setWasMetering r b).pending = s.pending := rfl
@[simp] theorem setWasMetering_supply (r : Ramp) (b : Bool) : (s.setWasMetering r b).supply = s.supply := rfl
@[simp] theorem setWasMetering_retained (r : Ramp) (b : Bool) : (s.setWasMetering r b).retained = { s.retained with wasMetering := s.retained.wasMetering.set r b } := rfl
@[simp] theorem setWasMetering_memory (r : Ramp) (b : Bool) : (s.setWasMetering r b).memory = s.memory := rfl
@[simp] theorem setWasMetering_loops (r : Ramp) (b : Bool) : (s.setWasMetering r b).loops = s.loops := rfl
@[simp] theorem setWasMetering_timer (r : Ramp) (b : Bool) : (s.setWasMetering r b).timer = s.timer := rfl
@[simp] theorem setWasMetering_measure (r : Ramp) (b : Bool) : (s.setWasMetering r b).measure = s.measure := rfl
@[simp] theorem setWasMetering_corridorMeasure (r : Ramp) (b : Bool) : (s.setWasMetering r b).corridorMeasure = s.corridorMeasure := rfl
@[simp] theorem setWasMetering_rates (r : Ramp) (b : Bool) : (s.setWasMetering r b).rates = s.rates := rfl
@[simp] theorem setWasMetering_corridorRate (r : Ramp) (b : Bool) : (s.setWasMetering r b).corridorRate = s.corridorRate := rfl
@[simp] theorem setWasMetering_lists (r : Ramp) (b : Bool) : (s.setWasMetering r b).lists = s.lists := rfl
@[simp] theorem setWasMetering_sequencers (r : Ramp) (b : Bool) : (s.setWasMetering r b).sequencers = s.sequencers := rfl
@[simp] theorem setWasMetering_lamps (r : Ramp) (b : Bool) : (s.setWasMetering r b).lamps = s.lamps := rfl
@[simp] theorem setWasMetering_qualified (r : Ramp) (b : Bool) : (s.setWasMetering r b).qualified = s.qualified := rfl
@[simp] theorem setWasMetering_arbiter (r : Ramp) (b : Bool) : (s.setWasMetering r b).arbiter = s.arbiter := rfl
@[simp] theorem setWasMetering_buttons (r : Ramp) (b : Bool) : (s.setWasMetering r b).buttons = s.buttons := rfl
@[simp] theorem setWasMetering_ports (r : Ramp) (b : Bool) : (s.setWasMetering r b).ports = s.ports := rfl
@[simp] theorem setWasMetering_router (r : Ramp) (b : Bool) : (s.setWasMetering r b).router = s.router := rfl

@[simp] theorem setHolder_pending (i : Fin 7) (h : Option Port) : (s.setHolder i h).pending = s.pending := rfl
@[simp] theorem setHolder_supply (i : Fin 7) (h : Option Port) : (s.setHolder i h).supply = s.supply := rfl
@[simp] theorem setHolder_retained (i : Fin 7) (h : Option Port) : (s.setHolder i h).retained = s.retained := rfl
@[simp] theorem setHolder_memory (i : Fin 7) (h : Option Port) : (s.setHolder i h).memory = s.memory := rfl
@[simp] theorem setHolder_loops (i : Fin 7) (h : Option Port) : (s.setHolder i h).loops = s.loops := rfl
@[simp] theorem setHolder_timer (i : Fin 7) (h : Option Port) : (s.setHolder i h).timer = s.timer := rfl
@[simp] theorem setHolder_measure (i : Fin 7) (h : Option Port) : (s.setHolder i h).measure = s.measure := rfl
@[simp] theorem setHolder_corridorMeasure (i : Fin 7) (h : Option Port) : (s.setHolder i h).corridorMeasure = s.corridorMeasure := rfl
@[simp] theorem setHolder_rates (i : Fin 7) (h : Option Port) : (s.setHolder i h).rates = s.rates := rfl
@[simp] theorem setHolder_corridorRate (i : Fin 7) (h : Option Port) : (s.setHolder i h).corridorRate = s.corridorRate := rfl
@[simp] theorem setHolder_lists (i : Fin 7) (h : Option Port) : (s.setHolder i h).lists = s.lists := rfl
@[simp] theorem setHolder_sequencers (i : Fin 7) (h : Option Port) : (s.setHolder i h).sequencers = s.sequencers := rfl
@[simp] theorem setHolder_lamps (i : Fin 7) (h : Option Port) : (s.setHolder i h).lamps = s.lamps := rfl
@[simp] theorem setHolder_qualified (i : Fin 7) (h : Option Port) : (s.setHolder i h).qualified = s.qualified := rfl
@[simp] theorem setHolder_arbiter (i : Fin 7) (h : Option Port) : (s.setHolder i h).arbiter = { s.arbiter with holders := s.arbiter.holders.set i h } := rfl
@[simp] theorem setHolder_buttons (i : Fin 7) (h : Option Port) : (s.setHolder i h).buttons = s.buttons := rfl
@[simp] theorem setHolder_ports (i : Fin 7) (h : Option Port) : (s.setHolder i h).ports = s.ports := rfl
@[simp] theorem setHolder_router (i : Fin 7) (h : Option Port) : (s.setHolder i h).router = s.router := rfl

@[simp] theorem setHealth_pending (id : RecId) (h : Health) : (s.setHealth id h).pending = s.pending := rfl
@[simp] theorem setHealth_supply (id : RecId) (h : Health) : (s.setHealth id h).supply = s.supply := rfl
@[simp] theorem setHealth_retained (id : RecId) (h : Health) : (s.setHealth id h).retained = s.retained := rfl
@[simp] theorem setHealth_memory (id : RecId) (h : Health) : (s.setHealth id h).memory = { s.memory with health := s.memory.health.set (RecId.turn id) h } := rfl
@[simp] theorem setHealth_loops (id : RecId) (h : Health) : (s.setHealth id h).loops = s.loops := rfl
@[simp] theorem setHealth_timer (id : RecId) (h : Health) : (s.setHealth id h).timer = s.timer := rfl
@[simp] theorem setHealth_measure (id : RecId) (h : Health) : (s.setHealth id h).measure = s.measure := rfl
@[simp] theorem setHealth_corridorMeasure (id : RecId) (h : Health) : (s.setHealth id h).corridorMeasure = s.corridorMeasure := rfl
@[simp] theorem setHealth_rates (id : RecId) (h : Health) : (s.setHealth id h).rates = s.rates := rfl
@[simp] theorem setHealth_corridorRate (id : RecId) (h : Health) : (s.setHealth id h).corridorRate = s.corridorRate := rfl
@[simp] theorem setHealth_lists (id : RecId) (h : Health) : (s.setHealth id h).lists = s.lists := rfl
@[simp] theorem setHealth_sequencers (id : RecId) (h : Health) : (s.setHealth id h).sequencers = s.sequencers := rfl
@[simp] theorem setHealth_lamps (id : RecId) (h : Health) : (s.setHealth id h).lamps = s.lamps := rfl
@[simp] theorem setHealth_qualified (id : RecId) (h : Health) : (s.setHealth id h).qualified = s.qualified := rfl
@[simp] theorem setHealth_arbiter (id : RecId) (h : Health) : (s.setHealth id h).arbiter = s.arbiter := rfl
@[simp] theorem setHealth_buttons (id : RecId) (h : Health) : (s.setHealth id h).buttons = s.buttons := rfl
@[simp] theorem setHealth_ports (id : RecId) (h : Health) : (s.setHealth id h).ports = s.ports := rfl
@[simp] theorem setHealth_router (id : RecId) (h : Health) : (s.setHealth id h).router = s.router := rfl

@[simp] theorem setLoopRec_pending (i : LoopNo) (x : LoopRec) : (s.setLoopRec i x).pending = s.pending := rfl
@[simp] theorem setLoopRec_supply (i : LoopNo) (x : LoopRec) : (s.setLoopRec i x).supply = s.supply := rfl
@[simp] theorem setLoopRec_retained (i : LoopNo) (x : LoopRec) : (s.setLoopRec i x).retained = s.retained := rfl
@[simp] theorem setLoopRec_memory (i : LoopNo) (x : LoopRec) : (s.setLoopRec i x).memory = { s.memory with loops := s.memory.loops.set i x } := rfl
@[simp] theorem setLoopRec_loops (i : LoopNo) (x : LoopRec) : (s.setLoopRec i x).loops = s.loops := rfl
@[simp] theorem setLoopRec_timer (i : LoopNo) (x : LoopRec) : (s.setLoopRec i x).timer = s.timer := rfl
@[simp] theorem setLoopRec_measure (i : LoopNo) (x : LoopRec) : (s.setLoopRec i x).measure = s.measure := rfl
@[simp] theorem setLoopRec_corridorMeasure (i : LoopNo) (x : LoopRec) : (s.setLoopRec i x).corridorMeasure = s.corridorMeasure := rfl
@[simp] theorem setLoopRec_rates (i : LoopNo) (x : LoopRec) : (s.setLoopRec i x).rates = s.rates := rfl
@[simp] theorem setLoopRec_corridorRate (i : LoopNo) (x : LoopRec) : (s.setLoopRec i x).corridorRate = s.corridorRate := rfl
@[simp] theorem setLoopRec_lists (i : LoopNo) (x : LoopRec) : (s.setLoopRec i x).lists = s.lists := rfl
@[simp] theorem setLoopRec_sequencers (i : LoopNo) (x : LoopRec) : (s.setLoopRec i x).sequencers = s.sequencers := rfl
@[simp] theorem setLoopRec_lamps (i : LoopNo) (x : LoopRec) : (s.setLoopRec i x).lamps = s.lamps := rfl
@[simp] theorem setLoopRec_qualified (i : LoopNo) (x : LoopRec) : (s.setLoopRec i x).qualified = s.qualified := rfl
@[simp] theorem setLoopRec_arbiter (i : LoopNo) (x : LoopRec) : (s.setLoopRec i x).arbiter = s.arbiter := rfl
@[simp] theorem setLoopRec_buttons (i : LoopNo) (x : LoopRec) : (s.setLoopRec i x).buttons = s.buttons := rfl
@[simp] theorem setLoopRec_ports (i : LoopNo) (x : LoopRec) : (s.setLoopRec i x).ports = s.ports := rfl
@[simp] theorem setLoopRec_router (i : LoopNo) (x : LoopRec) : (s.setLoopRec i x).router = s.router := rfl

@[simp] theorem setPlan_pending (k : PlanSlot) (x : Option Plan) : (s.setPlan k x).pending = s.pending := rfl
@[simp] theorem setPlan_supply (k : PlanSlot) (x : Option Plan) : (s.setPlan k x).supply = s.supply := rfl
@[simp] theorem setPlan_retained (k : PlanSlot) (x : Option Plan) : (s.setPlan k x).retained = s.retained := rfl
@[simp] theorem setPlan_memory (k : PlanSlot) (x : Option Plan) : (s.setPlan k x).memory = { s.memory with plans := s.memory.plans.set k x } := rfl
@[simp] theorem setPlan_loops (k : PlanSlot) (x : Option Plan) : (s.setPlan k x).loops = s.loops := rfl
@[simp] theorem setPlan_timer (k : PlanSlot) (x : Option Plan) : (s.setPlan k x).timer = s.timer := rfl
@[simp] theorem setPlan_measure (k : PlanSlot) (x : Option Plan) : (s.setPlan k x).measure = s.measure := rfl
@[simp] theorem setPlan_corridorMeasure (k : PlanSlot) (x : Option Plan) : (s.setPlan k x).corridorMeasure = s.corridorMeasure := rfl
@[simp] theorem setPlan_rates (k : PlanSlot) (x : Option Plan) : (s.setPlan k x).rates = s.rates := rfl
@[simp] theorem setPlan_corridorRate (k : PlanSlot) (x : Option Plan) : (s.setPlan k x).corridorRate = s.corridorRate := rfl
@[simp] theorem setPlan_lists (k : PlanSlot) (x : Option Plan) : (s.setPlan k x).lists = s.lists := rfl
@[simp] theorem setPlan_sequencers (k : PlanSlot) (x : Option Plan) : (s.setPlan k x).sequencers = s.sequencers := rfl
@[simp] theorem setPlan_lamps (k : PlanSlot) (x : Option Plan) : (s.setPlan k x).lamps = s.lamps := rfl
@[simp] theorem setPlan_qualified (k : PlanSlot) (x : Option Plan) : (s.setPlan k x).qualified = s.qualified := rfl
@[simp] theorem setPlan_arbiter (k : PlanSlot) (x : Option Plan) : (s.setPlan k x).arbiter = s.arbiter := rfl
@[simp] theorem setPlan_buttons (k : PlanSlot) (x : Option Plan) : (s.setPlan k x).buttons = s.buttons := rfl
@[simp] theorem setPlan_ports (k : PlanSlot) (x : Option Plan) : (s.setPlan k x).ports = s.ports := rfl
@[simp] theorem setPlan_router (k : PlanSlot) (x : Option Plan) : (s.setPlan k x).router = s.router := rfl

@[simp] theorem setScheduleRec_pending (i : ScheduleSlot) (x : Option ScheduleRec) : (s.setScheduleRec i x).pending = s.pending := rfl
@[simp] theorem setScheduleRec_supply (i : ScheduleSlot) (x : Option ScheduleRec) : (s.setScheduleRec i x).supply = s.supply := rfl
@[simp] theorem setScheduleRec_retained (i : ScheduleSlot) (x : Option ScheduleRec) : (s.setScheduleRec i x).retained = s.retained := rfl
@[simp] theorem setScheduleRec_memory (i : ScheduleSlot) (x : Option ScheduleRec) : (s.setScheduleRec i x).memory = { s.memory with schedule := s.memory.schedule.set i x } := rfl
@[simp] theorem setScheduleRec_loops (i : ScheduleSlot) (x : Option ScheduleRec) : (s.setScheduleRec i x).loops = s.loops := rfl
@[simp] theorem setScheduleRec_timer (i : ScheduleSlot) (x : Option ScheduleRec) : (s.setScheduleRec i x).timer = s.timer := rfl
@[simp] theorem setScheduleRec_measure (i : ScheduleSlot) (x : Option ScheduleRec) : (s.setScheduleRec i x).measure = s.measure := rfl
@[simp] theorem setScheduleRec_corridorMeasure (i : ScheduleSlot) (x : Option ScheduleRec) : (s.setScheduleRec i x).corridorMeasure = s.corridorMeasure := rfl
@[simp] theorem setScheduleRec_rates (i : ScheduleSlot) (x : Option ScheduleRec) : (s.setScheduleRec i x).rates = s.rates := rfl
@[simp] theorem setScheduleRec_corridorRate (i : ScheduleSlot) (x : Option ScheduleRec) : (s.setScheduleRec i x).corridorRate = s.corridorRate := rfl
@[simp] theorem setScheduleRec_lists (i : ScheduleSlot) (x : Option ScheduleRec) : (s.setScheduleRec i x).lists = s.lists := rfl
@[simp] theorem setScheduleRec_sequencers (i : ScheduleSlot) (x : Option ScheduleRec) : (s.setScheduleRec i x).sequencers = s.sequencers := rfl
@[simp] theorem setScheduleRec_lamps (i : ScheduleSlot) (x : Option ScheduleRec) : (s.setScheduleRec i x).lamps = s.lamps := rfl
@[simp] theorem setScheduleRec_qualified (i : ScheduleSlot) (x : Option ScheduleRec) : (s.setScheduleRec i x).qualified = s.qualified := rfl
@[simp] theorem setScheduleRec_arbiter (i : ScheduleSlot) (x : Option ScheduleRec) : (s.setScheduleRec i x).arbiter = s.arbiter := rfl
@[simp] theorem setScheduleRec_buttons (i : ScheduleSlot) (x : Option ScheduleRec) : (s.setScheduleRec i x).buttons = s.buttons := rfl
@[simp] theorem setScheduleRec_ports (i : ScheduleSlot) (x : Option ScheduleRec) : (s.setScheduleRec i x).ports = s.ports := rfl
@[simp] theorem setScheduleRec_router (i : ScheduleSlot) (x : Option ScheduleRec) : (s.setScheduleRec i x).router = s.router := rfl

@[simp] theorem setShift_pending (i : ShiftSlot) (x : Option ShiftRec) : (s.setShift i x).pending = s.pending := rfl
@[simp] theorem setShift_supply (i : ShiftSlot) (x : Option ShiftRec) : (s.setShift i x).supply = s.supply := rfl
@[simp] theorem setShift_retained (i : ShiftSlot) (x : Option ShiftRec) : (s.setShift i x).retained = s.retained := rfl
@[simp] theorem setShift_memory (i : ShiftSlot) (x : Option ShiftRec) : (s.setShift i x).memory = { s.memory with shifts := s.memory.shifts.set i x } := rfl
@[simp] theorem setShift_loops (i : ShiftSlot) (x : Option ShiftRec) : (s.setShift i x).loops = s.loops := rfl
@[simp] theorem setShift_timer (i : ShiftSlot) (x : Option ShiftRec) : (s.setShift i x).timer = s.timer := rfl
@[simp] theorem setShift_measure (i : ShiftSlot) (x : Option ShiftRec) : (s.setShift i x).measure = s.measure := rfl
@[simp] theorem setShift_corridorMeasure (i : ShiftSlot) (x : Option ShiftRec) : (s.setShift i x).corridorMeasure = s.corridorMeasure := rfl
@[simp] theorem setShift_rates (i : ShiftSlot) (x : Option ShiftRec) : (s.setShift i x).rates = s.rates := rfl
@[simp] theorem setShift_corridorRate (i : ShiftSlot) (x : Option ShiftRec) : (s.setShift i x).corridorRate = s.corridorRate := rfl
@[simp] theorem setShift_lists (i : ShiftSlot) (x : Option ShiftRec) : (s.setShift i x).lists = s.lists := rfl
@[simp] theorem setShift_sequencers (i : ShiftSlot) (x : Option ShiftRec) : (s.setShift i x).sequencers = s.sequencers := rfl
@[simp] theorem setShift_lamps (i : ShiftSlot) (x : Option ShiftRec) : (s.setShift i x).lamps = s.lamps := rfl
@[simp] theorem setShift_qualified (i : ShiftSlot) (x : Option ShiftRec) : (s.setShift i x).qualified = s.qualified := rfl
@[simp] theorem setShift_arbiter (i : ShiftSlot) (x : Option ShiftRec) : (s.setShift i x).arbiter = s.arbiter := rfl
@[simp] theorem setShift_buttons (i : ShiftSlot) (x : Option ShiftRec) : (s.setShift i x).buttons = s.buttons := rfl
@[simp] theorem setShift_ports (i : ShiftSlot) (x : Option ShiftRec) : (s.setShift i x).ports = s.ports := rfl
@[simp] theorem setShift_router (i : ShiftSlot) (x : Option ShiftRec) : (s.setShift i x).router = s.router := rfl

@[simp] theorem setSafety_pending (x : SafetyRec) : (s.setSafety x).pending = s.pending := rfl
@[simp] theorem setSafety_supply (x : SafetyRec) : (s.setSafety x).supply = s.supply := rfl
@[simp] theorem setSafety_retained (x : SafetyRec) : (s.setSafety x).retained = s.retained := rfl
@[simp] theorem setSafety_memory (x : SafetyRec) : (s.setSafety x).memory = { s.memory with safety := x } := rfl
@[simp] theorem setSafety_loops (x : SafetyRec) : (s.setSafety x).loops = s.loops := rfl
@[simp] theorem setSafety_timer (x : SafetyRec) : (s.setSafety x).timer = s.timer := rfl
@[simp] theorem setSafety_measure (x : SafetyRec) : (s.setSafety x).measure = s.measure := rfl
@[simp] theorem setSafety_corridorMeasure (x : SafetyRec) : (s.setSafety x).corridorMeasure = s.corridorMeasure := rfl
@[simp] theorem setSafety_rates (x : SafetyRec) : (s.setSafety x).rates = s.rates := rfl
@[simp] theorem setSafety_corridorRate (x : SafetyRec) : (s.setSafety x).corridorRate = s.corridorRate := rfl
@[simp] theorem setSafety_lists (x : SafetyRec) : (s.setSafety x).lists = s.lists := rfl
@[simp] theorem setSafety_sequencers (x : SafetyRec) : (s.setSafety x).sequencers = s.sequencers := rfl
@[simp] theorem setSafety_lamps (x : SafetyRec) : (s.setSafety x).lamps = s.lamps := rfl
@[simp] theorem setSafety_qualified (x : SafetyRec) : (s.setSafety x).qualified = s.qualified := rfl
@[simp] theorem setSafety_arbiter (x : SafetyRec) : (s.setSafety x).arbiter = s.arbiter := rfl
@[simp] theorem setSafety_buttons (x : SafetyRec) : (s.setSafety x).buttons = s.buttons := rfl
@[simp] theorem setSafety_ports (x : SafetyRec) : (s.setSafety x).ports = s.ports := rfl
@[simp] theorem setSafety_router (x : SafetyRec) : (s.setSafety x).router = s.router := rfl

@[simp] theorem setCorridor_pending (x : CorridorRec) : (s.setCorridor x).pending = s.pending := rfl
@[simp] theorem setCorridor_supply (x : CorridorRec) : (s.setCorridor x).supply = s.supply := rfl
@[simp] theorem setCorridor_retained (x : CorridorRec) : (s.setCorridor x).retained = s.retained := rfl
@[simp] theorem setCorridor_memory (x : CorridorRec) : (s.setCorridor x).memory = { s.memory with corridor := x } := rfl
@[simp] theorem setCorridor_loops (x : CorridorRec) : (s.setCorridor x).loops = s.loops := rfl
@[simp] theorem setCorridor_timer (x : CorridorRec) : (s.setCorridor x).timer = s.timer := rfl
@[simp] theorem setCorridor_measure (x : CorridorRec) : (s.setCorridor x).measure = s.measure := rfl
@[simp] theorem setCorridor_corridorMeasure (x : CorridorRec) : (s.setCorridor x).corridorMeasure = s.corridorMeasure := rfl
@[simp] theorem setCorridor_rates (x : CorridorRec) : (s.setCorridor x).rates = s.rates := rfl
@[simp] theorem setCorridor_corridorRate (x : CorridorRec) : (s.setCorridor x).corridorRate = s.corridorRate := rfl
@[simp] theorem setCorridor_lists (x : CorridorRec) : (s.setCorridor x).lists = s.lists := rfl
@[simp] theorem setCorridor_sequencers (x : CorridorRec) : (s.setCorridor x).sequencers = s.sequencers := rfl
@[simp] theorem setCorridor_lamps (x : CorridorRec) : (s.setCorridor x).lamps = s.lamps := rfl
@[simp] theorem setCorridor_qualified (x : CorridorRec) : (s.setCorridor x).qualified = s.qualified := rfl
@[simp] theorem setCorridor_arbiter (x : CorridorRec) : (s.setCorridor x).arbiter = s.arbiter := rfl
@[simp] theorem setCorridor_buttons (x : CorridorRec) : (s.setCorridor x).buttons = s.buttons := rfl
@[simp] theorem setCorridor_ports (x : CorridorRec) : (s.setCorridor x).ports = s.ports := rfl
@[simp] theorem setCorridor_router (x : CorridorRec) : (s.setCorridor x).router = s.router := rfl

@[simp] theorem setClockTime_pending (t : DateTime) : (s.setClockTime t).pending = s.pending := rfl
@[simp] theorem setClockTime_supply (t : DateTime) : (s.setClockTime t).supply = s.supply := rfl
@[simp] theorem setClockTime_retained (t : DateTime) : (s.setClockTime t).retained = { s.retained with clock := t } := rfl
@[simp] theorem setClockTime_memory (t : DateTime) : (s.setClockTime t).memory = s.memory := rfl
@[simp] theorem setClockTime_loops (t : DateTime) : (s.setClockTime t).loops = s.loops := rfl
@[simp] theorem setClockTime_timer (t : DateTime) : (s.setClockTime t).timer = s.timer := rfl
@[simp] theorem setClockTime_measure (t : DateTime) : (s.setClockTime t).measure = s.measure := rfl
@[simp] theorem setClockTime_corridorMeasure (t : DateTime) : (s.setClockTime t).corridorMeasure = s.corridorMeasure := rfl
@[simp] theorem setClockTime_rates (t : DateTime) : (s.setClockTime t).rates = s.rates := rfl
@[simp] theorem setClockTime_corridorRate (t : DateTime) : (s.setClockTime t).corridorRate = s.corridorRate := rfl
@[simp] theorem setClockTime_lists (t : DateTime) : (s.setClockTime t).lists = s.lists := rfl
@[simp] theorem setClockTime_sequencers (t : DateTime) : (s.setClockTime t).sequencers = s.sequencers := rfl
@[simp] theorem setClockTime_lamps (t : DateTime) : (s.setClockTime t).lamps = s.lamps := rfl
@[simp] theorem setClockTime_qualified (t : DateTime) : (s.setClockTime t).qualified = s.qualified := rfl
@[simp] theorem setClockTime_arbiter (t : DateTime) : (s.setClockTime t).arbiter = s.arbiter := rfl
@[simp] theorem setClockTime_buttons (t : DateTime) : (s.setClockTime t).buttons = s.buttons := rfl
@[simp] theorem setClockTime_ports (t : DateTime) : (s.setClockTime t).ports = s.ports := rfl
@[simp] theorem setClockTime_router (t : DateTime) : (s.setClockTime t).router = s.router := rfl

@[simp] theorem setIncident_pending (x : Option IncidentRec) : (s.setIncident x).pending = s.pending := rfl
@[simp] theorem setIncident_supply (x : Option IncidentRec) : (s.setIncident x).supply = s.supply := rfl
@[simp] theorem setIncident_retained (x : Option IncidentRec) : (s.setIncident x).retained = { s.retained with incident := x } := rfl
@[simp] theorem setIncident_memory (x : Option IncidentRec) : (s.setIncident x).memory = s.memory := rfl
@[simp] theorem setIncident_loops (x : Option IncidentRec) : (s.setIncident x).loops = s.loops := rfl
@[simp] theorem setIncident_timer (x : Option IncidentRec) : (s.setIncident x).timer = s.timer := rfl
@[simp] theorem setIncident_measure (x : Option IncidentRec) : (s.setIncident x).measure = s.measure := rfl
@[simp] theorem setIncident_corridorMeasure (x : Option IncidentRec) : (s.setIncident x).corridorMeasure = s.corridorMeasure := rfl
@[simp] theorem setIncident_rates (x : Option IncidentRec) : (s.setIncident x).rates = s.rates := rfl
@[simp] theorem setIncident_corridorRate (x : Option IncidentRec) : (s.setIncident x).corridorRate = s.corridorRate := rfl
@[simp] theorem setIncident_lists (x : Option IncidentRec) : (s.setIncident x).lists = s.lists := rfl
@[simp] theorem setIncident_sequencers (x : Option IncidentRec) : (s.setIncident x).sequencers = s.sequencers := rfl
@[simp] theorem setIncident_lamps (x : Option IncidentRec) : (s.setIncident x).lamps = s.lamps := rfl
@[simp] theorem setIncident_qualified (x : Option IncidentRec) : (s.setIncident x).qualified = s.qualified := rfl
@[simp] theorem setIncident_arbiter (x : Option IncidentRec) : (s.setIncident x).arbiter = s.arbiter := rfl
@[simp] theorem setIncident_buttons (x : Option IncidentRec) : (s.setIncident x).buttons = s.buttons := rfl
@[simp] theorem setIncident_ports (x : Option IncidentRec) : (s.setIncident x).ports = s.ports := rfl
@[simp] theorem setIncident_router (x : Option IncidentRec) : (s.setIncident x).router = s.router := rfl

@[simp] theorem setCause_pending (k : RestartKind) : (s.setCause k).pending = s.pending := rfl
@[simp] theorem setCause_supply (k : RestartKind) : (s.setCause k).supply = { s.supply with cause := k } := rfl
@[simp] theorem setCause_retained (k : RestartKind) : (s.setCause k).retained = s.retained := rfl
@[simp] theorem setCause_memory (k : RestartKind) : (s.setCause k).memory = s.memory := rfl
@[simp] theorem setCause_loops (k : RestartKind) : (s.setCause k).loops = s.loops := rfl
@[simp] theorem setCause_timer (k : RestartKind) : (s.setCause k).timer = s.timer := rfl
@[simp] theorem setCause_measure (k : RestartKind) : (s.setCause k).measure = s.measure := rfl
@[simp] theorem setCause_corridorMeasure (k : RestartKind) : (s.setCause k).corridorMeasure = s.corridorMeasure := rfl
@[simp] theorem setCause_rates (k : RestartKind) : (s.setCause k).rates = s.rates := rfl
@[simp] theorem setCause_corridorRate (k : RestartKind) : (s.setCause k).corridorRate = s.corridorRate := rfl
@[simp] theorem setCause_lists (k : RestartKind) : (s.setCause k).lists = s.lists := rfl
@[simp] theorem setCause_sequencers (k : RestartKind) : (s.setCause k).sequencers = s.sequencers := rfl
@[simp] theorem setCause_lamps (k : RestartKind) : (s.setCause k).lamps = s.lamps := rfl
@[simp] theorem setCause_qualified (k : RestartKind) : (s.setCause k).qualified = s.qualified := rfl
@[simp] theorem setCause_arbiter (k : RestartKind) : (s.setCause k).arbiter = s.arbiter := rfl
@[simp] theorem setCause_buttons (k : RestartKind) : (s.setCause k).buttons = s.buttons := rfl
@[simp] theorem setCause_ports (k : RestartKind) : (s.setCause k).ports = s.ports := rfl
@[simp] theorem setCause_router (k : RestartKind) : (s.setCause k).router = s.router := rfl

@[simp] theorem setSupplyInput_pending (b : Bool) : (s.setSupplyInput b).pending = s.pending := rfl
@[simp] theorem setSupplyInput_supply (b : Bool) : (s.setSupplyInput b).supply = { s.supply with input := b } := rfl
@[simp] theorem setSupplyInput_retained (b : Bool) : (s.setSupplyInput b).retained = s.retained := rfl
@[simp] theorem setSupplyInput_memory (b : Bool) : (s.setSupplyInput b).memory = s.memory := rfl
@[simp] theorem setSupplyInput_loops (b : Bool) : (s.setSupplyInput b).loops = s.loops := rfl
@[simp] theorem setSupplyInput_timer (b : Bool) : (s.setSupplyInput b).timer = s.timer := rfl
@[simp] theorem setSupplyInput_measure (b : Bool) : (s.setSupplyInput b).measure = s.measure := rfl
@[simp] theorem setSupplyInput_corridorMeasure (b : Bool) : (s.setSupplyInput b).corridorMeasure = s.corridorMeasure := rfl
@[simp] theorem setSupplyInput_rates (b : Bool) : (s.setSupplyInput b).rates = s.rates := rfl
@[simp] theorem setSupplyInput_corridorRate (b : Bool) : (s.setSupplyInput b).corridorRate = s.corridorRate := rfl
@[simp] theorem setSupplyInput_lists (b : Bool) : (s.setSupplyInput b).lists = s.lists := rfl
@[simp] theorem setSupplyInput_sequencers (b : Bool) : (s.setSupplyInput b).sequencers = s.sequencers := rfl
@[simp] theorem setSupplyInput_lamps (b : Bool) : (s.setSupplyInput b).lamps = s.lamps := rfl
@[simp] theorem setSupplyInput_qualified (b : Bool) : (s.setSupplyInput b).qualified = s.qualified := rfl
@[simp] theorem setSupplyInput_arbiter (b : Bool) : (s.setSupplyInput b).arbiter = s.arbiter := rfl
@[simp] theorem setSupplyInput_buttons (b : Bool) : (s.setSupplyInput b).buttons = s.buttons := rfl
@[simp] theorem setSupplyInput_ports (b : Bool) : (s.setSupplyInput b).ports = s.ports := rfl
@[simp] theorem setSupplyInput_router (b : Bool) : (s.setSupplyInput b).router = s.router := rfl

@[simp] theorem setPower_pending (x : Power) : (s.setPower x).pending = s.pending := rfl
@[simp] theorem setPower_supply (x : Power) : (s.setPower x).supply = { s.supply with power := x } := rfl
@[simp] theorem setPower_retained (x : Power) : (s.setPower x).retained = s.retained := rfl
@[simp] theorem setPower_memory (x : Power) : (s.setPower x).memory = s.memory := rfl
@[simp] theorem setPower_loops (x : Power) : (s.setPower x).loops = s.loops := rfl
@[simp] theorem setPower_timer (x : Power) : (s.setPower x).timer = s.timer := rfl
@[simp] theorem setPower_measure (x : Power) : (s.setPower x).measure = s.measure := rfl
@[simp] theorem setPower_corridorMeasure (x : Power) : (s.setPower x).corridorMeasure = s.corridorMeasure := rfl
@[simp] theorem setPower_rates (x : Power) : (s.setPower x).rates = s.rates := rfl
@[simp] theorem setPower_corridorRate (x : Power) : (s.setPower x).corridorRate = s.corridorRate := rfl
@[simp] theorem setPower_lists (x : Power) : (s.setPower x).lists = s.lists := rfl
@[simp] theorem setPower_sequencers (x : Power) : (s.setPower x).sequencers = s.sequencers := rfl
@[simp] theorem setPower_lamps (x : Power) : (s.setPower x).lamps = s.lamps := rfl
@[simp] theorem setPower_qualified (x : Power) : (s.setPower x).qualified = s.qualified := rfl
@[simp] theorem setPower_arbiter (x : Power) : (s.setPower x).arbiter = s.arbiter := rfl
@[simp] theorem setPower_buttons (x : Power) : (s.setPower x).buttons = s.buttons := rfl
@[simp] theorem setPower_ports (x : Power) : (s.setPower x).ports = s.ports := rfl
@[simp] theorem setPower_router (x : Power) : (s.setPower x).router = s.router := rfl

@[simp] theorem setResetLine_pending (b : Bool) : (s.setResetLine b).pending = s.pending := rfl
@[simp] theorem setResetLine_supply (b : Bool) : (s.setResetLine b).supply = { s.supply with resetLine := b } := rfl
@[simp] theorem setResetLine_retained (b : Bool) : (s.setResetLine b).retained = s.retained := rfl
@[simp] theorem setResetLine_memory (b : Bool) : (s.setResetLine b).memory = s.memory := rfl
@[simp] theorem setResetLine_loops (b : Bool) : (s.setResetLine b).loops = s.loops := rfl
@[simp] theorem setResetLine_timer (b : Bool) : (s.setResetLine b).timer = s.timer := rfl
@[simp] theorem setResetLine_measure (b : Bool) : (s.setResetLine b).measure = s.measure := rfl
@[simp] theorem setResetLine_corridorMeasure (b : Bool) : (s.setResetLine b).corridorMeasure = s.corridorMeasure := rfl
@[simp] theorem setResetLine_rates (b : Bool) : (s.setResetLine b).rates = s.rates := rfl
@[simp] theorem setResetLine_corridorRate (b : Bool) : (s.setResetLine b).corridorRate = s.corridorRate := rfl
@[simp] theorem setResetLine_lists (b : Bool) : (s.setResetLine b).lists = s.lists := rfl
@[simp] theorem setResetLine_sequencers (b : Bool) : (s.setResetLine b).sequencers = s.sequencers := rfl
@[simp] theorem setResetLine_lamps (b : Bool) : (s.setResetLine b).lamps = s.lamps := rfl
@[simp] theorem setResetLine_qualified (b : Bool) : (s.setResetLine b).qualified = s.qualified := rfl
@[simp] theorem setResetLine_arbiter (b : Bool) : (s.setResetLine b).arbiter = s.arbiter := rfl
@[simp] theorem setResetLine_buttons (b : Bool) : (s.setResetLine b).buttons = s.buttons := rfl
@[simp] theorem setResetLine_ports (b : Bool) : (s.setResetLine b).ports = s.ports := rfl
@[simp] theorem setResetLine_router (b : Bool) : (s.setResetLine b).router = s.router := rfl

@[simp] theorem setPending_pending (l : List Instr) : (s.setPending l).pending = l := rfl
@[simp] theorem setPending_supply (l : List Instr) : (s.setPending l).supply = s.supply := rfl
@[simp] theorem setPending_retained (l : List Instr) : (s.setPending l).retained = s.retained := rfl
@[simp] theorem setPending_memory (l : List Instr) : (s.setPending l).memory = s.memory := rfl
@[simp] theorem setPending_loops (l : List Instr) : (s.setPending l).loops = s.loops := rfl
@[simp] theorem setPending_timer (l : List Instr) : (s.setPending l).timer = s.timer := rfl
@[simp] theorem setPending_measure (l : List Instr) : (s.setPending l).measure = s.measure := rfl
@[simp] theorem setPending_corridorMeasure (l : List Instr) : (s.setPending l).corridorMeasure = s.corridorMeasure := rfl
@[simp] theorem setPending_rates (l : List Instr) : (s.setPending l).rates = s.rates := rfl
@[simp] theorem setPending_corridorRate (l : List Instr) : (s.setPending l).corridorRate = s.corridorRate := rfl
@[simp] theorem setPending_lists (l : List Instr) : (s.setPending l).lists = s.lists := rfl
@[simp] theorem setPending_sequencers (l : List Instr) : (s.setPending l).sequencers = s.sequencers := rfl
@[simp] theorem setPending_lamps (l : List Instr) : (s.setPending l).lamps = s.lamps := rfl
@[simp] theorem setPending_qualified (l : List Instr) : (s.setPending l).qualified = s.qualified := rfl
@[simp] theorem setPending_arbiter (l : List Instr) : (s.setPending l).arbiter = s.arbiter := rfl
@[simp] theorem setPending_buttons (l : List Instr) : (s.setPending l).buttons = s.buttons := rfl
@[simp] theorem setPending_ports (l : List Instr) : (s.setPending l).ports = s.ports := rfl
@[simp] theorem setPending_router (l : List Instr) : (s.setPending l).router = s.router := rfl

@[simp] theorem dropUnqualified_pending : s.dropUnqualified.pending = s.pending := rfl
@[simp] theorem dropUnqualified_supply : s.dropUnqualified.supply = s.supply := rfl
@[simp] theorem dropUnqualified_retained : s.dropUnqualified.retained = s.retained := rfl
@[simp] theorem dropUnqualified_memory : s.dropUnqualified.memory = s.memory := rfl
@[simp] theorem dropUnqualified_loops : s.dropUnqualified.loops = s.loops := rfl
@[simp] theorem dropUnqualified_timer : s.dropUnqualified.timer = s.timer := rfl
@[simp] theorem dropUnqualified_measure : s.dropUnqualified.measure = s.measure := rfl
@[simp] theorem dropUnqualified_corridorMeasure : s.dropUnqualified.corridorMeasure = s.corridorMeasure := rfl
@[simp] theorem dropUnqualified_rates : s.dropUnqualified.rates = s.rates := rfl
@[simp] theorem dropUnqualified_corridorRate : s.dropUnqualified.corridorRate = s.corridorRate := rfl
@[simp] theorem dropUnqualified_lists : s.dropUnqualified.lists = s.lists := rfl
@[simp] theorem dropUnqualified_sequencers : s.dropUnqualified.sequencers = s.sequencers := rfl
@[simp] theorem dropUnqualified_lamps : s.dropUnqualified.lamps = s.lamps := rfl
@[simp] theorem dropUnqualified_qualified : s.dropUnqualified.qualified = s.qualified.filter s.stillQualifies := rfl
@[simp] theorem dropUnqualified_arbiter : s.dropUnqualified.arbiter = s.arbiter := rfl
@[simp] theorem dropUnqualified_buttons : s.dropUnqualified.buttons = s.buttons := rfl
@[simp] theorem dropUnqualified_ports : s.dropUnqualified.ports = s.ports := rfl
@[simp] theorem dropUnqualified_router : s.dropUnqualified.router = s.router := rfl

end State

/-! ### A lane's monitor -/

namespace LaneMonitor

variable (m : LaneMonitor)

@[simp] theorem runsCleared_sensed : m.runsCleared.sensed = m.sensed := rfl
@[simp] theorem runsCleared_sampled : m.runsCleared.sampled = m.sampled := rfl
@[simp] theorem runsCleared_qual (k : IncidentKind) : m.runsCleared.qual k = .clear := by cases k <;> rfl
@[simp] theorem runsCleared_heldAtSample (k : IncidentKind) : m.runsCleared.heldAtSample k = m.heldAtSample k := rfl

end LaneMonitor
end Sys2Proof.Machine
end

