-- ==== Sys2Proof/Laws/Registers.lean ====
section
/-! SUPPORT. Reading a register after a named update: the register that was written, and every register of another table. -/

namespace Sys2Proof.Machine.State

variable (s : State)

theorem portIdx_inj {p q : Port} (h : portIdx p = portIdx q) : p = q := by cases p <;> cases q <;> simp_all [portIdx]

@[simp] theorem port_setPort_self (p : Port) (x : LinkPort) : (s.setPort p x).port p = x := by simp [port]
theorem port_setPort_ne {p q : Port} (h : q ≠ p) (x : LinkPort) : (s.setPort p x).port q = s.port q := by
  simp [port, Tab.get_set_ne _ _ fun e => h (portIdx_inj e)]
@[simp] theorem port_modPort_self (p : Port) (f : LinkPort → LinkPort) : (s.modPort p f).port p = f (s.port p) := by
  simp [modPort]
theorem port_modPort_ne {p q : Port} (h : q ≠ p) (f : LinkPort → LinkPort) : (s.modPort p f).port q = s.port q := by
  simp [modPort, port_setPort_ne s h]

/-- A change that leaves a port as it is changes nothing. -/
theorem modPort_same (p : Port) (f : LinkPort → LinkPort) (h : f (s.port p) = s.port p) : s.modPort p f = s := by
  simp only [modPort, setPort, h]
  show ({ s with ports := _ } : State) = s
  simp [port]

@[simp] theorem seq_setSeq_self (r : Ramp) (q : Sequencer) : (s.setSeq r q).seq r = q := by simp [seq]
theorem seq_setSeq_ne {r r' : Ramp} (h : r' ≠ r) (q : Sequencer) : (s.setSeq r q).seq r' = s.seq r' := by
  simp [seq, Tab.get_set_ne _ _ h]
@[simp] theorem seq_modSeq_self (r : Ramp) (f : Sequencer → Sequencer) : (s.modSeq r f).seq r = f (s.seq r) := by
  simp [seq]
theorem seq_modSeq_ne {r r' : Ramp} (h : r' ≠ r) (f : Sequencer → Sequencer) : (s.modSeq r f).seq r' = s.seq r' := by
  simp [seq, Tab.get_set_ne _ _ h]
@[simp] theorem planList_setList_self (r : Ramp) (l : PlanList) : (s.setList r l).planList r = l := by simp [planList]
theorem planList_setList_ne {r r' : Ramp} (e : r' ≠ r) (l : PlanList) : (s.setList r l).planList r' = s.planList r' := by
  simp [planList, Tab.get_set_ne _ _ e]
@[simp] theorem loop_setLoop_self (i : LoopNo) (l : Loop) : (s.setLoop i l).loop i = l := by simp [loop]
theorem loop_setLoop_ne {i i' : LoopNo} (e : i' ≠ i) (l : Loop) : (s.setLoop i l).loop i' = s.loop i' := by
  simp [loop, Tab.get_set_ne _ _ e]
@[simp] theorem meas_setMeas_self (r : Ramp) (m : RampMeasure) : (s.setMeas r m).meas r = m := by simp [meas]
theorem meas_setMeas_ne {r r' : Ramp} (e : r' ≠ r) (m : RampMeasure) : (s.setMeas r m).meas r' = s.meas r' := by
  simp [meas, Tab.get_set_ne _ _ e]
@[simp] theorem rate_setRate_self (r : Ramp) (m : RampRate) : (s.setRate r m).rate r = m := by simp [rate]
theorem rate_setRate_ne {r r' : Ramp} (e : r' ≠ r) (m : RampRate) : (s.setRate r m).rate r' = s.rate r' := by
  simp [rate, Tab.get_set_ne _ _ e]
@[simp] theorem button_setButton_self (r : Ramp) (b : Button) : (s.setButton r b).button r = b := by simp [button]
theorem button_setButton_ne {r r' : Ramp} (e : r' ≠ r) (b : Button) : (s.setButton r b).button r' = s.button r' := by
  simp [button, Tab.get_set_ne _ _ e]
@[simp] theorem holder_setHolder_self (i : Fin 7) (h : Option Port) : (s.setHolder i h).holder i = h := by simp [holder]
theorem holder_setHolder_ne {i i' : Fin 7} (e : i' ≠ i) (h : Option Port) : (s.setHolder i h).holder i' = s.holder i' := by
  simp [holder, Tab.get_set_ne _ _ e]
@[simp] theorem lamp_setLamp_self (r : Ramp) (ln : LaneNo) (m : LaneMonitor) : (s.setLamp r ln m).lamp r ln = m := by
  simp [lamp]
theorem lamp_setLamp_ne {r r' : Ramp} {ln ln' : LaneNo} (h : r' ≠ r ∨ ln' ≠ ln) (m : LaneMonitor) :
    (s.setLamp r ln m).lamp r' ln' = s.lamp r' ln' := by
  by_cases e : r' = r
  · subst e; simp [lamp, Tab.get_set_ne _ _ (h.resolve_left fun g => g rfl)]
  · simp [lamp, Tab.get_set_ne _ _ e]
@[simp] theorem health_setHealth_self (id : RecId) (h : Health) : (s.setHealth id h).health id = h := by simp [health]
theorem turn_inj {i j : RecId} (h : RecId.turn i = RecId.turn j) : i = j := by
  cases i <;> cases j <;> simp [RecId.turn, Fin.ext_iff] at h ⊢ <;> omega
theorem health_setHealth_ne {i j : RecId} (h : j ≠ i) (x : Health) : (s.setHealth i x).health j = s.health j := by
  simp [health, Tab.get_set_ne _ _ fun e => h (turn_inj e)]

@[simp] theorem seq_setPort (r' : Ramp) (p : Port) (x : LinkPort) :
    (s.setPort p x).seq r' = s.seq r' := rfl
@[simp] theorem seq_modPort (r' : Ramp) (p : Port) (f : LinkPort → LinkPort) :
    (s.modPort p f).seq r' = s.seq r' := rfl
@[simp] theorem seq_setList (r' : Ramp) (r : Ramp) (l : PlanList) :
    (s.setList r l).seq r' = s.seq r' := rfl
@[simp] theorem seq_setLoop (r' : Ramp) (i : LoopNo) (l : Loop) :
    (s.setLoop i l).seq r' = s.seq r' := rfl
@[simp] theorem seq_setMeas (r' : Ramp) (r : Ramp) (m : RampMeasure) :
    (s.setMeas r m).seq r' = s.seq r' := rfl
@[simp] theorem seq_setRate (r' : Ramp) (r : Ramp) (m : RampRate) :
    (s.setRate r m).seq r' = s.seq r' := rfl
@[simp] theorem seq_setLamp (r' : Ramp) (r : Ramp) (ln : LaneNo) (m : LaneMonitor) :
    (s.setLamp r ln m).seq r' = s.seq r' := rfl
@[simp] theorem seq_setButton (r' : Ramp) (r : Ramp) (b : Button) :
    (s.setButton r b).seq r' = s.seq r' := rfl
@[simp] theorem seq_setHoldFlag (r' : Ramp) (r : Ramp) (b : Bool) :
    (s.setHoldFlag r b).seq r' = s.seq r' := rfl
@[simp] theorem seq_setFaultDark (r' : Ramp) (r : Ramp) (b : Bool) :
    (s.setFaultDark r b).seq r' = s.seq r' := rfl
@[simp] theorem seq_setWasMetering (r' : Ramp) (r : Ramp) (b : Bool) :
    (s.setWasMetering r b).seq r' = s.seq r' := rfl
@[simp] theorem seq_setHolder (r' : Ramp) (i : Fin 7) (h : Option Port) :
    (s.setHolder i h).seq r' = s.seq r' := rfl
@[simp] theorem seq_setHealth (r' : Ramp) (id : RecId) (h : Health) :
    (s.setHealth id h).seq r' = s.seq r' := rfl
@[simp] theorem seq_setLoopRec (r' : Ramp) (i : LoopNo) (x : LoopRec) :
    (s.setLoopRec i x).seq r' = s.seq r' := rfl
@[simp] theorem seq_setPlan (r' : Ramp) (k : PlanSlot) (x : Option Plan) :
    (s.setPlan k x).seq r' = s.seq r' := rfl
@[simp] theorem seq_setScheduleRec (r' : Ramp) (i : ScheduleSlot) (x : Option ScheduleRec) :
    (s.setScheduleRec i x).seq r' = s.seq r' := rfl
@[simp] theorem seq_setShift (r' : Ramp) (i : ShiftSlot) (x : Option ShiftRec) :
    (s.setShift i x).seq r' = s.seq r' := rfl
@[simp] theorem seq_setSafety (r' : Ramp) (x : SafetyRec) :
    (s.setSafety x).seq r' = s.seq r' := rfl
@[simp] theorem seq_setCorridor (r' : Ramp) (x : CorridorRec) :
    (s.setCorridor x).seq r' = s.seq r' := rfl
@[simp] theorem seq_setClockTime (r' : Ramp) (t : DateTime) :
    (s.setClockTime t).seq r' = s.seq r' := rfl
@[simp] theorem seq_setIncident (r' : Ramp) (x : Option IncidentRec) :
    (s.setIncident x).seq r' = s.seq r' := rfl
@[simp] theorem seq_setCause (r' : Ramp) (k : RestartKind) :
    (s.setCause k).seq r' = s.seq r' := rfl
@[simp] theorem seq_setSupplyInput (r' : Ramp) (b : Bool) :
    (s.setSupplyInput b).seq r' = s.seq r' := rfl
@[simp] theorem seq_setPower (r' : Ramp) (x : Power) :
    (s.setPower x).seq r' = s.seq r' := rfl
@[simp] theorem seq_setResetLine (r' : Ramp) (b : Bool) :
    (s.setResetLine b).seq r' = s.seq r' := rfl
@[simp] theorem seq_setPending (r' : Ramp) (l : List Instr) :
    (s.setPending l).seq r' = s.seq r' := rfl

@[simp] theorem planList_setPort (r' : Ramp) (p : Port) (x : LinkPort) :
    (s.setPort p x).planList r' = s.planList r' := rfl
@[simp] theorem planList_modPort (r' : Ramp) (p : Port) (f : LinkPort → LinkPort) :
    (s.modPort p f).planList r' = s.planList r' := rfl
@[simp] theorem planList_setSeq (r' : Ramp) (r : Ramp) (q : Sequencer) :
    (s.setSeq r q).planList r' = s.planList r' := rfl
@[simp] theorem planList_modSeq (r' : Ramp) (r : Ramp) (f : Sequencer → Sequencer) :
    (s.modSeq r f).planList r' = s.planList r' := rfl
@[simp] theorem planList_setLoop (r' : Ramp) (i : LoopNo) (l : Loop) :
    (s.setLoop i l).planList r' = s.planList r' := rfl
@[simp] theorem planList_setMeas (r' : Ramp) (r : Ramp) (m : RampMeasure) :
    (s.setMeas r m).planList r' = s.planList r' := rfl
@[simp] theorem planList_setRate (r' : Ramp) (r : Ramp) (m : RampRate) :
    (s.setRate r m).planList r' = s.planList r' := rfl
@[simp] theorem planList_setLamp (r' : Ramp) (r : Ramp) (ln : LaneNo) (m : LaneMonitor) :
    (s.setLamp r ln m).planList r' = s.planList r' := rfl
@[simp] theorem planList_setButton (r' : Ramp) (r : Ramp) (b : Button) :
    (s.setButton r b).planList r' = s.planList r' := rfl
@[simp] theorem planList_setHoldFlag (r' : Ramp) (r : Ramp) (b : Bool) :
    (s.setHoldFlag r b).planList r' = s.planList r' := rfl
@[simp] theorem planList_setFaultDark (r' : Ramp) (r : Ramp) (b : Bool) :
    (s.setFaultDark r b).planList r' = s.planList r' := rfl
@[simp] theorem planList_setWasMetering (r' : Ramp) (r : Ramp) (b : Bool) :
    (s.setWasMetering r b).planList r' = s.planList r' := rfl
@[simp] theorem planList_setHolder (r' : Ramp) (i : Fin 7) (h : Option Port) :
    (s.setHolder i h).planList r' = s.planList r' := rfl
@[simp] theorem planList_setHealth (r' : Ramp) (id : RecId) (h : Health) :
    (s.setHealth id h).planList r' = s.planList r' := rfl
@[simp] theorem planList_setLoopRec (r' : Ramp) (i : LoopNo) (x : LoopRec) :
    (s.setLoopRec i x).planList r' = s.planList r' := rfl
@[simp] theorem planList_setPlan (r' : Ramp) (k : PlanSlot) (x : Option Plan) :
    (s.setPlan k x).planList r' = s.planList r' := rfl
@[simp] theorem planList_setScheduleRec (r' : Ramp) (i : ScheduleSlot) (x : Option ScheduleRec) :
    (s.setScheduleRec i x).planList r' = s.planList r' := rfl
@[simp] theorem planList_setShift (r' : Ramp) (i : ShiftSlot) (x : Option ShiftRec) :
    (s.setShift i x).planList r' = s.planList r' := rfl
@[simp] theorem planList_setSafety (r' : Ramp) (x : SafetyRec) :
    (s.setSafety x).planList r' = s.planList r' := rfl
@[simp] theorem planList_setCorridor (r' : Ramp) (x : CorridorRec) :
    (s.setCorridor x).planList r' = s.planList r' := rfl
@[simp] theorem planList_setClockTime (r' : Ramp) (t : DateTime) :
    (s.setClockTime t).planList r' = s.planList r' := rfl
@[simp] theorem planList_setIncident (r' : Ramp) (x : Option IncidentRec) :
    (s.setIncident x).planList r' = s.planList r' := rfl
@[simp] theorem planList_setCause (r' : Ramp) (k : RestartKind) :
    (s.setCause k).planList r' = s.planList r' := rfl
@[simp] theorem planList_setSupplyInput (r' : Ramp) (b : Bool) :
    (s.setSupplyInput b).planList r' = s.planList r' := rfl
@[simp] theorem planList_setPower (r' : Ramp) (x : Power) :
    (s.setPower x).planList r' = s.planList r' := rfl
@[simp] theorem planList_setResetLine (r' : Ramp) (b : Bool) :
    (s.setResetLine b).planList r' = s.planList r' := rfl
@[simp] theorem planList_setPending (r' : Ramp) (l : List Instr) :
    (s.setPending l).planList r' = s.planList r' := rfl

@[simp] theorem loop_setPort (i' : LoopNo) (p : Port) (x : LinkPort) :
    (s.setPort p x).loop i' = s.loop i' := rfl
@[simp] theorem loop_modPort (i' : LoopNo) (p : Port) (f : LinkPort → LinkPort) :
    (s.modPort p f).loop i' = s.loop i' := rfl
@[simp] theorem loop_setSeq (i' : LoopNo) (r : Ramp) (q : Sequencer) :
    (s.setSeq r q).loop i' = s.loop i' := rfl
@[simp] theorem loop_modSeq (i' : LoopNo) (r : Ramp) (f : Sequencer → Sequencer) :
    (s.modSeq r f).loop i' = s.loop i' := rfl
@[simp] theorem loop_setList (i' : LoopNo) (r : Ramp) (l : PlanList) :
    (s.setList r l).loop i' = s.loop i' := rfl
@[simp] theorem loop_setMeas (i' : LoopNo) (r : Ramp) (m : RampMeasure) :
    (s.setMeas r m).loop i' = s.loop i' := rfl
@[simp] theorem loop_setRate (i' : LoopNo) (r : Ramp) (m : RampRate) :
    (s.setRate r m).loop i' = s.loop i' := rfl
@[simp] theorem loop_setLamp (i' : LoopNo) (r : Ramp) (ln : LaneNo) (m : LaneMonitor) :
    (s.setLamp r ln m).loop i' = s.loop i' := rfl
@[simp] theorem loop_setButton (i' : LoopNo) (r : Ramp) (b : Button) :
    (s.setButton r b).loop i' = s.loop i' := rfl
@[simp] theorem loop_setHoldFlag (i' : LoopNo) (r : Ramp) (b : Bool) :
    (s.setHoldFlag r b).loop i' = s.loop i' := rfl
@[simp] theorem loop_setFaultDark (i' : LoopNo) (r : Ramp) (b : Bool) :
    (s.setFaultDark r b).loop i' = s.loop i' := rfl
@[simp] theorem loop_setWasMetering (i' : LoopNo) (r : Ramp) (b : Bool) :
    (s.setWasMetering r b).loop i' = s.loop i' := rfl
@[simp] theorem loop_setHolder (i' : LoopNo) (i : Fin 7) (h : Option Port) :
    (s.setHolder i h).loop i' = s.loop i' := rfl
@[simp] theorem loop_setHealth (i' : LoopNo) (id : RecId) (h : Health) :
    (s.setHealth id h).loop i' = s.loop i' := rfl
@[simp] theorem loop_setLoopRec (i' : LoopNo) (i : LoopNo) (x : LoopRec) :
    (s.setLoopRec i x).loop i' = s.loop i' := rfl
@[simp] theorem loop_setPlan (i' : LoopNo) (k : PlanSlot) (x : Option Plan) :
    (s.setPlan k x).loop i' = s.loop i' := rfl
@[simp] theorem loop_setScheduleRec (i' : LoopNo) (i : ScheduleSlot) (x : Option ScheduleRec) :
    (s.setScheduleRec i x).loop i' = s.loop i' := rfl
@[simp] theorem loop_setShift (i' : LoopNo) (i : ShiftSlot) (x : Option ShiftRec) :
    (s.setShift i x).loop i' = s.loop i' := rfl
@[simp] theorem loop_setSafety (i' : LoopNo) (x : SafetyRec) :
    (s.setSafety x).loop i' = s.loop i' := rfl
@[simp] theorem loop_setCorridor (i' : LoopNo) (x : CorridorRec) :
    (s.setCorridor x).loop i' = s.loop i' := rfl
@[simp] theorem loop_setClockTime (i' : LoopNo) (t : DateTime) :
    (s.setClockTime t).loop i' = s.loop i' := rfl
@[simp] theorem loop_setIncident (i' : LoopNo) (x : Option IncidentRec) :
    (s.setIncident x).loop i' = s.loop i' := rfl
@[simp] theorem loop_setCause (i' : LoopNo) (k : RestartKind) :
    (s.setCause k).loop i' = s.loop i' := rfl
@[simp] theorem loop_setSupplyInput (i' : LoopNo) (b : Bool) :
    (s.setSupplyInput b).loop i' = s.loop i' := rfl
@[simp] theorem loop_setPower (i' : LoopNo) (x : Power) :
    (s.setPower x).loop i' = s.loop i' := rfl
@[simp] theorem loop_setResetLine (i' : LoopNo) (b : Bool) :
    (s.setResetLine b).loop i' = s.loop i' := rfl
@[simp] theorem loop_setPending (i' : LoopNo) (l : List Instr) :
    (s.setPending l).loop i' = s.loop i' := rfl

@[simp] theorem meas_setPort (r' : Ramp) (p : Port) (x : LinkPort) :
    (s.setPort p x).meas r' = s.meas r' := rfl
@[simp] theorem meas_modPort (r' : Ramp) (p : Port) (f : LinkPort → LinkPort) :
    (s.modPort p f).meas r' = s.meas r' := rfl
@[simp] theorem meas_setSeq (r' : Ramp) (r : Ramp) (q : Sequencer) :
    (s.setSeq r q).meas r' = s.meas r' := rfl
@[simp] theorem meas_modSeq (r' : Ramp) (r : Ramp) (f : Sequencer → Sequencer) :
    (s.modSeq r f).meas r' = s.meas r' := rfl
@[simp] theorem meas_setList (r' : Ramp) (r : Ramp) (l : PlanList) :
    (s.setList r l).meas r' = s.meas r' := rfl
@[simp] theorem meas_setLoop (r' : Ramp) (i : LoopNo) (l : Loop) :
    (s.setLoop i l).meas r' = s.meas r' := rfl
@[simp] theorem meas_setRate (r' : Ramp) (r : Ramp) (m : RampRate) :
    (s.setRate r m).meas r' = s.meas r' := rfl
@[simp] theorem meas_setLamp (r' : Ramp) (r : Ramp) (ln : LaneNo) (m : LaneMonitor) :
    (s.setLamp r ln m).meas r' = s.meas r' := rfl
@[simp] theorem meas_setButton (r' : Ramp) (r : Ramp) (b : Button) :
    (s.setButton r b).meas r' = s.meas r' := rfl
@[simp] theorem meas_setHoldFlag (r' : Ramp) (r : Ramp) (b : Bool) :
    (s.setHoldFlag r b).meas r' = s.meas r' := rfl
@[simp] theorem meas_setFaultDark (r' : Ramp) (r : Ramp) (b : Bool) :
    (s.setFaultDark r b).meas r' = s.meas r' := rfl
@[simp] theorem meas_setWasMetering (r' : Ramp) (r : Ramp) (b : Bool) :
    (s.setWasMetering r b).meas r' = s.meas r' := rfl
@[simp] theorem meas_setHolder (r' : Ramp) (i : Fin 7) (h : Option Port) :
    (s.setHolder i h).meas r' = s.meas r' := rfl
@[simp] theorem meas_setHealth (r' : Ramp) (id : RecId) (h : Health) :
    (s.setHealth id h).meas r' = s.meas r' := rfl
@[simp] theorem meas_setLoopRec (r' : Ramp) (i : LoopNo) (x : LoopRec) :
    (s.setLoopRec i x).meas r' = s.meas r' := rfl
@[simp] theorem meas_setPlan (r' : Ramp) (k : PlanSlot) (x : Option Plan) :
    (s.setPlan k x).meas r' = s.meas r' := rfl
@[simp] theorem meas_setScheduleRec (r' : Ramp) (i : ScheduleSlot) (x : Option ScheduleRec) :
    (s.setScheduleRec i x).meas r' = s.meas r' := rfl
@[simp] theorem meas_setShift (r' : Ramp) (i : ShiftSlot) (x : Option ShiftRec) :
    (s.setShift i x).meas r' = s.meas r' := rfl
@[simp] theorem meas_setSafety (r' : Ramp) (x : SafetyRec) :
    (s.setSafety x).meas r' = s.meas r' := rfl
@[simp] theorem meas_setCorridor (r' : Ramp) (x : CorridorRec) :
    (s.setCorridor x).meas r' = s.meas r' := rfl
@[simp] theorem meas_setClockTime (r' : Ramp) (t : DateTime) :
    (s.setClockTime t).meas r' = s.meas r' := rfl
@[simp] theorem meas_setIncident (r' : Ramp) (x : Option IncidentRec) :
    (s.setIncident x).meas r' = s.meas r' := rfl
@[simp] theorem meas_setCause (r' : Ramp) (k : RestartKind) :
    (s.setCause k).meas r' = s.meas r' := rfl
@[simp] theorem meas_setSupplyInput (r' : Ramp) (b : Bool) :
    (s.setSupplyInput b).meas r' = s.meas r' := rfl
@[simp] theorem meas_setPower (r' : Ramp) (x : Power) :
    (s.setPower x).meas r' = s.meas r' := rfl
@[simp] theorem meas_setResetLine (r' : Ramp) (b : Bool) :
    (s.setResetLine b).meas r' = s.meas r' := rfl
@[simp] theorem meas_setPending (r' : Ramp) (l : List Instr) :
    (s.setPending l).meas r' = s.meas r' := rfl

@[simp] theorem rate_setPort (r' : Ramp) (p : Port) (x : LinkPort) :
    (s.setPort p x).rate r' = s.rate r' := rfl
@[simp] theorem rate_modPort (r' : Ramp) (p : Port) (f : LinkPort → LinkPort) :
    (s.modPort p f).rate r' = s.rate r' := rfl
@[simp] theorem rate_setSeq (r' : Ramp) (r : Ramp) (q : Sequencer) :
    (s.setSeq r q).rate r' = s.rate r' := rfl
@[simp] theorem rate_modSeq (r' : Ramp) (r : Ramp) (f : Sequencer → Sequencer) :
    (s.modSeq r f).rate r' = s.rate r' := rfl
@[simp] theorem rate_setList (r' : Ramp) (r : Ramp) (l : PlanList) :
    (s.setList r l).rate r' = s.rate r' := rfl
@[simp] theorem rate_setLoop (r' : Ramp) (i : LoopNo) (l : Loop) :
    (s.setLoop i l).rate r' = s.rate r' := rfl
@[simp] theorem rate_setMeas (r' : Ramp) (r : Ramp) (m : RampMeasure) :
    (s.setMeas r m).rate r' = s.rate r' := rfl
@[simp] theorem rate_setLamp (r' : Ramp) (r : Ramp) (ln : LaneNo) (m : LaneMonitor) :
    (s.setLamp r ln m).rate r' = s.rate r' := rfl
@[simp] theorem rate_setButton (r' : Ramp) (r : Ramp) (b : Button) :
    (s.setButton r b).rate r' = s.rate r' := rfl
@[simp] theorem rate_setHoldFlag (r' : Ramp) (r : Ramp) (b : Bool) :
    (s.setHoldFlag r b).rate r' = s.rate r' := rfl
@[simp] theorem rate_setFaultDark (r' : Ramp) (r : Ramp) (b : Bool) :
    (s.setFaultDark r b).rate r' = s.rate r' := rfl
@[simp] theorem rate_setWasMetering (r' : Ramp) (r : Ramp) (b : Bool) :
    (s.setWasMetering r b).rate r' = s.rate r' := rfl
@[simp] theorem rate_setHolder (r' : Ramp) (i : Fin 7) (h : Option Port) :
    (s.setHolder i h).rate r' = s.rate r' := rfl
@[simp] theorem rate_setHealth (r' : Ramp) (id : RecId) (h : Health) :
    (s.setHealth id h).rate r' = s.rate r' := rfl
@[simp] theorem rate_setLoopRec (r' : Ramp) (i : LoopNo) (x : LoopRec) :
    (s.setLoopRec i x).rate r' = s.rate r' := rfl
@[simp] theorem rate_setPlan (r' : Ramp) (k : PlanSlot) (x : Option Plan) :
    (s.setPlan k x).rate r' = s.rate r' := rfl
@[simp] theorem rate_setScheduleRec (r' : Ramp) (i : ScheduleSlot) (x : Option ScheduleRec) :
    (s.setScheduleRec i x).rate r' = s.rate r' := rfl
@[simp] theorem rate_setShift (r' : Ramp) (i : ShiftSlot) (x : Option ShiftRec) :
    (s.setShift i x).rate r' = s.rate r' := rfl
@[simp] theorem rate_setSafety (r' : Ramp) (x : SafetyRec) :
    (s.setSafety x).rate r' = s.rate r' := rfl
@[simp] theorem rate_setCorridor (r' : Ramp) (x : CorridorRec) :
    (s.setCorridor x).rate r' = s.rate r' := rfl
@[simp] theorem rate_setClockTime (r' : Ramp) (t : DateTime) :
    (s.setClockTime t).rate r' = s.rate r' := rfl
@[simp] theorem rate_setIncident (r' : Ramp) (x : Option IncidentRec) :
    (s.setIncident x).rate r' = s.rate r' := rfl
@[simp] theorem rate_setCause (r' : Ramp) (k : RestartKind) :
    (s.setCause k).rate r' = s.rate r' := rfl
@[simp] theorem rate_setSupplyInput (r' : Ramp) (b : Bool) :
    (s.setSupplyInput b).rate r' = s.rate r' := rfl
@[simp] theorem rate_setPower (r' : Ramp) (x : Power) :
    (s.setPower x).rate r' = s.rate r' := rfl
@[simp] theorem rate_setResetLine (r' : Ramp) (b : Bool) :
    (s.setResetLine b).rate r' = s.rate r' := rfl
@[simp] theorem rate_setPending (r' : Ramp) (l : List Instr) :
    (s.setPending l).rate r' = s.rate r' := rfl

@[simp] theorem lamp_setPort (r' : Ramp) (ln' : LaneNo) (p : Port) (x : LinkPort) :
    (s.setPort p x).lamp r' ln' = s.lamp r' ln' := rfl
@[simp] theorem lamp_modPort (r' : Ramp) (ln' : LaneNo) (p : Port) (f : LinkPort → LinkPort) :
    (s.modPort p f).lamp r' ln' = s.lamp r' ln' := rfl
@[simp] theorem lamp_setSeq (r' : Ramp) (ln' : LaneNo) (r : Ramp) (q : Sequencer) :
    (s.setSeq r q).lamp r' ln' = s.lamp r' ln' := rfl
@[simp] theorem lamp_modSeq (r' : Ramp) (ln' : LaneNo) (r : Ramp) (f : Sequencer → Sequencer) :
    (s.modSeq r f).lamp r' ln' = s.lamp r' ln' := rfl
@[simp] theorem lamp_setList (r' : Ramp) (ln' : LaneNo) (r : Ramp) (l : PlanList) :
    (s.setList r l).lamp r' ln' = s.lamp r' ln' := rfl
@[simp] theorem lamp_setLoop (r' : Ramp) (ln' : LaneNo) (i : LoopNo) (l : Loop) :
    (s.setLoop i l).lamp r' ln' = s.lamp r' ln' := rfl
@[simp] theorem lamp_setMeas (r' : Ramp) (ln' : LaneNo) (r : Ramp) (m : RampMeasure) :
    (s.setMeas r m).lamp r' ln' = s.lamp r' ln' := rfl
@[simp] theorem lamp_setRate (r' : Ramp) (ln' : LaneNo) (r : Ramp) (m : RampRate) :
    (s.setRate r m).lamp r' ln' = s.lamp r' ln' := rfl
@[simp] theorem lamp_setButton (r' : Ramp) (ln' : LaneNo) (r : Ramp) (b : Button) :
    (s.setButton r b).lamp r' ln' = s.lamp r' ln' := rfl
@[simp] theorem lamp_setHoldFlag (r' : Ramp) (ln' : LaneNo) (r : Ramp) (b : Bool) :
    (s.setHoldFlag r b).lamp r' ln' = s.lamp r' ln' := rfl
@[simp] theorem lamp_setFaultDark (r' : Ramp) (ln' : LaneNo) (r : Ramp) (b : Bool) :
    (s.setFaultDark r b).lamp r' ln' = s.lamp r' ln' := rfl
@[simp] theorem lamp_setWasMetering (r' : Ramp) (ln' : LaneNo) (r : Ramp) (b : Bool) :
    (s.setWasMetering r b).lamp r' ln' = s.lamp r' ln' := rfl
@[simp] theorem lamp_setHolder (r' : Ramp) (ln' : LaneNo) (i : Fin 7) (h : Option Port) :
    (s.setHolder i h).lamp r' ln' = s.lamp r' ln' := rfl
@[simp] theorem lamp_setHealth (r' : Ramp) (ln' : LaneNo) (id : RecId) (h : Health) :
    (s.setHealth id h).lamp r' ln' = s.lamp r' ln' := rfl
@[simp] theorem lamp_setLoopRec (r' : Ramp) (ln' : LaneNo) (i : LoopNo) (x : LoopRec) :
    (s.setLoopRec i x).lamp r' ln' = s.lamp r' ln' := rfl
@[simp] theorem lamp_setPlan (r' : Ramp) (ln' : LaneNo) (k : PlanSlot) (x : Option Plan) :
    (s.setPlan k x).lamp r' ln' = s.lamp r' ln' := rfl
@[simp] theorem lamp_setScheduleRec (r' : Ramp) (ln' : LaneNo) (i : ScheduleSlot) (x : Option ScheduleRec) :
    (s.setScheduleRec i x).lamp r' ln' = s.lamp r' ln' := rfl
@[simp] theorem lamp_setShift (r' : Ramp) (ln' : LaneNo) (i : ShiftSlot) (x : Option ShiftRec) :
    (s.setShift i x).lamp r' ln' = s.lamp r' ln' := rfl
@[simp] theorem lamp_setSafety (r' : Ramp) (ln' : LaneNo) (x : SafetyRec) :
    (s.setSafety x).lamp r' ln' = s.lamp r' ln' := rfl
@[simp] theorem lamp_setCorridor (r' : Ramp) (ln' : LaneNo) (x : CorridorRec) :
    (s.setCorridor x).lamp r' ln' = s.lamp r' ln' := rfl
@[simp] theorem lamp_setClockTime (r' : Ramp) (ln' : LaneNo) (t : DateTime) :
    (s.setClockTime t).lamp r' ln' = s.lamp r' ln' := rfl
@[simp] theorem lamp_setIncident (r' : Ramp) (ln' : LaneNo) (x : Option IncidentRec) :
    (s.setIncident x).lamp r' ln' = s.lamp r' ln' := rfl
@[simp] theorem lamp_setCause (r' : Ramp) (ln' : LaneNo) (k : RestartKind) :
    (s.setCause k).lamp r' ln' = s.lamp r' ln' := rfl
@[simp] theorem lamp_setSupplyInput (r' : Ramp) (ln' : LaneNo) (b : Bool) :
    (s.setSupplyInput b).lamp r' ln' = s.lamp r' ln' := rfl
@[simp] theorem lamp_setPower (r' : Ramp) (ln' : LaneNo) (x : Power) :
    (s.setPower x).lamp r' ln' = s.lamp r' ln' := rfl
@[simp] theorem lamp_setResetLine (r' : Ramp) (ln' : LaneNo) (b : Bool) :
    (s.setResetLine b).lamp r' ln' = s.lamp r' ln' := rfl
@[simp] theorem lamp_setPending (r' : Ramp) (ln' : LaneNo) (l : List Instr) :
    (s.setPending l).lamp r' ln' = s.lamp r' ln' := rfl

@[simp] theorem button_setPort (r' : Ramp) (p : Port) (x : LinkPort) :
    (s.setPort p x).button r' = s.button r' := rfl
@[simp] theorem button_modPort (r' : Ramp) (p : Port) (f : LinkPort → LinkPort) :
    (s.modPort p f).button r' = s.button r' := rfl
@[simp] theorem button_setSeq (r' : Ramp) (r : Ramp) (q : Sequencer) :
    (s.setSeq r q).button r' = s.button r' := rfl
@[simp] theorem button_modSeq (r' : Ramp) (r : Ramp) (f : Sequencer → Sequencer) :
    (s.modSeq r f).button r' = s.button r' := rfl
@[simp] theorem button_setList (r' : Ramp) (r : Ramp) (l : PlanList) :
    (s.setList r l).button r' = s.button r' := rfl
@[simp] theorem button_setLoop (r' : Ramp) (i : LoopNo) (l : Loop) :
    (s.setLoop i l).button r' = s.button r' := rfl
@[simp] theorem button_setMeas (r' : Ramp) (r : Ramp) (m : RampMeasure) :
    (s.setMeas r m).button r' = s.button r' := rfl
@[simp] theorem button_setRate (r' : Ramp) (r : Ramp) (m : RampRate) :
    (s.setRate r m).button r' = s.button r' := rfl
@[simp] theorem button_setLamp (r' : Ramp) (r : Ramp) (ln : LaneNo) (m : LaneMonitor) :
    (s.setLamp r ln m).button r' = s.button r' := rfl
@[simp] theorem button_setHoldFlag (r' : Ramp) (r : Ramp) (b : Bool) :
    (s.setHoldFlag r b).button r' = s.button r' := rfl
@[simp] theorem button_setFaultDark (r' : Ramp) (r : Ramp) (b : Bool) :
    (s.setFaultDark r b).button r' = s.button r' := rfl
@[simp] theorem button_setWasMetering (r' : Ramp) (r : Ramp) (b : Bool) :
    (s.setWasMetering r b).button r' = s.button r' := rfl
@[simp] theorem button_setHolder (r' : Ramp) (i : Fin 7) (h : Option Port) :
    (s.setHolder i h).button r' = s.button r' := rfl
@[simp] theorem button_setHealth (r' : Ramp) (id : RecId) (h : Health) :
    (s.setHealth id h).button r' = s.button r' := rfl
@[simp] theorem button_setLoopRec (r' : Ramp) (i : LoopNo) (x : LoopRec) :
    (s.setLoopRec i x).button r' = s.button r' := rfl
@[simp] theorem button_setPlan (r' : Ramp) (k : PlanSlot) (x : Option Plan) :
    (s.setPlan k x).button r' = s.button r' := rfl
@[simp] theorem button_setScheduleRec (r' : Ramp) (i : ScheduleSlot) (x : Option ScheduleRec) :
    (s.setScheduleRec i x).button r' = s.button r' := rfl
@[simp] theorem button_setShift (r' : Ramp) (i : ShiftSlot) (x : Option ShiftRec) :
    (s.setShift i x).button r' = s.button r' := rfl
@[simp] theorem button_setSafety (r' : Ramp) (x : SafetyRec) :
    (s.setSafety x).button r' = s.button r' := rfl
@[simp] theorem button_setCorridor (r' : Ramp) (x : CorridorRec) :
    (s.setCorridor x).button r' = s.button r' := rfl
@[simp] theorem button_setClockTime (r' : Ramp) (t : DateTime) :
    (s.setClockTime t).button r' = s.button r' := rfl
@[simp] theorem button_setIncident (r' : Ramp) (x : Option IncidentRec) :
    (s.setIncident x).button r' = s.button r' := rfl
@[simp] theorem button_setCause (r' : Ramp) (k : RestartKind) :
    (s.setCause k).button r' = s.button r' := rfl
@[simp] theorem button_setSupplyInput (r' : Ramp) (b : Bool) :
    (s.setSupplyInput b).button r' = s.button r' := rfl
@[simp] theorem button_setPower (r' : Ramp) (x : Power) :
    (s.setPower x).button r' = s.button r' := rfl
@[simp] theorem button_setResetLine (r' : Ramp) (b : Bool) :
    (s.setResetLine b).button r' = s.button r' := rfl
@[simp] theorem button_setPending (r' : Ramp) (l : List Instr) :
    (s.setPending l).button r' = s.button r' := rfl

@[simp] theorem port_setSeq (p' : Port) (r : Ramp) (q : Sequencer) :
    (s.setSeq r q).port p' = s.port p' := rfl
@[simp] theorem port_modSeq (p' : Port) (r : Ramp) (f : Sequencer → Sequencer) :
    (s.modSeq r f).port p' = s.port p' := rfl
@[simp] theorem port_setList (p' : Port) (r : Ramp) (l : PlanList) :
    (s.setList r l).port p' = s.port p' := rfl
@[simp] theorem port_setLoop (p' : Port) (i : LoopNo) (l : Loop) :
    (s.setLoop i l).port p' = s.port p' := rfl
@[simp] theorem port_setMeas (p' : Port) (r : Ramp) (m : RampMeasure) :
    (s.setMeas r m).port p' = s.port p' := rfl
@[simp] theorem port_setRate (p' : Port) (r : Ramp) (m : RampRate) :
    (s.setRate r m).port p' = s.port p' := rfl
@[simp] theorem port_setLamp (p' : Port) (r : Ramp) (ln : LaneNo) (m : LaneMonitor) :
    (s.setLamp r ln m).port p' = s.port p' := rfl
@[simp] theorem port_setButton (p' : Port) (r : Ramp) (b : Button) :
    (s.setButton r b).port p' = s.port p' := rfl
@[simp] theorem port_setHoldFlag (p' : Port) (r : Ramp) (b : Bool) :
    (s.setHoldFlag r b).port p' = s.port p' := rfl
@[simp] theorem port_setFaultDark (p' : Port) (r : Ramp) (b : Bool) :
    (s.setFaultDark r b).port p' = s.port p' := rfl
@[simp] theorem port_setWasMetering (p' : Port) (r : Ramp) (b : Bool) :
    (s.setWasMetering r b).port p' = s.port p' := rfl
@[simp] theorem port_setHolder (p' : Port) (i : Fin 7) (h : Option Port) :
    (s.setHolder i h).port p' = s.port p' := rfl
@[simp] theorem port_setHealth (p' : Port) (id : RecId) (h : Health) :
    (s.setHealth id h).port p' = s.port p' := rfl
@[simp] theorem port_setLoopRec (p' : Port) (i : LoopNo) (x : LoopRec) :
    (s.setLoopRec i x).port p' = s.port p' := rfl
@[simp] theorem port_setPlan (p' : Port) (k : PlanSlot) (x : Option Plan) :
    (s.setPlan k x).port p' = s.port p' := rfl
@[simp] theorem port_setScheduleRec (p' : Port) (i : ScheduleSlot) (x : Option ScheduleRec) :
    (s.setScheduleRec i x).port p' = s.port p' := rfl
@[simp] theorem port_setShift (p' : Port) (i : ShiftSlot) (x : Option ShiftRec) :
    (s.setShift i x).port p' = s.port p' := rfl
@[simp] theorem port_setSafety (p' : Port) (x : SafetyRec) :
    (s.setSafety x).port p' = s.port p' := rfl
@[simp] theorem port_setCorridor (p' : Port) (x : CorridorRec) :
    (s.setCorridor x).port p' = s.port p' := rfl
@[simp] theorem port_setClockTime (p' : Port) (t : DateTime) :
    (s.setClockTime t).port p' = s.port p' := rfl
@[simp] theorem port_setIncident (p' : Port) (x : Option IncidentRec) :
    (s.setIncident x).port p' = s.port p' := rfl
@[simp] theorem port_setCause (p' : Port) (k : RestartKind) :
    (s.setCause k).port p' = s.port p' := rfl
@[simp] theorem port_setSupplyInput (p' : Port) (b : Bool) :
    (s.setSupplyInput b).port p' = s.port p' := rfl
@[simp] theorem port_setPower (p' : Port) (x : Power) :
    (s.setPower x).port p' = s.port p' := rfl
@[simp] theorem port_setResetLine (p' : Port) (b : Bool) :
    (s.setResetLine b).port p' = s.port p' := rfl
@[simp] theorem port_setPending (p' : Port) (l : List Instr) :
    (s.setPending l).port p' = s.port p' := rfl

@[simp] theorem holder_setPort (i' : Fin 7) (p : Port) (x : LinkPort) :
    (s.setPort p x).holder i' = s.holder i' := rfl
@[simp] theorem holder_modPort (i' : Fin 7) (p : Port) (f : LinkPort → LinkPort) :
    (s.modPort p f).holder i' = s.holder i' := rfl
@[simp] theorem holder_setSeq (i' : Fin 7) (r : Ramp) (q : Sequencer) :
    (s.setSeq r q).holder i' = s.holder i' := rfl
@[simp] theorem holder_modSeq (i' : Fin 7) (r : Ramp) (f : Sequencer → Sequencer) :
    (s.modSeq r f).holder i' = s.holder i' := rfl
@[simp] theorem holder_setList (i' : Fin 7) (r : Ramp) (l : PlanList) :
    (s.setList r l).holder i' = s.holder i' := rfl
@[simp] theorem holder_setLoop (i' : Fin 7) (i : LoopNo) (l : Loop) :
    (s.setLoop i l).holder i' = s.holder i' := rfl
@[simp] theorem holder_setMeas (i' : Fin 7) (r : Ramp) (m : RampMeasure) :
    (s.setMeas r m).holder i' = s.holder i' := rfl
@[simp] theorem holder_setRate (i' : Fin 7) (r : Ramp) (m : RampRate) :
    (s.setRate r m).holder i' = s.holder i' := rfl
@[simp] theorem holder_setLamp (i' : Fin 7) (r : Ramp) (ln : LaneNo) (m : LaneMonitor) :
    (s.setLamp r ln m).holder i' = s.holder i' := rfl
@[simp] theorem holder_setButton (i' : Fin 7) (r : Ramp) (b : Button) :
    (s.setButton r b).holder i' = s.holder i' := rfl
@[simp] theorem holder_setHoldFlag (i' : Fin 7) (r : Ramp) (b : Bool) :
    (s.setHoldFlag r b).holder i' = s.holder i' := rfl
@[simp] theorem holder_setFaultDark (i' : Fin 7) (r : Ramp) (b : Bool) :
    (s.setFaultDark r b).holder i' = s.holder i' := rfl
@[simp] theorem holder_setWasMetering (i' : Fin 7) (r : Ramp) (b : Bool) :
    (s.setWasMetering r b).holder i' = s.holder i' := rfl
@[simp] theorem holder_setHealth (i' : Fin 7) (id : RecId) (h : Health) :
    (s.setHealth id h).holder i' = s.holder i' := rfl
@[simp] theorem holder_setLoopRec (i' : Fin 7) (i : LoopNo) (x : LoopRec) :
    (s.setLoopRec i x).holder i' = s.holder i' := rfl
@[simp] theorem holder_setPlan (i' : Fin 7) (k : PlanSlot) (x : Option Plan) :
    (s.setPlan k x).holder i' = s.holder i' := rfl
@[simp] theorem holder_setScheduleRec (i' : Fin 7) (i : ScheduleSlot) (x : Option ScheduleRec) :
    (s.setScheduleRec i x).holder i' = s.holder i' := rfl
@[simp] theorem holder_setShift (i' : Fin 7) (i : ShiftSlot) (x : Option ShiftRec) :
    (s.setShift i x).holder i' = s.holder i' := rfl
@[simp] theorem holder_setSafety (i' : Fin 7) (x : SafetyRec) :
    (s.setSafety x).holder i' = s.holder i' := rfl
@[simp] theorem holder_setCorridor (i' : Fin 7) (x : CorridorRec) :
    (s.setCorridor x).holder i' = s.holder i' := rfl
@[simp] theorem holder_setClockTime (i' : Fin 7) (t : DateTime) :
    (s.setClockTime t).holder i' = s.holder i' := rfl
@[simp] theorem holder_setIncident (i' : Fin 7) (x : Option IncidentRec) :
    (s.setIncident x).holder i' = s.holder i' := rfl
@[simp] theorem holder_setCause (i' : Fin 7) (k : RestartKind) :
    (s.setCause k).holder i' = s.holder i' := rfl
@[simp] theorem holder_setSupplyInput (i' : Fin 7) (b : Bool) :
    (s.setSupplyInput b).holder i' = s.holder i' := rfl
@[simp] theorem holder_setPower (i' : Fin 7) (x : Power) :
    (s.setPower x).holder i' = s.holder i' := rfl
@[simp] theorem holder_setResetLine (i' : Fin 7) (b : Bool) :
    (s.setResetLine b).holder i' = s.holder i' := rfl
@[simp] theorem holder_setPending (i' : Fin 7) (l : List Instr) :
    (s.setPending l).holder i' = s.holder i' := rfl

@[simp] theorem commanded_setPort (r' : Ramp) (ln' : LaneNo) (p : Port) (x : LinkPort) :
    (s.setPort p x).commanded r' ln' = s.commanded r' ln' := rfl
@[simp] theorem commanded_modPort (r' : Ramp) (ln' : LaneNo) (p : Port) (f : LinkPort → LinkPort) :
    (s.modPort p f).commanded r' ln' = s.commanded r' ln' := rfl
@[simp] theorem commanded_setList (r' : Ramp) (ln' : LaneNo) (r : Ramp) (l : PlanList) :
    (s.setList r l).commanded r' ln' = s.commanded r' ln' := rfl
@[simp] theorem commanded_setLoop (r' : Ramp) (ln' : LaneNo) (i : LoopNo) (l : Loop) :
    (s.setLoop i l).commanded r' ln' = s.commanded r' ln' := rfl
@[simp] theorem commanded_setMeas (r' : Ramp) (ln' : LaneNo) (r : Ramp) (m : RampMeasure) :
    (s.setMeas r m).commanded r' ln' = s.commanded r' ln' := rfl
@[simp] theorem commanded_setRate (r' : Ramp) (ln' : LaneNo) (r : Ramp) (m : RampRate) :
    (s.setRate r m).commanded r' ln' = s.commanded r' ln' := rfl
@[simp] theorem commanded_setLamp (r' : Ramp) (ln' : LaneNo) (r : Ramp) (ln : LaneNo) (m : LaneMonitor) :
    (s.setLamp r ln m).commanded r' ln' = s.commanded r' ln' := rfl
@[simp] theorem commanded_setButton (r' : Ramp) (ln' : LaneNo) (r : Ramp) (b : Button) :
    (s.setButton r b).commanded r' ln' = s.commanded r' ln' := rfl
@[simp] theorem commanded_setHoldFlag (r' : Ramp) (ln' : LaneNo) (r : Ramp) (b : Bool) :
    (s.setHoldFlag r b).commanded r' ln' = s.commanded r' ln' := rfl
@[simp] theorem commanded_setFaultDark (r' : Ramp) (ln' : LaneNo) (r : Ramp) (b : Bool) :
    (s.setFaultDark r b).commanded r' ln' = s.commanded r' ln' := rfl
@[simp] theorem commanded_setWasMetering (r' : Ramp) (ln' : LaneNo) (r : Ramp) (b : Bool) :
    (s.setWasMetering r b).commanded r' ln' = s.commanded r' ln' := rfl
@[simp] theorem commanded_setHolder (r' : Ramp) (ln' : LaneNo) (i : Fin 7) (h : Option Port) :
    (s.setHolder i h).commanded r' ln' = s.commanded r' ln' := rfl
@[simp] theorem commanded_setHealth (r' : Ramp) (ln' : LaneNo) (id : RecId) (h : Health) :
    (s.setHealth id h).commanded r' ln' = s.commanded r' ln' := rfl
@[simp] theorem commanded_setLoopRec (r' : Ramp) (ln' : LaneNo) (i : LoopNo) (x : LoopRec) :
    (s.setLoopRec i x).commanded r' ln' = s.commanded r' ln' := rfl
@[simp] theorem commanded_setPlan (r' : Ramp) (ln' : LaneNo) (k : PlanSlot) (x : Option Plan) :
    (s.setPlan k x).commanded r' ln' = s.commanded r' ln' := rfl
@[simp] theorem commanded_setScheduleRec (r' : Ramp) (ln' : LaneNo) (i : ScheduleSlot) (x : Option ScheduleRec) :
    (s.setScheduleRec i x).commanded r' ln' = s.commanded r' ln' := rfl
@[simp] theorem commanded_setShift (r' : Ramp) (ln' : LaneNo) (i : ShiftSlot) (x : Option ShiftRec) :
    (s.setShift i x).commanded r' ln' = s.commanded r' ln' := rfl
@[simp] theorem commanded_setSafety (r' : Ramp) (ln' : LaneNo) (x : SafetyRec) :
    (s.setSafety x).commanded r' ln' = s.commanded r' ln' := rfl
@[simp] theorem commanded_setCorridor (r' : Ramp) (ln' : LaneNo) (x : CorridorRec) :
    (s.setCorridor x).commanded r' ln' = s.commanded r' ln' := rfl
@[simp] theorem commanded_setClockTime (r' : Ramp) (ln' : LaneNo) (t : DateTime) :
    (s.setClockTime t).commanded r' ln' = s.commanded r' ln' := rfl
@[simp] theorem commanded_setIncident (r' : Ramp) (ln' : LaneNo) (x : Option IncidentRec) :
    (s.setIncident x).commanded r' ln' = s.commanded r' ln' := rfl
@[simp] theorem commanded_setCause (r' : Ramp) (ln' : LaneNo) (k : RestartKind) :
    (s.setCause k).commanded r' ln' = s.commanded r' ln' := rfl
@[simp] theorem commanded_setSupplyInput (r' : Ramp) (ln' : LaneNo) (b : Bool) :
    (s.setSupplyInput b).commanded r' ln' = s.commanded r' ln' := rfl
@[simp] theorem commanded_setPower (r' : Ramp) (ln' : LaneNo) (x : Power) :
    (s.setPower x).commanded r' ln' = s.commanded r' ln' := rfl
@[simp] theorem commanded_setResetLine (r' : Ramp) (ln' : LaneNo) (b : Bool) :
    (s.setResetLine b).commanded r' ln' = s.commanded r' ln' := rfl
@[simp] theorem commanded_setPending (r' : Ramp) (ln' : LaneNo) (l : List Instr) :
    (s.setPending l).commanded r' ln' = s.commanded r' ln' := rfl

@[simp] theorem loopRec_setPort (i' : LoopNo) (p : Port) (x : LinkPort) :
    (s.setPort p x).loopRec i' = s.loopRec i' := rfl
@[simp] theorem loopRec_modPort (i' : LoopNo) (p : Port) (f : LinkPort → LinkPort) :
    (s.modPort p f).loopRec i' = s.loopRec i' := rfl
@[simp] theorem loopRec_setSeq (i' : LoopNo) (r : Ramp) (q : Sequencer) :
    (s.setSeq r q).loopRec i' = s.loopRec i' := rfl
@[simp] theorem loopRec_modSeq (i' : LoopNo) (r : Ramp) (f : Sequencer → Sequencer) :
    (s.modSeq r f).loopRec i' = s.loopRec i' := rfl
@[simp] theorem loopRec_setList (i' : LoopNo) (r : Ramp) (l : PlanList) :
    (s.setList r l).loopRec i' = s.loopRec i' := rfl
@[simp] theorem loopRec_setLoop (i' : LoopNo) (i : LoopNo) (l : Loop) :
    (s.setLoop i l).loopRec i' = s.loopRec i' := rfl
@[simp] theorem loopRec_setMeas (i' : LoopNo) (r : Ramp) (m : RampMeasure) :
    (s.setMeas r m).loopRec i' = s.loopRec i' := rfl
@[simp] theorem loopRec_setRate (i' : LoopNo) (r : Ramp) (m : RampRate) :
    (s.setRate r m).loopRec i' = s.loopRec i' := rfl
@[simp] theorem loopRec_setLamp (i' : LoopNo) (r : Ramp) (ln : LaneNo) (m : LaneMonitor) :
    (s.setLamp r ln m).loopRec i' = s.loopRec i' := rfl
@[simp] theorem loopRec_setButton (i' : LoopNo) (r : Ramp) (b : Button) :
    (s.setButton r b).loopRec i' = s.loopRec i' := rfl
@[simp] theorem loopRec_setHoldFlag (i' : LoopNo) (r : Ramp) (b : Bool) :
    (s.setHoldFlag r b).loopRec i' = s.loopRec i' := rfl
@[simp] theorem loopRec_setFaultDark (i' : LoopNo) (r : Ramp) (b : Bool) :
    (s.setFaultDark r b).loopRec i' = s.loopRec i' := rfl
@[simp] theorem loopRec_setWasMetering (i' : LoopNo) (r : Ramp) (b : Bool) :
    (s.setWasMetering r b).loopRec i' = s.loopRec i' := rfl
@[simp] theorem loopRec_setHolder (i' : LoopNo) (i : Fin 7) (h : Option Port) :
    (s.setHolder i h).loopRec i' = s.loopRec i' := rfl
@[simp] theorem loopRec_setHealth (i' : LoopNo) (id : RecId) (h : Health) :
    (s.setHealth id h).loopRec i' = s.loopRec i' := rfl
@[simp] theorem loopRec_setPlan (i' : LoopNo) (k : PlanSlot) (x : Option Plan) :
    (s.setPlan k x).loopRec i' = s.loopRec i' := rfl
@[simp] theorem loopRec_setScheduleRec (i' : LoopNo) (i : ScheduleSlot) (x : Option ScheduleRec) :
    (s.setScheduleRec i x).loopRec i' = s.loopRec i' := rfl
@[simp] theorem loopRec_setShift (i' : LoopNo) (i : ShiftSlot) (x : Option ShiftRec) :
    (s.setShift i x).loopRec i' = s.loopRec i' := rfl
@[simp] theorem loopRec_setSafety (i' : LoopNo) (x : SafetyRec) :
    (s.setSafety x).loopRec i' = s.loopRec i' := rfl
@[simp] theorem loopRec_setCorridor (i' : LoopNo) (x : CorridorRec) :
    (s.setCorridor x).loopRec i' = s.loopRec i' := rfl
@[simp] theorem loopRec_setClockTime (i' : LoopNo) (t : DateTime) :
    (s.setClockTime t).loopRec i' = s.loopRec i' := rfl
@[simp] theorem loopRec_setIncident (i' : LoopNo) (x : Option IncidentRec) :
    (s.setIncident x).loopRec i' = s.loopRec i' := rfl
@[simp] theorem loopRec_setCause (i' : LoopNo) (k : RestartKind) :
    (s.setCause k).loopRec i' = s.loopRec i' := rfl
@[simp] theorem loopRec_setSupplyInput (i' : LoopNo) (b : Bool) :
    (s.setSupplyInput b).loopRec i' = s.loopRec i' := rfl
@[simp] theorem loopRec_setPower (i' : LoopNo) (x : Power) :
    (s.setPower x).loopRec i' = s.loopRec i' := rfl
@[simp] theorem loopRec_setResetLine (i' : LoopNo) (b : Bool) :
    (s.setResetLine b).loopRec i' = s.loopRec i' := rfl
@[simp] theorem loopRec_setPending (i' : LoopNo) (l : List Instr) :
    (s.setPending l).loopRec i' = s.loopRec i' := rfl

end Sys2Proof.Machine.State
end

