-- ==== Sys2Proof/Laws/Keeps.lean ====
section
/-! SUPPORT. `kept` under the shared operations: events, memory uses, authority, lists and sequencers. -/

namespace Sys2Proof.Machine.State

variable (s : State)

/-! ### Doing something for each of a list -/

/-- What holds before and is kept by each turn holds after all turns. -/
theorem each_induct {α : Type} {P : State → Prop} (xs : List α) (f : α → State → State) {s : State} (h : P s)
    (step : ∀ x t, P t → P (f x t)) : P (s.each xs f) := by
  unfold each
  induction xs generalizing s with
  | nil => exact h
  | cons x xs ih => exact ih (step x s h)

/-- A projection that no turn changes is not changed. -/
theorem each_proj {α β : Type} (g : State → β) (xs : List α) (f : α → State → State) (s : State)
    (step : ∀ x t, g (f x t) = g t) : g (s.each xs f) = g s :=
  each_induct (P := fun t => g t = g s) xs f rfl fun x t h => (step x t).trans h

/-! ### Updates -/

@[simp] theorem kept_setPort (p : Port) (x : LinkPort) : (s.setPort p x).kept = s.kept := rfl
@[simp] theorem kept_modPort (p : Port) (f : LinkPort → LinkPort) : (s.modPort p f).kept = s.kept := rfl
@[simp] theorem kept_setSeq (r : Ramp) (q : Sequencer) : (s.setSeq r q).kept = s.kept := rfl
@[simp] theorem kept_modSeq (r : Ramp) (f : Sequencer → Sequencer) : (s.modSeq r f).kept = s.kept := rfl
@[simp] theorem kept_setList (r : Ramp) (l : PlanList) : (s.setList r l).kept = s.kept := rfl
@[simp] theorem kept_setMeas (r : Ramp) (m : RampMeasure) : (s.setMeas r m).kept = s.kept := rfl
@[simp] theorem kept_setRate (r : Ramp) (m : RampRate) : (s.setRate r m).kept = s.kept := rfl
@[simp] theorem kept_setLamp (r : Ramp) (ln : LaneNo) (m : LaneMonitor) : (s.setLamp r ln m).kept = s.kept := rfl
@[simp] theorem kept_setFaultDark (r : Ramp) (b : Bool) : (s.setFaultDark r b).kept = s.kept := rfl
@[simp] theorem kept_setWasMetering (r : Ramp) (b : Bool) : (s.setWasMetering r b).kept = s.kept := rfl
@[simp] theorem kept_setHolder (i : Fin 7) (h : Option Port) : (s.setHolder i h).kept = s.kept := rfl
@[simp] theorem kept_setHealth (id : RecId) (h : Health) : (s.setHealth id h).kept = s.kept := rfl

/-! ### Events (R188, R189) -/

@[simp] theorem kept_deliver (c : EventClass) (p : Port) : (s.deliver c p).kept = s.kept := rfl

@[simp] theorem kept_raise (c : EventClass) : (s.raise c).kept = s.kept :=
  each_proj kept _ _ s fun p t => by split <;> rfl

@[simp] theorem kept_raiseIf (b : Bool) (c : EventClass) : (s.raiseIf b c).kept = s.kept := by
  unfold raiseIf; split <;> simp

/-! ### Uses of stored records (R159, R160) -/

@[simp] theorem kept_correct (id : RecId) : (s.correct id).kept = s.kept := rfl

@[simp] theorem kept_discover (id : RecId) : (s.discover id).kept = s.kept := by
  unfold discover; simp only [kept_raise]; split <;> rfl

@[simp] theorem kept_useRecord (id : RecId) : (s.useRecord id).kept = s.kept := by
  unfold useRecord
  split
  · split
    · rfl
    · simp
    · split <;> simp
  · rfl

/-! ### Authority (8.1 to 8.3) -/

@[simp] theorem kept_giveUp (p : Port) (i : Fin 7) : (s.giveUp p i).kept = s.kept := by
  unfold giveUp; split <;> simp

@[simp] theorem kept_becomeSilent (p : Port) : (s.becomeSilent p).kept = s.kept := by
  unfold becomeSilent
  dsimp only
  split <;> simp [each_proj kept]

@[simp] theorem kept_takeLapse (b : Bool) (n : Nat) (p : Port) : (s.takeLapse b n p).kept = s.kept := by
  unfold takeLapse; dsimp only; split <;> simp

@[simp] theorem kept_handCorridor (x : Option Port) (cs : CorridorRec) :
    (s.handCorridor x cs).kept = s.kept := by
  unfold handCorridor
  rw [each_proj kept _ _ _ fun p t => kept_takeLapse t _ _ p]
  rfl

@[simp] theorem kept_takeCorridor : s.takeCorridor.kept = s.kept := by unfold takeCorridor; simp

@[simp] theorem kept_regain (p : Port) (i : Fin 7) : (s.regain p i).kept = s.kept := by
  unfold regain; split <;> simp

/-! ### Lists (4.4) -/

@[simp] theorem kept_placeFallback (r : Ramp) (n : PlanRef) : (s.placeFallback r n).kept = s.kept := by
  unfold placeFallback; simp

@[simp] theorem kept_removeFallback (r : Ramp) : (s.removeFallback r).kept = s.kept := by
  unfold removeFallback; simp

@[simp] theorem kept_fallbackTest (r : Ramp) : (s.fallbackTest r).kept = s.kept := by
  unfold fallbackTest
  split
  · simp
  · dsimp only; split <;> simp

/-! ### Sequencers (chapter 6) -/

@[simp] theorem kept_handLane (r : Ramp) (ln : LaneNo) (st : LaneState) : (s.handLane r ln st).kept = s.kept := by
  unfold handLane; dsimp only; split <;> simp

@[simp] theorem kept_handLanes (r : Ramp) (st : LaneState) : (s.handLanes r st).kept = s.kept :=
  each_proj kept _ _ s fun ln t => by simp

@[simp] theorem kept_darkLanes (r : Ramp) : (s.darkLanes r).kept = s.kept :=
  each_proj kept _ _ s fun ln t => by simp

@[simp] theorem kept_setRampState (r : Ramp) (st : RampState) : (s.setRampState r st).kept = s.kept := by
  unfold setRampState
  simp only [kept_raise]
  split <;> split <;> rfl

@[simp] theorem kept_goDark (r : Ramp) (st : RampState) : (s.goDark r st).kept = s.kept := by unfold goDark; simp

@[simp] theorem kept_warningEntry (r : Ramp) : (s.warningEntry r).kept = s.kept := by unfold warningEntry; simp

@[simp] theorem kept_endingEntry (r : Ramp) : (s.endingEntry r).kept = s.kept := by unfold endingEntry; simp

@[simp] theorem kept_offSettled (r : Ramp) : (s.offSettled r).kept = s.kept := by
  unfold offSettled; dsimp only; split <;> split <;> simp

@[simp] theorem kept_offFollowed (r : Ramp) : (s.offFollowed r).kept = s.kept := by
  unfold offFollowed; split <;> simp

@[simp] theorem kept_report (r : Ramp) : (s.report r).kept = s.kept := by
  unfold report; dsimp only; split
  · split <;> simp
  · simp
  · split <;> simp
  · split <;> simp
  · split
    · simp
    · split <;> simp
  · simp

@[simp] theorem kept_reports : s.reports.kept = s.kept := each_proj kept _ _ s fun r t => by simp

@[simp] theorem kept_useCorridor : s.useCorridor.kept = s.kept := by unfold useCorridor; simp

@[simp] theorem kept_enterWarning (r : Ramp) : (s.enterWarning r).kept = s.kept := by unfold enterWarning; simp

@[simp] theorem kept_enterEnding (r : Ramp) : (s.enterEnding r).kept = s.kept := by unfold enterEnding; simp

@[simp] theorem kept_reachOff (r : Ramp) : (s.reachOff r).kept = s.kept := by
  unfold reachOff; dsimp only; split <;> simp

@[simp] theorem kept_readTopPlan (r : Ramp) : (s.readTopPlan r).1.kept = s.kept := by
  unfold readTopPlan
  split
  · dsimp only
    split
    · simp
    · split <;> simp
  · rfl

@[simp] theorem kept_takeRedMinimum (r : Ramp) (n : Nat) : (s.takeRedMinimum r n).kept = s.kept := rfl

@[simp] theorem kept_reckonTiming (r : Ramp) (rate : Plan → Nat) : (s.reckonTiming r rate).1.kept = s.kept := by
  unfold reckonTiming; simp

@[simp] theorem kept_enterMetering (r : Ramp) (b : Bool) : (s.enterMetering r b).kept = s.kept := by
  unfold enterMetering startTiming prepareMetering; simp

@[simp] theorem kept_changeTiming (r : Ramp) : (s.changeTiming r).kept = s.kept := by
  unfold changeTiming; simp

@[simp] theorem kept_giveSlot (r : Ramp) (ln : LaneNo) : (s.giveSlot r ln).kept = s.kept := by
  unfold giveSlot; dsimp only; split <;> simp

@[simp] theorem kept_offerSlot (r : Ramp) : (s.offerSlot r).kept = s.kept := by
  unfold offerSlot; split <;> simp

@[simp] theorem kept_judgeHeld (r : Ramp) : (s.judgeHeld r).kept = s.kept := by
  unfold judgeHeld; split <;> simp

@[simp] theorem kept_handDemand (r : Ramp) : (s.handDemand r).kept = s.kept := by
  unfold handDemand; dsimp only
  split
  · split <;> simp
  · simp
  · split <;> simp
  · simp
  · simp
  · rfl

@[simp] theorem kept_changeList (r : Ramp) (l : PlanList) : (s.changeList r l).kept = s.kept := by
  unfold changeList; dsimp only
  split <;> split <;> simp

@[simp] theorem kept_darken (r : Ramp) : (s.darken r).kept = s.kept := by
  unfold darken; split <;> simp

@[simp] theorem kept_forceOff (r : Ramp) : (s.forceOff r).kept = s.kept := by
  unfold forceOff; split <;> simp

@[simp] theorem kept_warningTimerExpiry (r : Ramp) : (s.warningTimerExpiry r).kept = s.kept := by
  unfold warningTimerExpiry; split <;> simp

@[simp] theorem kept_clearanceTimerExpiry (r : Ramp) : (s.clearanceTimerExpiry r).kept = s.kept := by
  unfold clearanceTimerExpiry; split <;> simp

@[simp] theorem kept_slotExpiry (r : Ramp) : (s.slotExpiry r).kept = s.kept := by
  unfold slotExpiry; split <;> simp

@[simp] theorem kept_greenEnd (r : Ramp) (ln : LaneNo) : (s.greenEnd r ln).kept = s.kept := by
  unfold greenEnd
  split
  · dsimp only; split <;> simp
  · rfl

@[simp] theorem kept_redMinimumReached (r : Ramp) (ln : LaneNo) : (s.redMinimumReached r ln).kept = s.kept := by
  unfold redMinimumReached; split <;> simp

@[simp] theorem kept_signPhaseChange (r : Ramp) : (s.signPhaseChange r).kept = s.kept := by
  unfold signPhaseChange
  split
  · split <;> simp
  · rfl

end Sys2Proof.Machine.State
end

