-- ==== Sys2Proof/Laws/Calm.lean ====
section
/-! SUPPORT. The operations on lists, sequencers and lamps leave the link ports, the Holders and the damage of records alone, where
no Lapse Time in force changes. -/

namespace Sys2Proof.Machine.State

variable {s t u : State}

theorem Calm.refl (s : State) : s.Calm s := ⟨rfl, rfl, fun _ => rfl⟩

theorem Calm.trans (h : s.Calm t) (g : t.Calm u) : s.Calm u :=
  ⟨g.kept.trans h.kept, g.links.trans h.links, fun id => (g.damaged id).trans (h.damaged id)⟩

theorem Calm.ite {p : Prop} [Decidable p] (h : s.Calm t) (g : s.Calm u) : s.Calm (if p then t else u) := by
  split
  · exact h
  · exact g

theorem Calm.each {α : Type} (xs : List α) (f : α → State → State) (s : State) (step : ∀ x t, Calm t (f x t)) :
    s.Calm (s.each xs f) :=
  each_induct (P := fun t => s.Calm t) xs f (.refl s) fun x _ h => h.trans (step x _)

/-- The stored corridor settings are kept. -/
theorem corridor_of_kept (h : t.kept = s.kept) : t.memory.corridor = s.memory.corridor := by
  have := congrArg (fun x : State => x.memory.corridor) h
  exact this

theorem plans_of_kept (h : t.kept = s.kept) : t.memory.plans = s.memory.plans := by
  have := congrArg (fun x : State => x.memory.plans) h
  exact this

theorem safety_of_kept (h : t.kept = s.kept) : t.memory.safety = s.memory.safety := by
  have := congrArg (fun x : State => x.memory.safety) h
  exact this

theorem supply_of_kept (h : t.kept = s.kept) : t.supply = s.supply := by
  have := congrArg (fun x : State => x.supply) h
  exact this

theorem Calm.corridorInUse (h : s.Calm t) : t.corridorInUse = s.corridorInUse := by
  unfold State.corridorInUse; rw [h.damaged, corridor_of_kept h.kept]

theorem Calm.safetyInUse (h : s.Calm t) : t.safetyInUse = s.safetyInUse := by
  unfold State.safetyInUse; rw [h.damaged, safety_of_kept h.kept]

theorem Calm.readablePlan (h : s.Calm t) (k : PlanSlot) : t.readablePlan k = s.readablePlan k := by
  unfold State.readablePlan; rw [h.damaged, plans_of_kept h.kept]

/-- A port but for the events other than AUTHORITY that are pending there. -/
theorem Calm.port (h : s.Calm t) (p : Port) : (t.port p).settled = (s.port p).settled := by
  have e := congrArg (fun x => x.1.get (portIdx p)) h.links
  simp only [State.links, Tab.get_map] at e
  exact e

theorem settled_receiver (x : LinkPort) : x.settled.receiver = x.receiver := rfl
theorem settled_current (x : LinkPort) : x.settled.current = x.current := rfl
theorem settled_waiting (x : LinkPort) : x.settled.waiting = x.waiting := rfl
theorem settled_answers (x : LinkPort) : x.settled.answers = x.answers := rfl
theorem settled_baud (x : LinkPort) : x.settled.baud = x.baud := rfl
theorem settled_silent (x : LinkPort) : x.settled.silent = x.silent := rfl
theorem settled_silenceSeconds (x : LinkPort) : x.settled.silenceSeconds = x.silenceSeconds := rfl
theorem settled_silencePart (x : LinkPort) : x.settled.silencePart = x.silencePart := rfl
theorem settled_lapseTime (x : LinkPort) : x.settled.lapseTime = x.lapseTime := rfl
theorem settled_spared (x : LinkPort) : x.settled.spared = x.spared := rfl

theorem Calm.receiver (h : s.Calm t) (p : Port) : (t.port p).receiver = (s.port p).receiver := by
  have e := congrArg LinkPort.receiver (h.port p)
  simp only [settled_receiver] at e
  exact e

theorem Calm.current (h : s.Calm t) (p : Port) : (t.port p).current = (s.port p).current := by
  have e := congrArg LinkPort.current (h.port p)
  simp only [settled_current] at e
  exact e

theorem Calm.waiting (h : s.Calm t) (p : Port) : (t.port p).waiting = (s.port p).waiting := by
  have e := congrArg LinkPort.waiting (h.port p)
  simp only [settled_waiting] at e
  exact e

theorem Calm.answers (h : s.Calm t) (p : Port) : (t.port p).answers = (s.port p).answers := by
  have e := congrArg LinkPort.answers (h.port p)
  simp only [settled_answers] at e
  exact e

theorem Calm.baud (h : s.Calm t) (p : Port) : (t.port p).baud = (s.port p).baud := by
  have e := congrArg LinkPort.baud (h.port p)
  simp only [settled_baud] at e
  exact e

theorem Calm.silent (h : s.Calm t) (p : Port) : (t.port p).silent = (s.port p).silent := by
  have e := congrArg LinkPort.silent (h.port p)
  simp only [settled_silent] at e
  exact e

theorem Calm.silenceSeconds (h : s.Calm t) (p : Port) : (t.port p).silenceSeconds = (s.port p).silenceSeconds := by
  have e := congrArg LinkPort.silenceSeconds (h.port p)
  simp only [settled_silenceSeconds] at e
  exact e

theorem Calm.silencePart (h : s.Calm t) (p : Port) : (t.port p).silencePart = (s.port p).silencePart := by
  have e := congrArg LinkPort.silencePart (h.port p)
  simp only [settled_silencePart] at e
  exact e

theorem Calm.lapseTime (h : s.Calm t) (p : Port) : (t.port p).lapseTime = (s.port p).lapseTime := by
  have e := congrArg LinkPort.lapseTime (h.port p)
  simp only [settled_lapseTime] at e
  exact e

theorem Calm.spared (h : s.Calm t) (p : Port) : (t.port p).spared = (s.port p).spared := by
  have e := congrArg LinkPort.spared (h.port p)
  simp only [settled_spared] at e
  exact e

theorem Calm.holder (h : s.Calm t) (i : Fin 7) : t.holder i = s.holder i := by
  have := congrArg (fun x => x.2.get i) h.links; exact this

theorem authority_masked (cs : ClassSet) : classIn .authority (cs &&& 0x010#12) = classIn .authority cs := by
  simp [classIn, EventClass.place]

theorem Calm.authorityPending (h : s.Calm t) (p : Port) : t.authorityPending p = s.authorityPending p := by
  have e := congrArg (fun x : LinkPort => classIn .authority x.pending) (h.port p)
  simp only [LinkPort.settled, authority_masked] at e
  exact e

theorem Calm.lapsesStand (h : s.Calm t) (l : s.lapsesStand) : t.lapsesStand := by
  intro p; rw [h.corridorInUse, h.lapseTime]; exact l p

/-! ### Events and uses of records -/

theorem Calm.of_tables (hk : t.kept = s.kept) (hp : t.ports = s.ports) (ha : t.arbiter.holders = s.arbiter.holders)
    (hm : t.memory = s.memory) : s.Calm t :=
  ⟨hk, by simp [State.links, hp, ha], fun id => by unfold State.damaged State.health; rw [hm]⟩

variable (s)

theorem mask_addClass {c : EventClass} (h : c ≠ .authority) (cs : ClassSet) :
    addClass c cs &&& 0x010#12 = cs &&& 0x010#12 := by
  have m : BitVec.twoPow 12 c.place &&& 0x010#12 = 0#12 := by cases c <;> first | exact absurd rfl h | decide
  unfold addClass
  rw [show (cs ||| BitVec.twoPow 12 c.place) &&& 0x010#12 = (cs &&& 0x010#12) ||| (BitVec.twoPow 12 c.place &&& 0x010#12) from by
    ext i; simp [Bool.and_or_distrib_right], m, BitVec.or_zero]

theorem calm_deliver {c : EventClass} (h : c ≠ .authority) (p : Port) : s.Calm (s.deliver c p) := by
  refine ⟨rfl, ?_, fun _ => rfl⟩
  have e : (s.deliver c p).ports.map LinkPort.settled = s.ports.map LinkPort.settled := by
    apply Tab.ext_get
    intro i
    simp only [deliver, modPort_ports, Tab.get_map, Tab.get_set]
    split
    · rename_i e; subst e; simp only [LinkPort.settled, mask_addClass h]; rfl
    · rfl
  unfold links; rw [e]; rfl

theorem calm_raise {c : EventClass} (h : c ≠ .authority) : s.Calm (s.raise c) := by
  unfold raise
  exact Calm.each _ _ s fun p t => .ite (calm_deliver t h p) (.refl t)

theorem calm_raiseIf (b : Bool) {c : EventClass} (h : c ≠ .authority) : s.Calm (s.raiseIf b c) := by
  unfold raiseIf; exact .ite (calm_raise s h) (.refl s)

theorem damaged_setHealth (id : RecId) (x : Health)
    (h : decide (x.check = .twoErrors) = decide ((s.health id).check = .twoErrors)) (j : RecId) :
    (s.setHealth id x).damaged j = s.damaged j := by
  unfold damaged
  by_cases e : j = id
  · subst e; rw [health_setHealth_self, h]; rfl
  · rw [health_setHealth_ne s e]; rfl

theorem calm_correct {id : RecId} (h : (s.health id).check = .oneError) : s.Calm (s.correct id) :=
  ⟨rfl, rfl, fun j => damaged_setHealth s id { s.health id with check := .good } (by simp [h]) j⟩

theorem calm_discover (id : RecId) : s.Calm (s.discover id) := by
  unfold discover; dsimp only
  refine Calm.trans (Calm.trans (t := s.setHealth id { s.health id with damagedMark := true }) ?_ ?_) (calm_raise _ (by decide))
  · exact ⟨rfl, rfl, damaged_setHealth s id _ rfl⟩
  · exact .ite ⟨rfl, rfl, fun _ => rfl⟩ ⟨rfl, rfl, fun _ => rfl⟩

/-- A use of a record corrects or discovers, and changes neither what is damaged nor any content (R159, R160). -/
theorem calm_useRecord (id : RecId) : s.Calm (s.useRecord id) := by
  unfold useRecord
  split
  · split
    · exact .refl s
    · rename_i h; exact calm_correct s h
    · exact .ite (.refl s) (calm_discover s id)
  · exact .refl s

theorem calm_setSeq (r : Ramp) (q : Sequencer) : s.Calm (s.setSeq r q) := .of_tables rfl rfl rfl rfl
theorem calm_modSeq (r : Ramp) (f : Sequencer → Sequencer) : s.Calm (s.modSeq r f) := .of_tables rfl rfl rfl rfl
theorem calm_setList (r : Ramp) (l : PlanList) : s.Calm (s.setList r l) := .of_tables rfl rfl rfl rfl
theorem calm_setLamp (r : Ramp) (ln : LaneNo) (m : LaneMonitor) : s.Calm (s.setLamp r ln m) := .of_tables rfl rfl rfl rfl
theorem calm_setRate (r : Ramp) (m : RampRate) : s.Calm (s.setRate r m) := .of_tables rfl rfl rfl rfl
theorem calm_setMeas (r : Ramp) (m : RampMeasure) : s.Calm (s.setMeas r m) := .of_tables rfl rfl rfl rfl
theorem calm_setWasMetering (r : Ramp) (b : Bool) : s.Calm (s.setWasMetering r b) := .of_tables rfl rfl rfl rfl
theorem calm_setFaultDark (r : Ramp) (b : Bool) : s.Calm (s.setFaultDark r b) := .of_tables rfl rfl rfl rfl

/-! ### The corridor settings -/

/-- A port's Lapse Time taken again as it stands. -/
theorem takeLapse_same (b : Bool) (p : Port) : s.takeLapse b (s.port p).lapseTime p = s := by
  unfold takeLapse
  simp only [ne_eq, not_true_eq_false, decide_false, Bool.false_and, Bool.and_false, Bool.or_false, Bool.false_eq_true, if_false]
  exact modPort_same s p _ rfl

variable {s}

theorem takeLapses_same {cs : CorridorRec} (h : ∀ p, cs.lapseTime.get (portIdx p) = (s.port p).lapseTime) (x : Option Port)
    (xs : List Port) : (s.each xs fun p t => t.takeLapse (x = some p) (cs.lapseTime.get (portIdx p)) p) = s := by
  unfold each
  induction xs with
  | nil => rfl
  | cons p xs ih =>
    rw [List.foldl_cons]
    dsimp only
    rw [h p, takeLapse_same]
    exact ih

/-- The corridor settings taken where no Lapse Time in force changes: the routes, the edge selections and the defaults. -/
theorem handCorridor_lapsesStand {cs : CorridorRec} (h : ∀ p, cs.lapseTime.get (portIdx p) = (s.port p).lapseTime)
    (x : Option Port) :
    s.handCorridor x cs = { s with router := { s.router with routes := cs.routes, edges := cs.edges },
                                   arbiter := { s.arbiter with defaults := cs.defaultHolder } } := by
  unfold handCorridor; dsimp only
  exact takeLapses_same (s := { s with router := { s.router with routes := cs.routes, edges := cs.edges },
                                       arbiter := { s.arbiter with defaults := cs.defaultHolder } }) h x ports3

theorem calm_handCorridor {cs : CorridorRec} (h : ∀ p, cs.lapseTime.get (portIdx p) = (s.port p).lapseTime) (x : Option Port) :
    s.Calm (s.handCorridor x cs) := by
  rw [handCorridor_lapsesStand h]; exact .of_tables rfl rfl rfl rfl

theorem calm_takeCorridor (h : s.lapsesStand) : s.Calm s.takeCorridor :=
  (calm_handCorridor h none).trans (calm_useRecord _ _)

variable (s)

/-! ### Lists and sequencers -/

theorem calm_placeFallback (r : Ramp) (n : PlanRef) : s.Calm (s.placeFallback r n) :=
  (calm_setList s r _).trans (calm_raiseIf _ _ (by decide))

theorem calm_removeFallback (r : Ramp) : s.Calm (s.removeFallback r) :=
  (calm_setList s r _).trans (calm_raiseIf _ _ (by decide))

theorem calm_fallbackTest (r : Ramp) : s.Calm (s.fallbackTest r) := by
  unfold fallbackTest
  split
  · exact calm_removeFallback s r
  · exact (calm_useRecord s _).trans (.ite (calm_removeFallback _ r) (calm_placeFallback _ r _))

theorem calm_handLane (r : Ramp) (ln : LaneNo) (st : LaneState) : s.Calm (s.handLane r ln st) := by
  unfold handLane; dsimp only
  exact (calm_modSeq s r _).trans (.ite (.refl _) (calm_setLamp _ _ _ _))

theorem calm_handLanes (r : Ramp) (st : LaneState) : s.Calm (s.handLanes r st) :=
  Calm.each _ _ s fun ln t => calm_handLane t r ln _

theorem calm_darkLanes (r : Ramp) : s.Calm (s.darkLanes r) := Calm.each _ _ s fun ln t => calm_handLane t r ln _

theorem calm_setRampState (r : Ramp) (st : RampState) : s.Calm (s.setRampState r st) := by
  unfold setRampState; dsimp only
  refine Calm.trans ?_ (calm_raise _ (by decide))
  refine Calm.trans ?_ (.ite (Calm.each _ _ _ fun ln t => calm_setLamp t r ln _) (.refl _))
  exact (calm_modSeq s r _).trans (.ite (.refl _) (calm_setWasMetering _ r _))

theorem calm_goDark (r : Ramp) (st : RampState) : s.Calm (s.goDark r st) :=
  ((calm_darkLanes s r).trans (calm_modSeq _ r _)).trans (calm_setRampState _ r st)

theorem calm_warningEntry (r : Ramp) : s.Calm (s.warningEntry r) := by
  unfold warningEntry; dsimp only
  exact (((calm_handLanes s r _).trans (calm_modSeq _ r _)).trans (calm_setRate _ r _)).trans (calm_setRampState _ r _)

theorem calm_endingEntry (r : Ramp) : s.Calm (s.endingEntry r) := by
  unfold endingEntry; dsimp only
  exact ((calm_handLanes s r _).trans (calm_modSeq _ r _)).trans (calm_setRampState _ r _)

theorem calm_offSettled (r : Ramp) : s.Calm (s.offSettled r) := by
  have step : ∀ t : State, t.Calm (if (t.seq r).laneCount = 0 then t.setRampState r .unconfigured else t) :=
    fun t => .ite (calm_setRampState t r _) (.refl t)
  unfold offSettled; dsimp only
  split
  · exact (calm_setSeq s r _).trans (step _)
  · exact step s

theorem calm_offFollowed (r : Ramp) : s.Calm (s.offFollowed r) := .ite (calm_warningEntry s r) (.refl s)

theorem calm_report (r : Ramp) : s.Calm (s.report r) := by
  unfold report; dsimp only
  split
  · exact .ite ((calm_setSeq s r _).trans (calm_setRampState _ r _)) (calm_setSeq s r _)
  · exact calm_setSeq s r _
  · exact .ite (.refl s) (((calm_setSeq s r _).trans (calm_setRampState _ r _)).trans (calm_offFollowed _ r))
  · exact .ite (calm_setSeq s r _)
      ((((calm_setSeq s r _).trans (calm_goDark _ r _)).trans (calm_offSettled _ r)).trans (calm_offFollowed _ r))
  · exact .ite (calm_setSeq s r _) (.ite (calm_setSeq s r _) ((calm_setSeq s r _).trans (calm_endingEntry _ r)))
  · exact calm_setSeq s r _

theorem calm_reports : s.Calm s.reports := Calm.each _ _ s fun r t => calm_report t r

theorem calm_giveSlot (r : Ramp) (ln : LaneNo) : s.Calm (s.giveSlot r ln) := by
  unfold giveSlot; dsimp only
  split
  · exact .refl s
  · exact (calm_handLane s r ln _).trans (calm_modSeq _ r _)

theorem calm_offerSlot (r : Ramp) : s.Calm (s.offerSlot r) := by
  unfold offerSlot
  split
  · exact calm_giveSlot s r _
  · exact calm_modSeq s r _

theorem calm_judgeHeld (r : Ramp) : s.Calm (s.judgeHeld r) := .ite (calm_offerSlot s r) (.refl s)

theorem calm_readTopPlan (r : Ramp) : s.Calm (s.readTopPlan r).1 := by
  unfold readTopPlan
  split
  · rename_i k _
    refine Calm.trans (calm_useRecord s (.plan k)) ?_
    dsimp only
    split
    · exact .refl _
    · split
      · exact calm_setList _ r _
      · exact calm_fallbackTest _ r
  · exact .refl s

variable {s}

theorem calm_useCorridor (h : s.lapsesStand) : s.Calm s.useCorridor := (calm_takeCorridor h).trans (calm_reports _)

theorem calm_enterWarning (h : s.lapsesStand) (r : Ramp) : s.Calm (s.enterWarning r) :=
  ((calm_takeCorridor h).trans (calm_warningEntry _ r)).trans (calm_reports _)

theorem calm_enterEnding (h : s.lapsesStand) (r : Ramp) : s.Calm (s.enterEnding r) :=
  ((calm_takeCorridor h).trans (calm_endingEntry _ r)).trans (calm_reports _)

theorem calm_reachOff (h : s.lapsesStand) (r : Ramp) : s.Calm (s.reachOff r) := by
  unfold reachOff; dsimp only
  have g := calm_offSettled s r
  exact .ite (g.trans (calm_enterWarning (g.lapsesStand h) r)) g

theorem calm_reckonTiming (h : s.lapsesStand) (r : Ramp) (rate : Plan → Nat) : s.Calm (s.reckonTiming r rate).1 := by
  unfold reckonTiming; dsimp only
  have g := ((calm_readTopPlan s r).trans (calm_useRecord _ .safety)).trans
    (calm_modSeq _ r fun q =>
      { q with redMinimum := some ((s.readTopPlan r).1.useRecord .safety).safetyInUse.redMinimum })
  exact g.trans (calm_takeCorridor (g.lapsesStand h))

theorem calm_enterMetering (h : s.lapsesStand) (r : Ramp) (b : Bool) : s.Calm (s.enterMetering r b) := by
  have g : s.Calm (s.prepareMetering r b) := by
    unfold prepareMetering; dsimp only
    exact ((calm_handLanes s r _).trans (calm_modSeq _ r _)).trans (calm_setMeas _ r _)
  have g2 : s.Calm ((s.prepareMetering r b).startTiming r b).1 :=
    g.trans (by unfold startTiming; exact calm_reckonTiming (g.lapsesStand h) r _)
  unfold enterMetering; dsimp only
  exact ((g2.trans (calm_modSeq _ r _)).trans (calm_setRampState _ r _)).trans (calm_reports _)

theorem calm_changeTiming (h : s.lapsesStand) (r : Ramp) : s.Calm (s.changeTiming r) := by
  unfold changeTiming; dsimp only
  exact ((calm_reckonTiming h r _).trans (calm_modSeq _ r _)).trans (calm_reports _)

theorem calm_darkThenOff (h : s.lapsesStand) (r : Ramp) : s.Calm ((s.goDark r .off).reachOff r) := by
  have g := calm_goDark s r .off
  exact g.trans (calm_reachOff (g.lapsesStand h) r)

theorem calm_handDemand (h : s.lapsesStand) (r : Ramp) : s.Calm (s.handDemand r) := by
  unfold handDemand; dsimp only
  split
  · exact .ite (calm_enterWarning h r) (.refl s)
  · exact calm_darkThenOff h r
  · exact .ite (calm_setSeq s r _) (calm_enterEnding h r)
  · have g := calm_setSeq s r { s.seq r with stopping := false }
    exact (g.trans (calm_changeTiming (g.lapsesStand h) r)).trans (calm_judgeHeld _ r)
  · exact calm_enterMetering h r true
  · exact .refl s

theorem calm_changeList (h : s.lapsesStand) (r : Ramp) (l : PlanList) : s.Calm (s.changeList r l) := by
  have follow : ∀ t : State, s.Calm t →
      s.Calm (if (t.planList r).demanded = (s.planList r).demanded then t else t.handDemand r) :=
    fun t g => .ite g (g.trans (calm_handDemand (g.lapsesStand h) r))
  unfold changeList; dsimp only
  exact follow _ (.ite (calm_setList s r l) ((calm_setList s r l).trans (calm_fallbackTest _ r)))

theorem calm_darken (r : Ramp) : s.Calm (s.darken r) := by
  unfold darken
  split
  · exact .refl s
  · exact .refl s
  · exact (calm_goDark s r _).trans (calm_setFaultDark _ r _)

theorem calm_forceOff (h : s.lapsesStand) (r : Ramp) : s.Calm (s.forceOff r) := by
  unfold forceOff
  split
  · exact calm_darkThenOff h r
  · exact calm_darkThenOff h r
  · exact calm_darkThenOff h r
  · exact .refl s

end Sys2Proof.Machine.State
end

