-- ==== Sys2Proof/Laws/KeepsSequencers.lean ====
section
/-! SUPPORT. The sequencers under the operations that do not touch them. -/

namespace Sys2Proof.Machine.State

variable (s : State)

/-! ### Events (R188, R189) -/

@[simp] theorem sequencers_deliver (c : EventClass) (p : Port) : (s.deliver c p).sequencers = s.sequencers := rfl

@[simp] theorem sequencers_raise (c : EventClass) : (s.raise c).sequencers = s.sequencers :=
  each_proj sequencers _ _ s fun p t => by split <;> rfl

@[simp] theorem sequencers_raiseIf (b : Bool) (c : EventClass) : (s.raiseIf b c).sequencers = s.sequencers := by
  unfold raiseIf; split <;> simp

/-! ### Uses of stored records (R159, R160) -/

@[simp] theorem sequencers_correct (id : RecId) : (s.correct id).sequencers = s.sequencers := rfl

@[simp] theorem sequencers_discover (id : RecId) : (s.discover id).sequencers = s.sequencers := by
  unfold discover; simp only [sequencers_raise]; split <;> rfl

@[simp] theorem sequencers_useRecord (id : RecId) : (s.useRecord id).sequencers = s.sequencers := by
  unfold useRecord
  split
  · split
    · rfl
    · simp
    · split <;> simp
  · rfl

/-! ### Authority (8.1 to 8.3) -/

@[simp] theorem sequencers_giveUp (p : Port) (i : Fin 7) : (s.giveUp p i).sequencers = s.sequencers := by
  unfold giveUp; split <;> simp

@[simp] theorem sequencers_becomeSilent (p : Port) : (s.becomeSilent p).sequencers = s.sequencers := by
  unfold becomeSilent
  dsimp only
  split <;> simp [each_proj sequencers]

@[simp] theorem sequencers_takeLapse (b : Bool) (n : Nat) (p : Port) : (s.takeLapse b n p).sequencers = s.sequencers := by
  unfold takeLapse; dsimp only; split <;> simp

@[simp] theorem sequencers_handCorridor (x : Option Port) (cs : CorridorRec) :
    (s.handCorridor x cs).sequencers = s.sequencers := by
  unfold handCorridor
  rw [each_proj sequencers _ _ _ fun p t => sequencers_takeLapse t _ _ p]

@[simp] theorem sequencers_takeCorridor : s.takeCorridor.sequencers = s.sequencers := by unfold takeCorridor; simp

@[simp] theorem sequencers_regain (p : Port) (i : Fin 7) : (s.regain p i).sequencers = s.sequencers := by
  unfold regain; split <;> simp

/-! ### Lists (4.4) -/

@[simp] theorem sequencers_placeFallback (r : Ramp) (n : PlanRef) : (s.placeFallback r n).sequencers = s.sequencers := by
  unfold placeFallback; simp

@[simp] theorem sequencers_removeFallback (r : Ramp) : (s.removeFallback r).sequencers = s.sequencers := by
  unfold removeFallback; simp

@[simp] theorem sequencers_fallbackTest (r : Ramp) : (s.fallbackTest r).sequencers = s.sequencers := by
  unfold fallbackTest
  split
  · simp
  · dsimp only; split <;> simp

@[simp] theorem sequencers_readTopPlan (r : Ramp) : (s.readTopPlan r).1.sequencers = s.sequencers := by
  unfold readTopPlan
  split
  · dsimp only
    split
    · simp
    · split <;> simp
  · rfl

end Sys2Proof.Machine.State
end

