-- ==== Sys2Proof/Laws/Requests.lean ====
section
/-! SUPPORT. What a request row does at its port: the frame's completion, the taking of the request, its answer (R184). -/

namespace Sys2Proof.Machine

/-- Every request row is the completion of a frame that carries its request, on a running part. -/
theorem exec_request {c : Instr} {p : Port} {q : Req} (h : c.request = some (p, q)) (s : State) :
    exec c s = .next (s.whenRunning (State.requestRow p q)) := by
  cases c <;> cases h <;> rfl

namespace State

variable (s : State)

/-- Two changes of one port are one. -/
theorem modPort_modPort (p : Port) (f g : LinkPort → LinkPort) :
    (s.modPort p f).modPort p g = s.modPort p fun x => g (f x) := by
  simp only [modPort, setPort, port]
  congr 1
  simp [Tab.set_set]

/-- With no complete valid frame waiting, what has been received of another frame is dropped and nothing else happens (R183). -/
theorem settleFrame_receiver {s : State} {p : Port} (h : s.frameWaits p = false) :
    ∃ x, s.settleFrame p = s.modPort p fun y => { y with receiver := x } := by
  have same : s = s.modPort p fun y => { y with receiver := s.receiver p } := (modPort_same s p _ rfl).symm
  have hunt : s.receiver p = .hunting → s.settleFrame p = s := fun e => by
    simp only [settleFrame, badLength, frameComplete, interByteTimeout, e]
  have hunted : (s.setReceiver p .hunting).receiver p = .hunting := by simp [setReceiver, receiver]
  cases e : s.receiver p with
  | hunting => exact ⟨_, (hunt e).trans same⟩
  | receiving buffer idle =>
    by_cases hb : lengthBad buffer = true
    · exact ⟨.hunting, by simp only [settleFrame, badLength, frameComplete, interByteTimeout, e, hb, if_true, hunted]; rfl⟩
    · have hb : lengthBad buffer = false := by simpa using hb
      by_cases hf : frameFull buffer = true
      · have hc : frameCrcOk buffer = false := by simpa [frameWaits, e, hf] using h
        exact ⟨.hunting, by
          simp only [settleFrame, badLength, frameComplete, interByteTimeout, e, hb, hf, hc, Bool.false_eq_true, if_true,
            if_false, hunted]; rfl⟩
      · have hf : frameFull buffer = false := by simpa using hf
        by_cases ht : Config.interByteLimit ≤ idle
        · exact ⟨.hunting, by
            simp only [settleFrame, badLength, frameComplete, interByteTimeout, e, hb, hf, ht, Bool.not_false, Bool.true_and,
              decide_true, if_true, Bool.false_eq_true, if_false]; rfl⟩
        · exact ⟨_, Eq.trans (by
            simp only [settleFrame, badLength, frameComplete, interByteTimeout, e, hb, hf, ht, Bool.not_false, Bool.true_and,
              decide_false, Bool.false_eq_true, if_false]) same⟩

/-- The completion of a frame does not depend on what the receiver held. -/
theorem submit_receiver (p : Port) (q : Req) (x : Receiver) :
    (s.modPort p fun y => { y with receiver := x }).submit p q = s.submit p q := by
  unfold submit; rw [modPort_modPort]

/-- A request row at a port where no complete valid frame waits is the completion of its own frame. -/
theorem requestRow_eq {s : State} {p : Port} (h : s.frameWaits p = false) (q : Req) : s.requestRow p q = s.submit p q := by
  obtain ⟨x, hx⟩ := settleFrame_receiver h
  rw [requestRow, hx, submit_receiver]

/-- At a hunting port no frame waits. -/
theorem frameWaits_hunting {s : State} {p : Port} (h : (s.port p).receiver = .hunting) : s.frameWaits p = false := by
  simp only [frameWaits, receiver, h]

theorem whenRunning_runs {s : State} (h : s.running) (f : State → State) : s.whenRunning f = f s := if_pos h

/-- A port that takes requests at once takes this one, and its answer joins the queue (R184). -/
theorem submit_ready {s : State} {p : Port} (h : s.ready p) (q : Req) : s.submit p q = (s.arrived p q).takeRequest p q := by
  have hr : ¬ Config.answerCapacity ≤ (s.port p).answers.length := by have := h.room; simp only [Config.answerCapacity]; omega
  have e : (s.modPort p fun x => { x with receiver := .hunting }).heard p
      = s.modPort p fun x => { x with receiver := .hunting, silenceSeconds := 0, silencePart := 0 } := by
    simp only [heard, modPort_modPort, port_modPort_self, h.active, Bool.false_eq_true, if_false]
  simp only [submit, port_modPort_self, if_neg hr, e, place, h.free]
  simp only [beginRequest, modPort_modPort]
  rfl

/-- The taking of a request, as its reply has it. -/
theorem takeRequest_reply {p : Port} {q : Req} {s : State} {x : Reply} (h : s.perform p q = x) (hw : q ≠ .warmRestart q.indexByte) :
    s.takeRequest p q = x.state.answered p q x.status x.payload := by
  unfold takeRequest answered pushAnswer answerTo
  rw [h]
  have : answerRole q x.status = .current := by
    unfold answerRole
    split
    · exact absurd rfl hw
    · rfl
  simp only [this]

/-- A request row at a port that takes it at once. -/
theorem exec_ready {c : Instr} {p : Port} {q : Req} (hc : c.request = some (p, q)) {s : State} (h : s.ready p) :
    exec c s = .next ((s.arrived p q).takeRequest p q) := by
  rw [exec_request hc, whenRunning_runs h.runs, requestRow_eq h.quiet, submit_ready h]

/-- A request row at a port that takes it at once, as its reply has it. -/
theorem exec_ready_reply {c : Instr} {p : Port} {q : Req} (hc : c.request = some (p, q)) {s : State} (h : s.ready p)
    (hw : q ≠ .warmRestart q.indexByte) {x : Reply} (hx : (s.arrived p q).perform p q = x) :
    exec c s = .next (x.state.answered p q x.status x.payload) := by
  rw [exec_ready hc h, takeRequest_reply hx hw]

/-- A request that passes the port and authority checks is carried out by its owning block (R148). -/
theorem perform_owner {p : Port} {q : Req} {s : State} (hw : q.wf = true) (hp : portAllows p q = true)
    (ha : s.authorized p q = true) : s.perform p q = s.owner p q := by
  simp [perform, hw, hp, ha]

@[simp] theorem arrived_fields (p : Port) (q : Req) :
    (s.arrived p q).pending = s.pending ∧ (s.arrived p q).supply = s.supply ∧ (s.arrived p q).retained = s.retained
      ∧ (s.arrived p q).memory = s.memory ∧ (s.arrived p q).loops = s.loops ∧ (s.arrived p q).lists = s.lists
      ∧ (s.arrived p q).sequencers = s.sequencers ∧ (s.arrived p q).arbiter = s.arbiter
      ∧ (s.arrived p q).router = s.router := ⟨rfl, rfl, rfl, rfl, rfl, rfl, rfl, rfl, rfl⟩

end State
end Sys2Proof.Machine
end

