-- ==== Sys2Proof/Laws/Authority.lean ====
section
/-! SUPPORT. The authority records under the operations of chapter 8, each said once. -/

namespace Sys2Proof.Machine.State

variable (s : State)

@[simp] theorem arbiter_raise (c : EventClass) : (s.raise c).arbiter = s.arbiter :=
  each_proj arbiter _ _ s fun p t => by split <;> rfl

@[simp] theorem arbiter_raiseIf (b : Bool) (c : EventClass) : (s.raiseIf b c).arbiter = s.arbiter := by
  unfold raiseIf; split <;> simp

@[simp] theorem arbiter_discover (id : RecId) : (s.discover id).arbiter = s.arbiter := by
  unfold discover; dsimp only
  rw [arbiter_raise]
  split <;> rfl

@[simp] theorem arbiter_useRecord (id : RecId) : (s.useRecord id).arbiter = s.arbiter := by
  unfold useRecord
  split
  · split
    · rfl
    · rfl
    · split
      · rfl
      · simp
  · rfl

variable {s}

/-- The Default Holders in force after a read of the corridor settings (R141). -/
theorem defaults_takeCorridor (h : s.lapsesStand) : s.takeCorridor.arbiter.defaults = s.corridorInUse.defaultHolder := by
  unfold takeCorridor
  rw [arbiter_useRecord, handCorridor_lapsesStand h]

/-- What a port's return regains of a list of records, and what it leaves alone (R147). -/
theorem each_regain (p : Port) (xs : List (Fin 7)) (s : State) :
    (∀ i, (s.each xs (regain p)).holder i
        = if i ∈ xs ∧ s.holder i = none ∧ s.arbiter.defaults.get i = some p then some p else s.holder i)
      ∧ (s.each xs (regain p)).ports = s.ports ∧ (s.each xs (regain p)).memory = s.memory := by
  induction xs generalizing s with
  | nil => simp [State.each]
  | cons j js ih =>
    have e : s.each (j :: js) (regain p) = (s.regain p j).each js (regain p) := rfl
    have hd : (s.regain p j).arbiter.defaults = s.arbiter.defaults := by unfold regain; split <;> rfl
    have hp : (s.regain p j).ports = s.ports := by unfold regain; split <;> rfl
    have hm : (s.regain p j).memory = s.memory := by unfold regain; split <;> rfl
    obtain ⟨h1, h2, h3⟩ := ih (s.regain p j)
    rw [e]
    refine ⟨fun i => ?_, h2.trans hp, h3.trans hm⟩
    rw [h1 i, hd]
    unfold regain
    by_cases hij : i = j
    · subst hij
      by_cases hc : s.holder i = none ∧ s.arbiter.defaults.get i = some p
      · simp [hc]
      · rw [if_neg hc]; simp [hc]
    · split <;> simp [holder_setHolder_ne, hij]

/-- What a port gives up of a list of records, and what that leaves alone (R146). -/
theorem each_giveUp (p : Port) (xs : List (Fin 7)) (s : State) :
    (∀ i, (s.each xs (giveUp p)).holder i = if i ∈ xs ∧ s.holder i = some p then s.successor p i else s.holder i)
      ∧ (s.each xs (giveUp p)).ports = s.ports ∧ (s.each xs (giveUp p)).memory = s.memory
      ∧ (s.each xs (giveUp p)).arbiter.defaults = s.arbiter.defaults := by
  induction xs generalizing s with
  | nil => simp [State.each]
  | cons j js ih =>
    have e : s.each (j :: js) (giveUp p) = (s.giveUp p j).each js (giveUp p) := rfl
    have hd : (s.giveUp p j).arbiter.defaults = s.arbiter.defaults := by unfold giveUp; split <;> rfl
    have hp : (s.giveUp p j).ports = s.ports := by unfold giveUp; split <;> rfl
    have hm : (s.giveUp p j).memory = s.memory := by unfold giveUp; split <;> rfl
    have hsu : ∀ i, (s.giveUp p j).successor p i = s.successor p i := by
      intro i; unfold successor port; rw [hd, hp]
    obtain ⟨h1, h2, h3, h4⟩ := ih (s.giveUp p j)
    rw [e]
    refine ⟨fun i => ?_, h2.trans hp, h3.trans hm, h4.trans hd⟩
    rw [h1 i, hsu]
    have hne : s.successor p i ≠ some p := by
      unfold successor
      split
      · simp
      · split
        · simp
        · rename_i hx; simp at hx; simp [hx.1]
    unfold giveUp
    by_cases hij : i = j
    · subst hij
      by_cases hc : s.holder i = some p
      · simp [hc, hne]
      · simp [hc]
    · split <;> simp [holder_setHolder_ne, hij]

/-- The records' heirs after a read of the corridor settings (R144, R146). -/
theorem successor_takeCorridor (h : s.lapsesStand) (p : Port) (i : Fin 7) : s.takeCorridor.successor p i = s.heir p i := by
  unfold successor heir
  rw [defaults_takeCorridor h]
  cases s.corridorInUse.defaultHolder.get i with
  | none => rfl
  | some d => simp [(calm_takeCorridor h).silent d]

/-- An ACTIVE port becomes SILENT: what it held goes to the successors, and AUTHORITY is delivered to it where it held a record
(R146, R149). -/
theorem becomeSilent_spec (s : State) (p : Port) :
    ((s.becomeSilent p).port p).silent = true
      ∧ (∀ i, (s.becomeSilent p).holder i = if s.holder i = some p then s.successor p i else s.holder i)
      ∧ ((s.becomeSilent p).authorityPending p = true ↔ s.authorityPending p = true ∨ ∃ i, s.holder i = some p)
      ∧ (∀ q, q ≠ p → (s.becomeSilent p).port q = s.port q) ∧ (s.becomeSilent p).memory = s.memory := by
  obtain ⟨h1, h2, h3, _⟩ := each_giveUp p recordNos (s.modPort p fun x => { x with silent := true })
  have hall : ∀ i : Fin 7, i ∈ recordNos := by decide
  have hsu : ∀ i, (s.modPort p fun x => { x with silent := true }).successor p i = s.successor p i := by
    intro i; unfold successor
    rw [modPort_arbiter]
    split
    · rfl
    · rename_i d _
      by_cases hd : d = p
      · simp [hd]
      · rw [port_modPort_ne s hd]
  have hlost : (recordNos.any fun i => decide (s.holder i = some p)) = true ↔ ∃ i, s.holder i = some p := by
    rw [List.any_eq_true]
    exact ⟨fun ⟨i, _, h⟩ => ⟨i, of_decide_eq_true h⟩, fun ⟨i, h⟩ => ⟨i, hall i, decide_eq_true h⟩⟩
  unfold becomeSilent; dsimp only
  generalize (s.modPort p fun x => { x with silent := true }).each recordNos (giveUp p) = u at h1 h2 h3
  have hu : ∀ q, u.port q = (s.modPort p fun x => { x with silent := true }).port q := by
    intro q; unfold port; rw [h2]
  split
  · rename_i hx
    refine ⟨?_, fun i => ?_, ?_, fun q hq => ?_, ?_⟩
    · simp [deliver, hu]
    · rw [show (u.deliver .authority p).holder i = u.holder i from rfl, h1, hsu]; simp [hall]
    · simp [authorityPending, deliver, classIn, addClass, EventClass.place, hlost.mp hx]
    · rw [deliver, port_modPort_ne _ hq, hu, port_modPort_ne _ hq]
    · exact h3
  · rename_i hx
    have hn : ¬ ∃ i, s.holder i = some p := fun e => hx (hlost.mpr e)
    refine ⟨?_, fun i => ?_, ?_, fun q hq => ?_, h3⟩
    · simp [hu]
    · rw [h1, hsu]; simp [hall]
    · simp only [authorityPending, hu, port_modPort_self]; simp [hn]
    · rw [hu, port_modPort_ne _ hq]

/-- An ACTIVE port keeps the record it has claimed (R143). -/
theorem passOn_active {p : Port} (h : (s.port p).silent = false) (i : Fin 7) : s.passOn p i = s := by
  unfold passOn; rw [h]; rfl

/-- A SILENT port passes the record it has claimed on to its heir, with AUTHORITY for the port, and changes no other record (R146,
R149, log 39). -/
theorem passOn_silent {p : Port} {i : Fin 7} (h : (s.port p).silent = true) (l : s.lapsesStand) (hi : s.holder i = some p) :
    (s.passOn p i).holder i = s.heir p i ∧ (∀ j, j ≠ i → (s.passOn p i).holder j = s.holder j)
      ∧ (∀ q, (s.passOn p i).authorityPending q = true ↔ s.authorityPending q = true ∨ q = p)
      ∧ (∀ q, ((s.passOn p i).port q).silent = (s.port q).silent)
      ∧ (∀ q, ((s.passOn p i).port q).answers = (s.port q).answers) := by
  have hc := calm_takeCorridor l
  have hg : s.takeCorridor.giveUp p i = s.takeCorridor.setHolder i (s.heir p i) := by
    unfold giveUp; rw [if_pos ((hc.holder i).trans hi), successor_takeCorridor l]
  have hr := calm_reports ((s.takeCorridor.setHolder i (s.heir p i)).deliver .authority p)
  have e : s.passOn p i = ((s.takeCorridor.setHolder i (s.heir p i)).deliver .authority p).reports := by
    unfold passOn; rw [h, if_pos rfl, hg]
  generalize s.takeCorridor = u at hc hr e
  have hp : ∀ q, ((u.setHolder i (s.heir p i)).deliver .authority p).port q
      = if q = p then { u.port q with pending := addClass .authority (u.port q).pending }
        else u.port q := by
    intro q
    by_cases hq : q = p
    · subst hq; rw [if_pos rfl, deliver, port_modPort_self]; rfl
    · rw [if_neg hq, deliver, port_modPort_ne _ hq]; rfl
  rw [e]
  refine ⟨(hr.holder i).trans ?_, fun j hj => (hr.holder j).trans ?_, fun q => ?_, fun q => ?_, fun q => ?_⟩
  · exact holder_setHolder_self _ i _
  · exact (holder_setHolder_ne _ hj _).trans (hc.holder j)
  · rw [hr.authorityPending, ← hc.authorityPending q]
    unfold authorityPending; rw [hp]
    by_cases hq : q = p
    · simp [hq, classIn, addClass, EventClass.place]
    · simp [hq]
  · rw [hr.silent, hp, ← hc.silent q]; split <;> rfl
  · rw [hr.answers, hp, ← hc.answers q]; split <;> rfl

end Sys2Proof.Machine.State
end

