-- ==== Sys2Proof/Laws/Lamps.lean ====
section
/-! SUPPORT. What the sequencer operations do to the sequencers, and the discipline of the lamps (R102, R117) under them. -/

namespace Sys2Proof.Machine

namespace Sequencer

/-- The discipline rests on the ramp state, the lanes and the Lane Count In Force. -/
theorem disciplined_congr {p q : Sequencer} (hs : p.state = q.state) (hl : p.lanes = q.lanes)
    (hc : p.laneCount = q.laneCount) : p.disciplined = q.disciplined := by
  simp [disciplined, laneAllowed, inForce, hs, hl, hc]

/-- The lanes with every lane in force at one state, and DARK above (R102). -/
def lanesAt (q : Sequencer) (st : LaneState) : Tab 2 LaneState :=
  (q.lanes.set 0 (if q.inForce 0 then st else .dark)).set 1 (if q.inForce 1 then st else .dark)

@[simp] theorem lanesAt_zero (q : Sequencer) (st : LaneState) :
    (q.lanesAt st).get 0 = if q.inForce 0 then st else .dark := by simp [lanesAt, Tab.get_set]

@[simp] theorem lanesAt_one (q : Sequencer) (st : LaneState) :
    (q.lanesAt st).get 1 = if q.inForce 1 then st else .dark := by simp [lanesAt]

theorem resting_disciplined {p q : Sequencer} (hs : q.state = .warning ∨ q.state = .ending)
    (hl : q.lanes = p.lanesAt .restGreen) (hc : q.laneCount = p.laneCount) : q.disciplined = true := by
  have hf : ∀ ln, q.inForce ln = p.inForce ln := fun ln => by simp [inForce, hc]
  rcases hs with hs | hs <;> simp only [disciplined, laneAllowed, hs, hl, hf, lanesAt_zero, lanesAt_one] <;>
    cases p.inForce 0 <;> cases p.inForce 1 <;> simp [LaneState.isGreen]

theorem red_disciplined {p q : Sequencer} {e : Nat} (hs : q.state = .metering) (hl : q.lanes = p.lanesAt (.red e))
    (hc : q.laneCount = p.laneCount) : q.disciplined = true := by
  have hf : ∀ ln, q.inForce ln = p.inForce ln := fun ln => by simp [inForce, hc]
  simp only [disciplined, laneAllowed, hs, hl, hf, lanesAt_zero, lanesAt_one]
  cases p.inForce 0 <;> cases p.inForce 1 <;> simp [LaneState.isGreen, LaneState.meters]

theorem dark_disciplined {q : Sequencer} (h : q.lanes = Tab.replicate 2 .dark)
    (hs : q.state = .off ∨ q.state = .darkFault ∨ q.state = .unconfigured) : q.disciplined = true := by
  rcases hs with hs | hs | hs <;> simp [disciplined, laneAllowed, hs, h, LaneState.isGreen]

theorem dark_lanes_of {q : Sequencer} (h : q.disciplined = true)
    (hs : q.state = .off ∨ q.state = .darkFault ∨ q.state = .unconfigured) : q.lanes = Tab.replicate 2 .dark := by
  apply Tab.ext_get
  intro ln
  rcases hs with hs | hs | hs <;> simp [disciplined, laneAllowed, hs] at h <;>
    (match ln with | 0 => simp [h.1.1] | 1 => simp [h.1.2])

end Sequencer

theorem tab2_dark (t : Tab 2 LaneState) : (t.set 0 .dark).set 1 .dark = Tab.replicate 2 .dark := by
  apply Tab.ext_get
  intro ln
  match ln with
  | 0 => simp [Tab.get_set]
  | 1 => simp

namespace State

variable (s : State)

/-! ### What the operations do to the sequencers -/

@[simp] theorem sequencers_handLane (r : Ramp) (ln : LaneNo) (st : LaneState) :
    (s.handLane r ln st).sequencers
      = s.sequencers.set r { s.seq r with lanes := (s.seq r).lanes.set ln st } := by
  unfold handLane; dsimp only; split <;> simp

theorem seq_of_sequencers {t : State} {r : Ramp} {q : Sequencer} (h : t.sequencers = s.sequencers.set r q) : t.seq r = q := by
  simp [seq, h]

@[simp] theorem sequencers_handLanes (r : Ramp) (st : LaneState) :
    (s.handLanes r st).sequencers = s.sequencers.set r { s.seq r with lanes := (s.seq r).lanesAt st } := by
  simp [handLanes, each, laneNos, seq, Tab.set_set, Sequencer.lanesAt, Sequencer.inForce]

@[simp] theorem sequencers_darkLanes (r : Ramp) :
    (s.darkLanes r).sequencers = s.sequencers.set r { s.seq r with lanes := Tab.replicate 2 .dark } := by
  simp [darkLanes, each, laneNos, seq, Tab.set_set, tab2_dark]

@[simp] theorem sequencers_setRampState (r : Ramp) (st : RampState) :
    (s.setRampState r st).sequencers = s.sequencers.set r { s.seq r with state := st } := by
  unfold setRampState
  simp only [sequencers_raise]
  split <;> split <;> rfl

@[simp] theorem sequencers_goDark (r : Ramp) (st : RampState) :
    (s.goDark r st).sequencers
      = s.sequencers.set r { (s.seq r).discard with lanes := Tab.replicate 2 .dark, state := st } := by
  simp [goDark, seq, Tab.set_set, Sequencer.discard]

@[simp] theorem sequencers_warningEntry (r : Ramp) :
    (s.warningEntry r).sequencers
      = s.sequencers.set r { s.seq r with lanes := (s.seq r).lanesAt .restGreen, sign := .flashing true 0,
                                          warningTimer := some (s.corridorInUse.warnTime * Config.samplesPerSecond),
                                          state := .warning } := by
  simp [warningEntry, seq, Tab.set_set]

@[simp] theorem sequencers_endingEntry (r : Ramp) :
    (s.endingEntry r).sequencers
      = s.sequencers.set r { (s.seq r).discard with
                               lanes := (s.seq r).lanesAt .restGreen,
                               clearanceTimer := some (s.corridorInUse.clearanceTime * Config.samplesPerSecond),
                               state := .ending } := by
  simp [endingEntry, seq, Tab.set_set, Sequencer.discard]

/-! ### The discipline -/

variable {s}

theorem lampsDisciplined_same {t : State} (h : s.lampsDisciplined) (e : t.sequencers = s.sequencers) :
    t.lampsDisciplined := by
  intro r
  have : t.seq r = s.seq r := by simp [seq, e]
  rw [this]; exact h r

theorem lampsDisciplined_set {t : State} {r : Ramp} {q : Sequencer} (h : s.lampsDisciplined)
    (e : t.sequencers = s.sequencers.set r q) (hq : q.disciplined = true) : t.lampsDisciplined := by
  intro r'
  have : t.seq r' = if r' = r then q else s.seq r' := by simp [seq, e, Tab.get_set]
  rw [this]; split
  · exact hq
  · exact h r'

theorem lampsDisciplined_setSeq {r : Ramp} {q : Sequencer} (h : s.lampsDisciplined) (hs : q.state = (s.seq r).state)
    (hl : q.lanes = (s.seq r).lanes) (hc : q.laneCount = (s.seq r).laneCount) : (s.setSeq r q).lampsDisciplined :=
  lampsDisciplined_set h (setSeq_sequencers s r q) (by rw [Sequencer.disciplined_congr hs hl hc]; exact h r)

theorem lampsDisciplined_modSeq {r : Ramp} {f : Sequencer → Sequencer} (h : s.lampsDisciplined)
    (hs : (f (s.seq r)).state = (s.seq r).state) (hl : (f (s.seq r)).lanes = (s.seq r).lanes)
    (hc : (f (s.seq r)).laneCount = (s.seq r).laneCount) : (s.modSeq r f).lampsDisciplined :=
  lampsDisciplined_setSeq h hs hl hc

theorem disciplined_goDark (h : s.lampsDisciplined) (r : Ramp) {st : RampState}
    (hs : st = .off ∨ st = .darkFault ∨ st = .unconfigured) : (s.goDark r st).lampsDisciplined :=
  lampsDisciplined_set h (sequencers_goDark s r st) (Sequencer.dark_disciplined rfl hs)

theorem disciplined_warningEntry (h : s.lampsDisciplined) (r : Ramp) : (s.warningEntry r).lampsDisciplined :=
  lampsDisciplined_set h (sequencers_warningEntry s r)
    (Sequencer.resting_disciplined (p := s.seq r) (Or.inl rfl) rfl rfl)

theorem disciplined_endingEntry (h : s.lampsDisciplined) (r : Ramp) : (s.endingEntry r).lampsDisciplined :=
  lampsDisciplined_set h (sequencers_endingEntry s r)
    (Sequencer.resting_disciplined (p := s.seq r) (Or.inr rfl) rfl rfl)

theorem disciplined_setRampState (h : s.lampsDisciplined) (r : Ramp)
    (hl : (s.seq r).lanes = Tab.replicate 2 .dark) {st : RampState}
    (hs : st = .off ∨ st = .darkFault ∨ st = .unconfigured) : (s.setRampState r st).lampsDisciplined :=
  lampsDisciplined_set h (sequencers_setRampState s r st) (Sequencer.dark_disciplined hl hs)

/-- A ramp without lit lamps takes a new Lane Count. -/
theorem disciplined_setDark (h : s.lampsDisciplined) (r : Ramp) {q : Sequencer} (hl : q.lanes = (s.seq r).lanes)
    (hs : (s.seq r).state = .off ∨ (s.seq r).state = .darkFault ∨ (s.seq r).state = .unconfigured)
    (hq : q.state = .off ∨ q.state = .darkFault ∨ q.state = .unconfigured) : (s.setSeq r q).lampsDisciplined :=
  lampsDisciplined_set h (setSeq_sequencers s r q)
    (Sequencer.dark_disciplined (hl.trans (Sequencer.dark_lanes_of (h r) hs)) hq)

/-- Entry into OFF completed: a Pending Lane Count taken, UNCONFIGURED where it is 0 (R104). -/
theorem disciplined_offSettled (h : s.lampsDisciplined) (r : Ramp) (hs : (s.seq r).state = .off) :
    (s.offSettled r).lampsDisciplined := by
  have step : ∀ t : State, t.lampsDisciplined → (t.seq r).state = .off →
      (if (t.seq r).laneCount = 0 then t.setRampState r .unconfigured else t).lampsDisciplined := by
    intro t ht hst
    split
    · exact disciplined_setRampState ht r (Sequencer.dark_lanes_of (ht r) (Or.inl hst)) (Or.inr (Or.inr rfl))
    · exact ht
  unfold offSettled; dsimp only
  split
  · exact step _ (disciplined_setDark h r rfl (Or.inl hs) (Or.inl hs)) (by simpa using hs)
  · exact step _ h hs

theorem disciplined_offFollowed (h : s.lampsDisciplined) (r : Ramp) : (s.offFollowed r).lampsDisciplined := by
  unfold offFollowed; split
  · exact disciplined_warningEntry h r
  · exact h

/-- A Lane Count report (R104). -/
theorem disciplined_report (h : s.lampsDisciplined) (r : Ramp) : (s.report r).lampsDisciplined := by
  unfold report; dsimp only
  split
  · rename_i hs
    have h1 := disciplined_setDark (q := { s.seq r with laneCount := s.corridorInUse.laneCount.get r, pendingCount := none })
      h r rfl (Or.inl hs) (Or.inl hs)
    split
    · exact disciplined_setRampState h1 r (by simpa using Sequencer.dark_lanes_of (h r) (Or.inl hs)) (Or.inr (Or.inr rfl))
    · exact h1
  · rename_i hs
    exact disciplined_setDark h r rfl (Or.inr (Or.inl hs)) (Or.inr (Or.inl hs))
  · rename_i hs
    split
    · exact h
    · refine disciplined_offFollowed (disciplined_setRampState ?_ r ?_ (Or.inl rfl)) r
      · exact disciplined_setDark h r rfl (Or.inr (Or.inr hs)) (Or.inr (Or.inr hs))
      · simpa using Sequencer.dark_lanes_of (h r) (Or.inr (Or.inr hs))
  · split
    · exact lampsDisciplined_setSeq h rfl rfl rfl
    · refine disciplined_offFollowed (disciplined_offSettled (disciplined_goDark ?_ r (Or.inl rfl)) r ?_) r
      · exact lampsDisciplined_setSeq h rfl rfl rfl
      · simp [seq]
  · split
    · exact lampsDisciplined_setSeq h rfl rfl rfl
    · split
      · exact lampsDisciplined_setSeq h rfl rfl rfl
      · refine disciplined_endingEntry ?_ r
        exact lampsDisciplined_setSeq h rfl rfl rfl
  · exact lampsDisciplined_setSeq h rfl rfl rfl

theorem disciplined_reports (h : s.lampsDisciplined) : s.reports.lampsDisciplined :=
  each_induct _ _ h fun r _ ht => disciplined_report ht r

theorem disciplined_takeCorridor (h : s.lampsDisciplined) : s.takeCorridor.lampsDisciplined :=
  lampsDisciplined_same h (sequencers_takeCorridor s)

theorem disciplined_useCorridor (h : s.lampsDisciplined) : s.useCorridor.lampsDisciplined :=
  disciplined_reports (disciplined_takeCorridor h)

theorem disciplined_enterWarning (h : s.lampsDisciplined) (r : Ramp) : (s.enterWarning r).lampsDisciplined :=
  disciplined_reports (disciplined_warningEntry (disciplined_takeCorridor h) r)

theorem disciplined_enterEnding (h : s.lampsDisciplined) (r : Ramp) : (s.enterEnding r).lampsDisciplined :=
  disciplined_reports (disciplined_endingEntry (disciplined_takeCorridor h) r)

theorem disciplined_reachOff (h : s.lampsDisciplined) (r : Ramp) (hs : (s.seq r).state = .off) :
    (s.reachOff r).lampsDisciplined := by
  have h1 := disciplined_offSettled h r hs
  unfold reachOff; dsimp only
  split
  · exact disciplined_enterWarning h1 r
  · exact h1

theorem disciplined_darkThenOff (h : s.lampsDisciplined) (r : Ramp) : ((s.goDark r .off).reachOff r).lampsDisciplined :=
  disciplined_reachOff (disciplined_goDark h r (Or.inl rfl)) r (by simp [seq])

/-- The reckoning of a timing changes the Red Minimum In Force of its ramp and nothing else of the sequencers. -/
theorem sequencers_reckonTiming (s : State) (r : Ramp) (rate : Plan → Nat) :
    ∃ m, (s.reckonTiming r rate).1.sequencers = s.sequencers.set r { s.seq r with redMinimum := m } := by
  refine ⟨some ((s.readTopPlan r).1.useRecord .safety).safetyInUse.redMinimum, ?_⟩
  simp [reckonTiming, takeRedMinimum, seq]

theorem disciplined_reckonTiming (h : s.lampsDisciplined) (r : Ramp) (rate : Plan → Nat) :
    (s.reckonTiming r rate).1.lampsDisciplined := by
  obtain ⟨m, e⟩ := sequencers_reckonTiming s r rate
  exact lampsDisciplined_set h e ((Sequencer.disciplined_congr rfl rfl rfl).trans (h r))

theorem disciplined_changeTiming (h : s.lampsDisciplined) (r : Ramp) : (s.changeTiming r).lampsDisciplined := by
  unfold changeTiming
  refine disciplined_reports ?_
  have h1 := disciplined_reckonTiming h r fun p => (s.rate r).lastFinal.getD p.startRate
  generalize s.reckonTiming r (fun p => (s.rate r).lastFinal.getD p.startRate) = x at h1 ⊢
  exact lampsDisciplined_modSeq h1 rfl rfl rfl

theorem sequencers_prepareMetering (s : State) (r : Ramp) (b : Bool) :
    (s.prepareMetering r b).sequencers
      = s.sequencers.set r (({ s.seq r with lanes := (s.seq r).lanesAt (.red 0) } : Sequencer).meteringStart b) := by
  simp [prepareMetering, seq, Tab.set_set]

theorem sequencers_startTiming (s : State) (r : Ramp) (b : Bool) :
    ∃ m, (s.startTiming r b).1.sequencers = s.sequencers.set r { s.seq r with redMinimum := m } := by
  unfold startTiming
  exact sequencers_reckonTiming s r _

theorem disciplined_enterMetering (h : s.lampsDisciplined) (r : Ramp) (b : Bool) : (s.enterMetering r b).lampsDisciplined := by
  unfold enterMetering
  refine disciplined_reports ?_
  obtain ⟨m, e⟩ := sequencers_startTiming (s.prepareMetering r b) r b
  generalize (s.prepareMetering r b).startTiming r b = x at e ⊢
  have e2 : x.1.sequencers = s.sequencers.set r
      { (({ s.seq r with lanes := (s.seq r).lanesAt (.red 0) } : Sequencer).meteringStart b) with redMinimum := m } := by
    rw [e]; simp [seq, Tab.set_set, sequencers_prepareMetering]
  have e3 : x.1.seq r
      = { (({ s.seq r with lanes := (s.seq r).lanesAt (.red 0) } : Sequencer).meteringStart b) with redMinimum := m } :=
    seq_of_sequencers s e2
  refine lampsDisciplined_set (r := r) h (q := { (x.1.seq r).startSlots x.2 with state := .metering }) ?_ ?_
  · rw [sequencers_setRampState, modSeq_sequencers, e2, seq_modSeq_self, Tab.set_set, Tab.set_set]
  · rw [e3]
    exact Sequencer.red_disciplined (p := s.seq r) (e := 0) rfl rfl rfl

/-- A slot given to a RED lane of a metering ramp with no lane GREEN keeps the discipline (R117, R118). -/
theorem disciplined_giveSlot (h : s.lampsDisciplined) (r : Ramp) (ln : LaneNo) (hm : (s.seq r).state = .metering)
    (hf : (s.seq r).inForce ln = true) (hg : (s.seq r).anyGreen = false) : (s.giveSlot r ln).lampsDisciplined := by
  unfold giveSlot; dsimp only
  split
  · exact h
  · rename_i t _
    refine lampsDisciplined_set (r := r) h (q := Sequencer.slotGiven t ln
      { s.seq r with lanes := (s.seq r).lanes.set ln (.green (t.greenTime * Config.samplesPerDs)) }) ?_ ?_
    · rw [modSeq_sequencers, sequencers_handLane, Tab.set_set]
      congr 1
      rw [seq_of_sequencers s (sequencers_handLane s r ln _)]
    · have hd := h r
      have h0 : ((s.seq r).lanes.get 0).isGreen = false := by simp [Sequencer.anyGreen, laneNos] at hg; exact hg.1
      have h1 : ((s.seq r).lanes.get 1).isGreen = false := by simp [Sequencer.anyGreen, laneNos] at hg; exact hg.2
      match ln, hf with
      | 0, hf =>
        simp_all [Sequencer.disciplined, Sequencer.laneAllowed, Sequencer.inForce, Sequencer.slotGiven, Sequencer.setTiming, Tab.get_set, LaneState.meters, LaneState.isGreen]
      | 1, hf =>
        simp_all [Sequencer.disciplined, Sequencer.laneAllowed, Sequencer.inForce, Sequencer.slotGiven, Sequencer.setTiming, Tab.get_set, LaneState.meters, LaneState.isGreen]

/-- The lane that a slot goes to is eligible (R117). -/
theorem eligible_of_nextLane {q : Sequencer} {ln : LaneNo} (h : q.nextLane = some ln) : q.eligible ln = true :=
  List.find?_some h

theorem disciplined_offerSlot (h : s.lampsDisciplined) (r : Ramp) (hm : (s.seq r).state = .metering) :
    (s.offerSlot r).lampsDisciplined := by
  unfold offerSlot
  split
  · rename_i ln hn
    have he := eligible_of_nextLane hn
    simp only [Sequencer.eligible, Bool.and_eq_true, Bool.not_eq_true'] at he
    exact disciplined_giveSlot h r ln hm he.1.1.1.1 he.1.2
  · exact lampsDisciplined_modSeq h rfl rfl rfl

theorem disciplined_judgeHeld (h : s.lampsDisciplined) (r : Ramp) : (s.judgeHeld r).lampsDisciplined := by
  unfold judgeHeld
  split
  · rename_i hm; exact disciplined_offerSlot h r hm.1
  · exact h

theorem disciplined_handDemand (h : s.lampsDisciplined) (r : Ramp) : (s.handDemand r).lampsDisciplined := by
  unfold handDemand; dsimp only
  split
  · split
    · exact disciplined_enterWarning h r
    · exact h
  · exact disciplined_darkThenOff h r
  · split
    · exact lampsDisciplined_setSeq h rfl rfl rfl
    · exact disciplined_enterEnding h r
  · refine disciplined_judgeHeld (disciplined_changeTiming ?_ r) r
    exact lampsDisciplined_setSeq h rfl rfl rfl
  · exact disciplined_enterMetering h r true
  · exact h

theorem disciplined_changeList (h : s.lampsDisciplined) (r : Ramp) (l : PlanList) : (s.changeList r l).lampsDisciplined := by
  have follow : ∀ t : State, t.lampsDisciplined →
      (if (t.planList r).demanded = (s.planList r).demanded then t else t.handDemand r).lampsDisciplined := by
    intro t ht
    split
    · exact ht
    · exact disciplined_handDemand ht r
  unfold changeList; dsimp only
  refine follow _ ?_
  split
  · exact lampsDisciplined_same h (setList_sequencers s r l)
  · exact lampsDisciplined_same h (by simp)

theorem disciplined_darken (h : s.lampsDisciplined) (r : Ramp) : (s.darken r).lampsDisciplined := by
  unfold darken
  split
  · exact h
  · exact h
  · exact lampsDisciplined_same (disciplined_goDark h r (Or.inr (Or.inl rfl))) (setFaultDark_sequencers _ r true)

theorem disciplined_forceOff (h : s.lampsDisciplined) (r : Ramp) : (s.forceOff r).lampsDisciplined := by
  unfold forceOff
  split
  · exact disciplined_darkThenOff h r
  · exact disciplined_darkThenOff h r
  · exact disciplined_darkThenOff h r
  · exact h

/-! ### The sequencer's own steps -/

theorem disciplined_warningTimerExpiry (h : s.lampsDisciplined) (r : Ramp) : (s.warningTimerExpiry r).lampsDisciplined := by
  unfold warningTimerExpiry; split
  · exact disciplined_enterMetering h r false
  · exact h

theorem disciplined_clearanceTimerExpiry (h : s.lampsDisciplined) (r : Ramp) :
    (s.clearanceTimerExpiry r).lampsDisciplined := by
  unfold clearanceTimerExpiry; split
  · exact disciplined_darkThenOff h r
  · exact h

theorem disciplined_slotExpiry (h : s.lampsDisciplined) (r : Ramp) : (s.slotExpiry r).lampsDisciplined := by
  unfold slotExpiry; split
  · rename_i hm
    refine disciplined_offerSlot (lampsDisciplined_modSeq h rfl rfl rfl) r ?_
    simpa using hm.1
  · exact h

/-- The end of a green (R119): the lane is RED. -/
theorem disciplined_redLane (h : s.lampsDisciplined) (r : Ramp) (ln : LaneNo) (e : Nat) (hm : (s.seq r).state = .metering)
    (hg : ((s.seq r).lanes.get ln).isGreen = true) : (s.handLane r ln (.red e)).lampsDisciplined := by
  refine lampsDisciplined_set h (sequencers_handLane s r ln (.red e)) ?_
  have hd := h r
  match ln with
  | 0 =>
    cases hl : (s.seq r).lanes.get 0 <;> cases hf : decide (0 < (s.seq r).laneCount) <;>
      simp_all [Sequencer.disciplined, Sequencer.laneAllowed, Sequencer.inForce, Tab.get_set, LaneState.meters, LaneState.isGreen]
  | 1 =>
    cases hl : (s.seq r).lanes.get 1 <;> cases hf : decide (1 < (s.seq r).laneCount) <;>
      simp_all [Sequencer.disciplined, Sequencer.laneAllowed, Sequencer.inForce, Tab.get_set, LaneState.meters, LaneState.isGreen]

theorem disciplined_greenEnd (h : s.lampsDisciplined) (r : Ramp) (ln : LaneNo) : (s.greenEnd r ln).lampsDisciplined := by
  unfold greenEnd; split
  · rename_i hm
    have h1 := disciplined_redLane h r ln 0 hm.1 (by rw [hm.2]; rfl)
    dsimp only; split
    · exact disciplined_enterEnding h1 r
    · exact disciplined_judgeHeld h1 r
  · exact h

theorem disciplined_redMinimumReached (h : s.lampsDisciplined) (r : Ramp) (ln : LaneNo) :
    (s.redMinimumReached r ln).lampsDisciplined := by
  unfold redMinimumReached; split
  · exact disciplined_judgeHeld h r
  · exact h

theorem disciplined_signPhaseChange (h : s.lampsDisciplined) (r : Ramp) : (s.signPhaseChange r).lampsDisciplined := by
  unfold signPhaseChange
  split
  · split
    · exact lampsDisciplined_modSeq h rfl rfl rfl
    · exact h
  · exact h

end State
end Sys2Proof.Machine
end

