-- ==== Sys2Proof/Laws/KeepsLists.lean ====
section
/-! SUPPORT. The plan selection lists under the operations that do not touch them. -/

namespace Sys2Proof.Machine.State

variable (s : State)

/-! ### Events (R188, R189) -/

@[simp] theorem lists_deliver (c : EventClass) (p : Port) : (s.deliver c p).lists = s.lists := rfl

@[simp] theorem lists_raise (c : EventClass) : (s.raise c).lists = s.lists :=
  each_proj lists _ _ s fun p t => by split <;> rfl

@[simp] theorem lists_raiseIf (b : Bool) (c : EventClass) : (s.raiseIf b c).lists = s.lists := by
  unfold raiseIf; split <;> simp

/-! ### Uses of stored records (R159, R160) -/

@[simp] theorem lists_correct (id : RecId) : (s.correct id).lists = s.lists := rfl

@[simp] theorem lists_discover (id : RecId) : (s.discover id).lists = s.lists := by
  unfold discover; simp only [lists_raise]; split <;> rfl

@[simp] theorem lists_useRecord (id : RecId) : (s.useRecord id).lists = s.lists := by
  unfold useRecord
  split
  · split
    · rfl
    · simp
    · split <;> simp
  · rfl

/-! ### Authority (8.1 to 8.3) -/

@[simp] theorem lists_giveUp (p : Port) (i : Fin 7) : (s.giveUp p i).lists = s.lists := by
  unfold giveUp; split <;> simp

@[simp] theorem lists_becomeSilent (p : Port) : (s.becomeSilent p).lists = s.lists := by
  unfold becomeSilent
  dsimp only
  split <;> simp [each_proj lists]

@[simp] theorem lists_takeLapse (b : Bool) (n : Nat) (p : Port) : (s.takeLapse b n p).lists = s.lists := by
  unfold takeLapse; dsimp only; split <;> simp

@[simp] theorem lists_handCorridor (x : Option Port) (cs : CorridorRec) :
    (s.handCorridor x cs).lists = s.lists := by
  unfold handCorridor
  rw [each_proj lists _ _ _ fun p t => lists_takeLapse t _ _ p]

@[simp] theorem lists_takeCorridor : s.takeCorridor.lists = s.lists := by unfold takeCorridor; simp

@[simp] theorem lists_regain (p : Port) (i : Fin 7) : (s.regain p i).lists = s.lists := by
  unfold regain; split <;> simp

/-! ### Lists (4.4) -/

/-! ### Sequencers (chapter 6) -/

@[simp] theorem lists_handLane (r : Ramp) (ln : LaneNo) (st : LaneState) : (s.handLane r ln st).lists = s.lists := by
  unfold handLane; dsimp only; split <;> simp

@[simp] theorem lists_handLanes (r : Ramp) (st : LaneState) : (s.handLanes r st).lists = s.lists :=
  each_proj lists _ _ s fun ln t => by simp

@[simp] theorem lists_darkLanes (r : Ramp) : (s.darkLanes r).lists = s.lists :=
  each_proj lists _ _ s fun ln t => by simp

@[simp] theorem lists_setRampState (r : Ramp) (st : RampState) : (s.setRampState r st).lists = s.lists := by
  unfold setRampState
  simp only [lists_raise]
  split <;> split <;> rfl

@[simp] theorem lists_goDark (r : Ramp) (st : RampState) : (s.goDark r st).lists = s.lists := by unfold goDark; simp

@[simp] theorem lists_warningEntry (r : Ramp) : (s.warningEntry r).lists = s.lists := by unfold warningEntry; simp

@[simp] theorem lists_endingEntry (r : Ramp) : (s.endingEntry r).lists = s.lists := by unfold endingEntry; simp

@[simp] theorem lists_offSettled (r : Ramp) : (s.offSettled r).lists = s.lists := by
  unfold offSettled; dsimp only; split <;> split <;> simp

@[simp] theorem lists_offFollowed (r : Ramp) : (s.offFollowed r).lists = s.lists := by
  unfold offFollowed; split <;> simp

@[simp] theorem lists_report (r : Ramp) : (s.report r).lists = s.lists := by
  unfold report; dsimp only; split
  · split <;> simp
  · simp
  · split <;> simp
  · split <;> simp
  · split
    · simp
    · split <;> simp
  · simp

@[simp] theorem lists_reports : s.reports.lists = s.lists := each_proj lists _ _ s fun r t => by simp

@[simp] theorem lists_useCorridor : s.useCorridor.lists = s.lists := by unfold useCorridor; simp

@[simp] theorem lists_enterWarning (r : Ramp) : (s.enterWarning r).lists = s.lists := by unfold enterWarning; simp

@[simp] theorem lists_enterEnding (r : Ramp) : (s.enterEnding r).lists = s.lists := by unfold enterEnding; simp

@[simp] theorem lists_reachOff (r : Ramp) : (s.reachOff r).lists = s.lists := by
  unfold reachOff; dsimp only; split <;> simp

@[simp] theorem lists_takeRedMinimum (r : Ramp) (n : Nat) : (s.takeRedMinimum r n).lists = s.lists := rfl

@[simp] theorem lists_giveSlot (r : Ramp) (ln : LaneNo) : (s.giveSlot r ln).lists = s.lists := by
  unfold giveSlot; dsimp only; split <;> simp

@[simp] theorem lists_offerSlot (r : Ramp) : (s.offerSlot r).lists = s.lists := by
  unfold offerSlot; split <;> simp

@[simp] theorem lists_judgeHeld (r : Ramp) : (s.judgeHeld r).lists = s.lists := by
  unfold judgeHeld; split <;> simp

@[simp] theorem lists_darken (r : Ramp) : (s.darken r).lists = s.lists := by
  unfold darken; split <;> simp

@[simp] theorem lists_forceOff (r : Ramp) : (s.forceOff r).lists = s.lists := by
  unfold forceOff; split <;> simp

@[simp] theorem lists_clearanceTimerExpiry (r : Ramp) : (s.clearanceTimerExpiry r).lists = s.lists := by
  unfold clearanceTimerExpiry; split <;> simp

@[simp] theorem lists_slotExpiry (r : Ramp) : (s.slotExpiry r).lists = s.lists := by
  unfold slotExpiry; split <;> simp

@[simp] theorem lists_greenEnd (r : Ramp) (ln : LaneNo) : (s.greenEnd r ln).lists = s.lists := by
  unfold greenEnd
  split
  · dsimp only; split <;> simp
  · rfl

@[simp] theorem lists_redMinimumReached (r : Ramp) (ln : LaneNo) : (s.redMinimumReached r ln).lists = s.lists := by
  unfold redMinimumReached; split <;> simp

@[simp] theorem lists_signPhaseChange (r : Ramp) : (s.signPhaseChange r).lists = s.lists := by
  unfold signPhaseChange
  split
  · split <;> simp
  · rfl

end Sys2Proof.Machine.State
end

