-- ==== Sys2Proof/Laws/Lists.lean ====
section
/-! SUPPORT. The order of R72 under the list operations and under the sequencer operations that read the top plan. -/

namespace Sys2Proof.Machine

namespace PlanList

/-- The order rests on the FALLBACK entry and on the plan of the governing entry alone. -/
theorem ordered_congr {l m : PlanList} (hf : m.fallback = l.fallback) (hg : m.governing = l.governing) :
    m.ordered = l.ordered := by
  simp [ordered, governingPlan, hf, hg]

theorem ordered_of_no_fallback {l : PlanList} (h : l.fallback = none) : l.ordered = true := by simp [ordered, h]

theorem ordered_of_plan {l : PlanList} {k : PlanSlot} (h : l.governingPlan = some k) : l.ordered = true := by
  simp [ordered, h]

@[simp] theorem governingPlan_withFallback (l : PlanList) (x : Option PlanRef) :
    ({ l with fallback := x } : PlanList).governingPlan = l.governingPlan := rfl

end PlanList

namespace State

variable {s : State}

/-- Operations that leave the lists alone keep their order. -/
theorem listsOrdered_of_lists {t : State} (e : t.lists = s.lists) (h : s.listsOrdered) : t.listsOrdered := by
  intro r
  have : t.planList r = s.planList r := by simp [planList, e]
  rw [this]; exact h r

/-- A list replaced by an ordered one. -/
theorem listsOrdered_setList (h : s.listsOrdered) {r : Ramp} {l : PlanList} (hl : l.ordered = true) :
    (s.setList r l).listsOrdered := by
  intro r'
  by_cases e : r' = r
  · subst e; simpa using hl
  · rw [planList_setList_ne s e]; exact h r'

/-- What a fallback test needs of the other lists. -/
def orderedBut (s : State) (r : Ramp) : Prop := ∀ r', r' ≠ r → (s.planList r').ordered = true

theorem orderedBut_of_lists {t : State} {r : Ramp} (e : t.lists = s.lists) (h : s.orderedBut r) : t.orderedBut r := by
  intro r' hr
  have : t.planList r' = s.planList r' := by simp [planList, e]
  rw [this]; exact h r' hr

theorem orderedBut_setList {r : Ramp} (h : s.orderedBut r) (l : PlanList) : (s.setList r l).orderedBut r := by
  intro r' hr
  rw [planList_setList_ne s hr]; exact h r' hr

theorem listsOrdered_of_but {r : Ramp} (h : s.orderedBut r) (hr : (s.planList r).ordered = true) : s.listsOrdered := by
  intro r'
  by_cases e : r' = r
  · subst e; exact hr
  · exact h r' e

theorem orderedBut_of_ordered (h : s.listsOrdered) (r : Ramp) : s.orderedBut r := fun r' _ => h r'

theorem ordered_removeFallback {r : Ramp} (h : s.orderedBut r) : (s.removeFallback r).listsOrdered := by
  refine listsOrdered_of_lists (s := s.setList r { s.planList r with fallback := none }) (by simp [removeFallback]) ?_
  exact listsOrdered_of_but (orderedBut_setList h _) (by simpa using PlanList.ordered_of_no_fallback rfl)

theorem ordered_placeFallback {r : Ramp} {k : PlanSlot} (n : PlanRef) (h : s.orderedBut r)
    (hk : (s.planList r).governingPlan = some k) : (s.placeFallback r n).listsOrdered := by
  refine listsOrdered_of_lists (s := s.setList r { s.planList r with fallback := some n }) (by simp [placeFallback]) ?_
  exact listsOrdered_of_but (orderedBut_setList h _) (by simpa using PlanList.ordered_of_plan (k := k) (by simpa using hk))

/-- The fallback test of a list restores the order of that list (R72, R74). -/
theorem ordered_fallbackTest {r : Ramp} (h : s.orderedBut r) : (s.fallbackTest r).listsOrdered := by
  unfold fallbackTest
  split
  · exact ordered_removeFallback h
  · rename_i k hk
    have hu : (s.useRecord (.plan k)).lists = s.lists := by simp
    have hb : (s.useRecord (.plan k)).orderedBut r := orderedBut_of_lists hu h
    dsimp only
    split
    · exact ordered_removeFallback hb
    · refine ordered_placeFallback (k := k) _ hb ?_
      simpa [planList, hu] using hk

theorem ordered_readTopPlan (h : s.listsOrdered) (r : Ramp) : (s.readTopPlan r).1.listsOrdered := by
  unfold readTopPlan
  split
  · rename_i k _
    have hu : (s.useRecord (.plan k)).listsOrdered := listsOrdered_of_lists (by simp) h
    dsimp only
    split
    · exact hu
    · split
      · rename_i hf
        refine listsOrdered_setList hu ?_
        have := hu r
        simp only [PlanList.ordered, PlanList.governingPlan_withFallback, Bool.or_eq_true] at this ⊢
        rcases this with hn | hp
        · rw [Option.isNone_iff_eq_none] at hn; rw [hn] at hf; cases hf
        · exact Or.inr hp
      · exact ordered_fallbackTest (orderedBut_of_ordered hu r)
  · exact h

theorem ordered_reckonTiming (h : s.listsOrdered) (r : Ramp) (rate : Plan → Nat) :
    (s.reckonTiming r rate).1.listsOrdered :=
  listsOrdered_of_lists (s := (s.readTopPlan r).1) (by simp [reckonTiming]) (ordered_readTopPlan h r)

theorem lists_enterMetering (s : State) (r : Ramp) (b : Bool) :
    (s.enterMetering r b).lists = ((s.prepareMetering r b).startTiming r b).1.lists := by
  unfold enterMetering
  simp only [lists_reports, lists_setRampState, modSeq_lists]

theorem ordered_startTiming (h : s.listsOrdered) (r : Ramp) (b : Bool) : (s.startTiming r b).1.listsOrdered := by
  unfold startTiming
  exact ordered_reckonTiming h r _

theorem ordered_enterMetering (h : s.listsOrdered) (r : Ramp) (b : Bool) : (s.enterMetering r b).listsOrdered := by
  have hp : (s.prepareMetering r b).listsOrdered := listsOrdered_of_lists (by simp [prepareMetering]) h
  exact listsOrdered_of_lists (lists_enterMetering s r b) (ordered_startTiming hp r b)

theorem lists_changeTiming (s : State) (r : Ramp) :
    (s.changeTiming r).lists = (s.reckonTiming r fun p => (s.rate r).lastFinal.getD p.startRate).1.lists := by
  unfold changeTiming
  simp only [lists_reports, modSeq_lists]

theorem ordered_changeTiming (h : s.listsOrdered) (r : Ramp) : (s.changeTiming r).listsOrdered :=
  listsOrdered_of_lists (lists_changeTiming s r) (ordered_reckonTiming h r _)

theorem ordered_handDemand (h : s.listsOrdered) (r : Ramp) : (s.handDemand r).listsOrdered := by
  unfold handDemand; dsimp only
  split
  · split
    · exact listsOrdered_of_lists (by simp) h
    · exact h
  · exact listsOrdered_of_lists (by simp) h
  · split <;> exact listsOrdered_of_lists (by simp) h
  · exact listsOrdered_of_lists (lists_judgeHeld _ r)
      (ordered_changeTiming (listsOrdered_of_lists (setSeq_lists s r _) h) r)
  · exact ordered_enterMetering h r true
  · exact h

/-- A change of a list that leaves its FALLBACK entry to the fallback test ends in an ordered list (R72, R73). -/
theorem ordered_changeList (h : s.listsOrdered) (r : Ramp) (l : PlanList) (hl : l.fallback = (s.planList r).fallback) :
    (s.changeList r l).listsOrdered := by
  have follow : ∀ t : State, t.listsOrdered → (if (t.planList r).demanded = (s.planList r).demanded then t else t.handDemand r).listsOrdered := by
    intro t ht
    split
    · exact ht
    · exact ordered_handDemand ht r
  refine follow _ ?_
  split
  · rename_i hg
    exact listsOrdered_setList h (by rw [PlanList.ordered_congr hl hg]; exact h r)
  · exact ordered_fallbackTest (orderedBut_setList (orderedBut_of_ordered h r) l)

theorem ordered_warningTimerExpiry (h : s.listsOrdered) (r : Ramp) : (s.warningTimerExpiry r).listsOrdered := by
  unfold warningTimerExpiry; split
  · exact ordered_enterMetering h r false
  · exact h

end State
end Sys2Proof.Machine
end

