-- ==== Sys2Proof/Laws/Carries.lean ====
section
/-! SUPPORT. What every operation carries over: the order of the lists, the discipline of the lamps, the calendar, the queue and a
locked safety table. -/

namespace Sys2Proof.Machine.State

variable {s t u : State}

theorem Carries.refl (s : State) : s.Carries s := ⟨id, id, id, rfl, fun h => ⟨h, rfl⟩⟩

theorem Carries.trans (h : s.Carries t) (g : t.Carries u) : s.Carries u where
  lists := g.lists ∘ h.lists
  lamps := g.lamps ∘ h.lamps
  calendar := g.calendar ∘ h.calendar
  queue := g.queue.trans h.queue
  lock := fun l => ⟨(g.lock (h.lock l).1).1, (g.lock (h.lock l).1).2.trans (h.lock l).2⟩

theorem Carries.each {α : Type} (xs : List α) (f : α → State → State) (s : State) (step : ∀ x t, Carries t (f x t)) :
    s.Carries (s.each xs f) :=
  each_induct (P := fun t => s.Carries t) xs f (.refl s) fun x _ h => h.trans (step x _)

theorem Carries.ite {p : Prop} [Decidable p] (h : s.Carries t) (g : s.Carries u) : s.Carries (if p then t else u) := by
  split
  · exact h
  · exact g

theorem calendarSound_of_pinned (h : t.pinned = s.pinned) (hs : s.calendarSound) : t.calendarSound := by
  simp only [pinned, Prod.mk.injEq] at h
  obtain ⟨_, _, _, hc, hm⟩ := h
  unfold calendarSound; rw [hc, hm]; exact hs

/-- Operations with laws for the lists and the lamps that leave the pinned items alone. -/
theorem Carries.of_pinned (hl : s.listsOrdered → t.listsOrdered) (hs : s.lampsDisciplined → t.lampsDisciplined)
    (h : t.pinned = s.pinned) : s.Carries t where
  lists := hl
  lamps := hs
  calendar := calendarSound_of_pinned h
  queue := congrArg (·.1) h
  lock := fun l => by
    simp only [pinned, Prod.mk.injEq] at h
    exact ⟨h.2.2.1.trans l, h.2.1⟩

/-- Operations that leave the lists and the sequencers alone. -/
theorem Carries.of_same (hl : t.lists = s.lists) (hs : t.sequencers = s.sequencers) (h : t.pinned = s.pinned) : s.Carries t :=
  .of_pinned (listsOrdered_of_lists hl) (fun d => lampsDisciplined_same d hs) h

theorem pinned_of_kept (h : t.kept = s.kept) : t.pinned = s.pinned := by
  have := congrArg pinned h
  exact this

theorem Carries.of_kept (hl : s.listsOrdered → t.listsOrdered) (hs : s.lampsDisciplined → t.lampsDisciplined)
    (h : t.kept = s.kept) : s.Carries t := .of_pinned hl hs (pinned_of_kept h)

variable (s)

/-! ### Events, memory uses and the corridor settings -/

theorem carries_deliver (c : EventClass) (p : Port) : s.Carries (s.deliver c p) := .of_same rfl rfl rfl
theorem carries_raise (c : EventClass) : s.Carries (s.raise c) := .of_same (by simp) (by simp) (pinned_of_kept (by simp))
theorem carries_raiseIf (b : Bool) (c : EventClass) : s.Carries (s.raiseIf b c) :=
  .of_same (by simp) (by simp) (pinned_of_kept (by simp))
theorem carries_useRecord (id : RecId) : s.Carries (s.useRecord id) :=
  .of_same (by simp) (by simp) (pinned_of_kept (by simp))
theorem carries_takeCorridor : s.Carries s.takeCorridor := .of_same (by simp) (by simp) (pinned_of_kept (by simp))
theorem carries_handCorridor (x : Option Port) (cs : CorridorRec) : s.Carries (s.handCorridor x cs) :=
  .of_same (by simp) (by simp) (pinned_of_kept (by simp))
theorem carries_giveUp (p : Port) (i : Fin 7) : s.Carries (s.giveUp p i) :=
  .of_same (by simp) (by simp) (pinned_of_kept (by simp))
theorem carries_becomeSilent (p : Port) : s.Carries (s.becomeSilent p) :=
  .of_same (by simp) (by simp) (pinned_of_kept (by simp))
theorem carries_regain (p : Port) (i : Fin 7) : s.Carries (s.regain p i) :=
  .of_same (by simp) (by simp) (pinned_of_kept (by simp))
theorem carries_modPort (p : Port) (f : LinkPort → LinkPort) : s.Carries (s.modPort p f) := .of_same rfl rfl rfl
theorem carries_setPort (p : Port) (x : LinkPort) : s.Carries (s.setPort p x) := .of_same rfl rfl rfl
theorem carries_reports : s.Carries s.reports :=
  .of_kept (listsOrdered_of_lists (by simp)) disciplined_reports (by simp)
theorem carries_useCorridor : s.Carries s.useCorridor := (carries_takeCorridor s).trans (carries_reports _)

/-! ### Lists and sequencers -/

theorem carries_fallbackTest (r : Ramp) : s.Carries (s.fallbackTest r) :=
  .of_kept (fun h => ordered_fallbackTest (orderedBut_of_ordered h r)) (fun d => lampsDisciplined_same d (by simp)) (by simp)
theorem carries_changeList (r : Ramp) (l : PlanList) (hl : l.fallback = (s.planList r).fallback) :
    s.Carries (s.changeList r l) :=
  .of_kept (fun h => ordered_changeList h r l hl) (fun h => disciplined_changeList h r l) (by simp)
theorem carries_darken (r : Ramp) : s.Carries (s.darken r) :=
  .of_kept (listsOrdered_of_lists (by simp)) (fun h => disciplined_darken h r) (by simp)
theorem carries_forceOff (r : Ramp) : s.Carries (s.forceOff r) :=
  .of_kept (listsOrdered_of_lists (by simp)) (fun h => disciplined_forceOff h r) (by simp)
theorem carries_enterWarning (r : Ramp) : s.Carries (s.enterWarning r) :=
  .of_kept (listsOrdered_of_lists (by simp)) (fun h => disciplined_enterWarning h r) (by simp)
theorem carries_judgeHeld (r : Ramp) : s.Carries (s.judgeHeld r) :=
  .of_kept (listsOrdered_of_lists (by simp)) (fun h => disciplined_judgeHeld h r) (by simp)
theorem carries_warningTimerExpiry (r : Ramp) : s.Carries (s.warningTimerExpiry r) :=
  .of_kept (fun h => ordered_warningTimerExpiry h r) (fun h => disciplined_warningTimerExpiry h r) (by simp)
theorem carries_clearanceTimerExpiry (r : Ramp) : s.Carries (s.clearanceTimerExpiry r) :=
  .of_kept (listsOrdered_of_lists (by simp)) (fun h => disciplined_clearanceTimerExpiry h r) (by simp)
theorem carries_slotExpiry (r : Ramp) : s.Carries (s.slotExpiry r) :=
  .of_kept (listsOrdered_of_lists (by simp)) (fun h => disciplined_slotExpiry h r) (by simp)
theorem carries_greenEnd (r : Ramp) (ln : LaneNo) : s.Carries (s.greenEnd r ln) :=
  .of_kept (listsOrdered_of_lists (by simp)) (fun h => disciplined_greenEnd h r ln) (by simp)
theorem carries_redMinimumReached (r : Ramp) (ln : LaneNo) : s.Carries (s.redMinimumReached r ln) :=
  .of_kept (listsOrdered_of_lists (by simp)) (fun h => disciplined_redMinimumReached h r ln) (by simp)
theorem carries_signPhaseChange (r : Ramp) : s.Carries (s.signPhaseChange r) :=
  .of_kept (listsOrdered_of_lists (by simp)) (fun h => disciplined_signPhaseChange h r) (by simp)

/-! ### Loops -/

theorem carries_setLoop (i : LoopNo) (l : Loop) : s.Carries (s.setLoop i l) := .of_same rfl rfl rfl

theorem carries_putLoop (i : LoopNo) (l : Loop) : s.Carries (s.putLoop i l) := by
  unfold putLoop; dsimp only
  refine Carries.trans (carries_setLoop s i l) ?_
  split
  · exact .refl _
  · exact .ite (carries_raise _ _) (carries_raiseIf _ _ _)

theorem carries_rejudge (i : LoopNo) (f : Loop → Loop) : s.Carries (s.rejudge i f) := carries_putLoop s i _

theorem carries_loseConfig (i : LoopNo) : s.Carries (s.loseConfig i) := by
  unfold loseConfig; exact .ite (.refl s) (carries_putLoop s i _)

theorem carries_useLoop (i : LoopNo) : s.Carries (s.useLoop i) := by
  unfold useLoop; exact (carries_useRecord s _).trans (.ite (carries_loseConfig _ i) (.refl _))

theorem carries_timer (x : PeriodTimer) : s.Carries { s with timer := x } := .of_same rfl rfl rfl

theorem carries_chatterSecondJudgement : s.Carries s.chatterSecondJudgement := by
  unfold chatterSecondJudgement
  split
  · exact (carries_timer s { s.timer with secondDue := false }).trans (Carries.each _ _ _ fun i t => carries_rejudge t i _)
  · exact .refl s

theorem carries_stuckOnEntry (i : LoopNo) : s.Carries (s.stuckOnEntry i) := by
  unfold stuckOnEntry; exact .ite (carries_rejudge s i _) (.refl s)
theorem carries_stuckOnClear (i : LoopNo) : s.Carries (s.stuckOnClear i) := by
  unfold stuckOnClear; exact .ite (carries_rejudge s i _) (.refl s)
theorem carries_silenceEntry (i : LoopNo) : s.Carries (s.silenceEntry i) := by
  unfold silenceEntry; exact .ite (carries_rejudge s i _) (.refl s)

theorem carries_testPresenceEnd (i : LoopNo) : s.Carries (s.testPresenceEnd i) := by
  unfold testPresenceEnd; exact .ite (carries_setLoop s i _) (.refl s)

theorem carries_settleLoops : s.Carries s.settleLoops := by
  unfold settleLoops
  refine Carries.trans (Carries.each _ _ s fun i t => ?_) (carries_chatterSecondJudgement _)
  exact (((carries_stuckOnEntry t i).trans (carries_stuckOnClear _ i)).trans (carries_silenceEntry _ i)).trans
    (carries_testPresenceEnd _ i)

theorem carries_sampleLoop (inp : Inputs) (i : LoopNo) : s.Carries (s.sampleLoop inp i) :=
  carries_putLoop s i _

theorem carries_setSeq {r : Ramp} {q : Sequencer} (hs : q.state = (s.seq r).state) (hl : q.lanes = (s.seq r).lanes)
    (hc : q.laneCount = (s.seq r).laneCount) : s.Carries (s.setSeq r q) :=
  .of_pinned id (fun d => lampsDisciplined_setSeq d hs hl hc) rfl

theorem carries_stateCheckIn (r : Ramp) : s.Carries (s.stateCheckIn r) := by
  unfold stateCheckIn; dsimp only
  refine .ite (.refl s) (Carries.trans (carries_setSeq s (r := r) ?_ ?_ ?_) (carries_judgeHeld _ r)) <;> rfl

/-! ### Memory -/

theorem carries_scrubUse (id : RecId) : s.Carries (s.scrubUse id) := by
  unfold scrubUse
  split
  · exact (carries_settleLoops _).trans (carries_useLoop _ _)
  · exact carries_useCorridor _
  · exact carries_useRecord _ _

theorem carries_scrubPosition (id : RecId) (x : PeriodTimer) :
    s.Carries { s with timer := x, memory := { s.memory with scrubPosition := id } } := .of_same rfl rfl rfl

theorem carries_scrubRead : s.Carries s.scrubRead := by
  unfold scrubRead
  split
  · exact Carries.trans (carries_scrubPosition s _ _) (carries_scrubUse _ _)
  · exact .refl s

theorem carries_addError (id : RecId) : s.Carries (s.addError id) := by
  unfold addError; exact .ite (.of_same rfl rfl rfl) (.refl s)

theorem carries_storedAnew (id : RecId) : s.Carries (s.storedAnew id) := .of_same rfl rfl rfl

/-! ### Incidents and the panel -/

theorem carries_setIncident (x : Option IncidentRec) : s.Carries (s.setIncident x) := .of_same rfl rfl rfl
theorem carries_setQualified (x : List Qualified) : s.Carries { s with qualified := x } := .of_same rfl rfl rfl

theorem carries_takeIncident (q : Qualified) (k : Rank) : s.Carries (s.takeIncident q k) := by
  unfold takeIncident; dsimp only
  exact (Carries.trans (carries_setIncident s _) (carries_darken _ q.ramp)).trans (carries_raise _ _)

theorem carries_incidentQualifies (r : Ramp) (ln : LaneNo) (k : IncidentKind) : s.Carries (s.incidentQualifies r ln k) := by
  unfold incidentQualifies
  split
  · exact Carries.trans (carries_setQualified s _) (carries_takeIncident _ _ _)
  · exact .refl s

theorem carries_setButton (r : Ramp) (b : Button) : s.Carries (s.setButton r b) := .of_same rfl rfl rfl

theorem carries_panelShortPress (r : Ramp) : s.Carries (s.panelShortPress r) := by
  unfold panelShortPress
  split
  · exact Carries.trans (carries_setButton s r _) (.ite (carries_changeList _ r _ rfl) (.refl _))
  · exact .refl s

theorem carries_longHold (r : Ramp) : s.Carries (s.longHold r) := by
  unfold longHold
  refine Carries.trans (Carries.trans (t := (s.setList r { s.planList r with hold := true }).fallbackTest r) ?_
    (carries_forceOff _ r)) (.of_same rfl rfl rfl)
  exact .of_pinned (fun h => ordered_fallbackTest (orderedBut_setList (orderedBut_of_ordered h r) _))
    (fun d => lampsDisciplined_same d (by simp)) ((pinned_of_kept (by simp)).trans rfl)

theorem carries_panelLongHold (r : Ramp) : s.Carries (s.panelLongHold r) := by
  unfold panelLongHold
  split
  · exact Carries.trans (carries_setButton s r _) (.ite (carries_longHold _ r) (.refl _))
  · exact .refl s

end Sys2Proof.Machine.State
end

