-- ==== Sys2Proof/Laws/CarriesClock.lean ====
section
/-! SUPPORT. The calendar (R84, R85), and what the Clock and Schedule Unit and the period close carry over. -/

namespace Sys2Proof.Machine

/-! ### The calendar -/

namespace DateTime

theorem monthLength_pos (y m : Nat) : 1 ≤ monthLength y m := by
  unfold monthLength; split
  · split <;> omega
  all_goals omega

theorem wf_iff (t : DateTime) : t.wf = true ↔ t.year ≤ 99 ∧ 1 ≤ t.month ∧ t.month ≤ 12 ∧ 1 ≤ t.day
    ∧ t.day ≤ monthLength t.year t.month ∧ t.hour ≤ 23 ∧ t.minute ≤ 59 ∧ t.second ≤ 59 := by
  simp [wf, and_assoc]

theorem wf_nextDay {t : DateTime} (h : t.wf = true) : t.nextDay.wf = true := by
  rw [wf_iff] at h ⊢
  unfold nextDay
  split
  · exact ⟨h.1, h.2.1, h.2.2.1, by dsimp only; omega, by dsimp only; omega, h.2.2.2.2.2⟩
  · split
    · exact ⟨h.1, by dsimp only; omega, by dsimp only; omega, by dsimp only; omega, monthLength_pos _ _, h.2.2.2.2.2⟩
    · exact ⟨by dsimp only; omega, by dsimp only; omega, by dsimp only; omega, by dsimp only; omega, monthLength_pos _ _,
        h.2.2.2.2.2⟩

theorem wf_nextSecond {t : DateTime} (h : t.wf = true) : t.nextSecond.wf = true := by
  unfold nextSecond
  split
  · rw [wf_iff] at h ⊢; dsimp only; omega
  · split
    · rw [wf_iff] at h ⊢; dsimp only; omega
    · split
      · rw [wf_iff] at h ⊢; dsimp only; omega
      · refine wf_nextDay ?_
        rw [wf_iff] at h ⊢; dsimp only; omega

theorem wf_iterate {t : DateTime} (n : Nat) (h : t.wf = true) : (Nat.iterate nextSecond n t).wf = true := by
  induction n generalizing t with
  | zero => exact h
  | succ n ih => exact ih (wf_nextSecond h)

end DateTime

namespace State

variable (s : State)

/-! ### The Clock and Schedule Unit -/

theorem carries_readSchedules : s.Carries s.readSchedules := Carries.each _ _ s fun _ t => carries_useRecord t _

theorem carries_setSchedule (r : Ramp) (a : Option Action) : s.Carries (s.setSchedule r a) := carries_changeList s r _ rfl

theorem carries_minuteEvaluation : s.Carries s.minuteEvaluation := by
  unfold minuteEvaluation; dsimp only
  refine ((carries_readSchedules s).trans (Carries.each _ _ _ fun r t => ?_)).trans (carries_raiseIf _ _ _)
  split
  · exact carries_setSchedule t r _
  · exact .refl t

theorem carries_catchUp : s.Carries s.catchUp := by
  unfold catchUp; dsimp only
  exact ((carries_readSchedules s).trans (Carries.each _ _ _ fun r t => carries_setSchedule t r _)).trans (carries_raise _ _)

variable {s}

/-- The clock set to a date and time of the calendar. -/
theorem carries_setClockTime {t : DateTime} (h : s.calendarSound → t.wf = true) : s.Carries (s.setClockTime t) where
  lists := id
  lamps := id
  calendar := fun c => ⟨h c, c.2⟩
  queue := rfl
  lock := fun l => ⟨l, rfl⟩

/-- A shift record replaced by one whose hour is of R89. -/
theorem carries_setShift {i : ShiftSlot} {x : Option ShiftRec}
    (h : s.calendarSound → ∀ y, x = some y → 1 ≤ y.hour ∧ y.hour ≤ 22) : s.Carries (s.setShift i x) where
  lists := id
  lamps := id
  calendar := fun c => ⟨c.1, fun j y hy => by
    simp only [setShift, Tab.get_set] at hy
    split at hy
    · exact h c y hy
    · exact c.2 j y hy⟩
  queue := rfl
  lock := fun l => ⟨l, rfl⟩

theorem carries_setHealth (id : RecId) (x : Health) : s.Carries (s.setHealth id x) := .of_same rfl rfl rfl

theorem readable_hour {i : ShiftSlot} {x : ShiftRec} (hx : s.readableShift i = some x) (c : s.calendarSound) :
    1 ≤ x.hour ∧ x.hour ≤ 22 := by
  unfold readableShift at hx
  split at hx
  · cases hx
  · exact c.2 i x hx

theorem carries_applyShift {i : ShiftSlot} {x : ShiftRec} (hx : s.readableShift i = some x) :
    s.Carries (s.applyShift i x) := by
  unfold applyShift; dsimp only
  refine Carries.trans (Carries.trans (Carries.trans (carries_setClockTime fun c => ?_) (carries_setShift ?_))
    (carries_setHealth _ _)) (carries_raise _ _)
  · have hh := readable_hour hx c
    have hw := c.1
    rw [DateTime.wf_iff] at hw ⊢
    dsimp only
    refine ⟨hw.1, hw.2.1, hw.2.2.1, hw.2.2.2.1, hw.2.2.2.2.1, ?_, by omega, by omega⟩
    unfold ShiftRec.landingHour; split <;> omega
  · intro c y hy
    cases hy
    refine readable_hour (s := s.setClockTime { s.retained.clock with hour := x.landingHour, minute := 0, second := 0 }) (i := i)
      (x := x) hx ?_
    exact c

theorem carries_judgeShift (i : ShiftSlot) : s.Carries (s.judgeShift i).1 := by
  unfold judgeShift
  cases hx : s.readableShift i with
  | none => exact .refl s
  | some x =>
    dsimp only
    split
    · exact carries_applyShift hx
    · exact .refl s

theorem carries_readShifts : s.Carries s.readShifts :=
  (carries_useRecord s (.shift 0)).trans (carries_useRecord _ (.shift 1))

theorem carries_judgeShifts : s.Carries s.judgeShifts.1 := by
  have h0 := carries_readShifts.trans (carries_judgeShift (s := s.readShifts) 0)
  unfold judgeShifts
  generalize s.readShifts.judgeShift 0 = x at h0 ⊢
  obtain ⟨u, d⟩ := x
  cases d with
  | some d => exact h0
  | none => exact h0.trans (carries_judgeShift 1)

theorem carries_followAdvance : s.Carries s.followAdvance := by
  unfold followAdvance; dsimp only
  have h : s.Carries (if s.retained.clock.minute = 0 ∧ s.retained.clock.second = 0 then s.judgeShifts else (s, none)).1 := by
    split
    · exact carries_judgeShifts
    · exact .refl s
  generalize (if s.retained.clock.minute = 0 ∧ s.retained.clock.second = 0 then s.judgeShifts else (s, none)) = x at h ⊢
  obtain ⟨u, d⟩ := x
  exact h.trans (.ite (carries_catchUp u) (.ite (carries_minuteEvaluation u) (.refl u)))

theorem carries_advance : s.Carries s.advance := by
  unfold advance; dsimp only
  refine Carries.trans (carries_setClockTime fun c => DateTime.wf_nextSecond c.1) ?_
  exact .ite carries_followAdvance (.refl _)

theorem carries_setPhase (n : Nat) : s.Carries { s with retained := { s.retained with phase := n } } := .of_same rfl rfl rfl

theorem carries_clockAdvance : s.Carries s.clockAdvance := by
  unfold clockAdvance
  split
  · exact Carries.trans (carries_setPhase _) carries_advance
  · exact .refl s

theorem carries_retained {x : Retained} (h : s.calendarSound → x.clock.wf = true) : s.Carries { s with retained := x } where
  lists := id
  lamps := id
  calendar := fun c => ⟨h c, c.2⟩
  queue := rfl
  lock := fun l => ⟨l, rfl⟩

theorem carries_acceptClock {t : DateTime} (h : t.wf = true) : s.Carries (s.acceptClock t) := by
  unfold acceptClock
  exact Carries.trans (carries_retained fun _ => h) (carries_catchUp _)

/-! ### The period close -/

theorem carries_setMeas (r : Ramp) (m : RampMeasure) : s.Carries (s.setMeas r m) := .of_same rfl rfl rfl
theorem carries_setRate (r : Ramp) (m : RampRate) : s.Carries (s.setRate r m) := .of_same rfl rfl rfl
theorem carries_corridorMeasure (x : CorridorMeasure) : s.Carries { s with corridorMeasure := x } := .of_same rfl rfl rfl
theorem carries_corridorRate (x : CorridorRate) : s.Carries { s with corridorRate := x } := .of_same rfl rfl rfl

/-- All sequencers changed alike, states, lanes and Lane Counts left alone. -/
theorem carries_mapSequencers {f : Sequencer → Sequencer} (hs : ∀ q, (f q).state = q.state) (hl : ∀ q, (f q).lanes = q.lanes)
    (hc : ∀ q, (f q).laneCount = q.laneCount) : s.Carries { s with sequencers := s.sequencers.map f } := by
  refine .of_pinned id (fun d r => ?_) rfl
  have : (({ s with sequencers := s.sequencers.map f } : State).seq r) = f (s.seq r) := by simp [seq]
  rw [this, Sequencer.disciplined_congr (hs _) (hl _) (hc _)]
  exact d r

theorem carries_modSeq {r : Ramp} {f : Sequencer → Sequencer} (hs : (f (s.seq r)).state = (s.seq r).state)
    (hl : (f (s.seq r)).lanes = (s.seq r).lanes) (hc : (f (s.seq r)).laneCount = (s.seq r).laneCount) :
    s.Carries (s.modSeq r f) := carries_setSeq s hs hl hc

theorem carries_setLoops (x : Tab 48 Loop) : s.Carries { s with loops := x } := .of_same rfl rfl rfl

theorem carries_closeLoops : s.Carries s.closeLoops := by
  unfold closeLoops; dsimp only
  exact (Carries.each _ _ s fun i t => carries_setLoop t i _).trans (Carries.each _ _ _ fun i t => carries_useLoop t i)

theorem carries_closeStations (v : CloseView) : s.Carries (s.closeStations v) := by
  unfold closeStations; dsimp only
  refine Carries.trans (Carries.trans (carries_mapSequencers ?_ ?_ ?_) (Carries.each _ _ _ fun r t => carries_setMeas r _))
    (carries_corridorMeasure _) <;> intro q <;> rfl

theorem chooseFallback_uses (k : PlanSlot) (merge : Option Nat) :
    (s.chooseFallback k merge).1 = s ∨ ∃ j, (s.chooseFallback k merge).1 = s.useRecord (.plan j) := by
  unfold chooseFallback
  split
  · rename_i j _
    dsimp only
    split
    · exact Or.inl rfl
    · exact Or.inr ⟨j, rfl⟩
  · exact Or.inl rfl

theorem carries_setFallback {r : Ramp} {k : PlanSlot} (x : Option PlanRef) (hk : (s.planList r).governingPlan = some k) :
    s.Carries (s.setList r { s.planList r with fallback := x }) :=
  .of_pinned (fun h => listsOrdered_setList h (PlanList.ordered_of_plan (k := k) (by simpa using hk))) id rfl

theorem carries_runnability (r : Ramp) (merge : Option Nat) : s.Carries (s.runnability r merge) := by
  unfold runnability
  cases hk : (s.planList r).governingPlan with
  | none => exact .refl s
  | some k =>
    dsimp only
    have hu : ((s.useRecord (.plan k)).planList r).governingPlan = some k := by simpa [planList] using hk
    refine Carries.trans (carries_useRecord s (.plan k)) ?_
    generalize s.useRecord (.plan k) = u at hu
    split
    · exact carries_setFallback none hu
    · have hc := chooseFallback_uses (s := u) k merge
      generalize u.chooseFallback k merge = x at hc
      obtain ⟨v, n⟩ := x
      dsimp only at hc ⊢
      rcases hc with rfl | ⟨j, rfl⟩
      · exact carries_setFallback _ hu
      · refine Carries.trans (carries_useRecord u (.plan j)) (carries_setFallback (k := k) _ ?_)
        simpa [planList] using hu

theorem carries_closeRunnability (v : CloseView) : s.Carries (s.closeRunnability v) := by
  unfold closeRunnability; dsimp only
  refine Carries.trans (Carries.trans (carries_useRecord s .safety) (carries_mapSequencers ?_ ?_ ?_))
    (Carries.each _ _ _ fun r t => ?_)
  · intro q; rfl
  · intro q; rfl
  · intro q; rfl
  · exact .ite (carries_runnability r _) (.refl t)

theorem carries_closeQueue (v : CloseView) (r : Ramp) : s.Carries (s.closeQueue v r) := by
  unfold closeQueue; dsimp only
  split
  · exact .ite (carries_setMeas r _) (carries_setMeas r _)
  · exact carries_setMeas r _

theorem carries_handOver (v : CloseView) (xs : Stage5s) (b : Bool) (r : Ramp) : s.Carries (s.handOver v xs b r) := by
  unfold handOver; dsimp only
  split
  · refine Carries.trans (carries_setRate r _) (carries_modSeq ?_ ?_ ?_) <;> rfl
  · exact carries_setRate r _

theorem carries_closeRates (v : CloseView) : s.Carries (s.closeRates v) := by
  unfold closeRates; dsimp only
  exact Carries.trans (carries_corridorRate _) (Carries.each _ _ _ fun r t => carries_handOver v _ _ r)

theorem carries_closeHistory (v : CloseView) (r : Ramp) : s.Carries (s.closeHistory v r) := by
  unfold closeHistory; dsimp only
  split
  · exact carries_setMeas r _
  · exact carries_setMeas r _

theorem carries_closeCorridorHistory : s.Carries s.closeCorridorHistory := carries_corridorMeasure _

theorem carries_closeConditions (r : Ramp) : s.Carries (s.closeConditions r) := carries_setMeas r _

theorem carries_nextPeriod : s.Carries s.nextPeriod := carries_timer s _

theorem carries_closePhases : s.Carries s.closePhases := by
  unfold closePhases; dsimp only
  refine Carries.trans ?_ (carries_raise _ _)
  refine Carries.trans ?_ carries_nextPeriod
  refine Carries.trans ?_ (carries_raiseIf _ _ _)
  refine Carries.trans ?_ (carries_raiseIf _ _ _)
  refine Carries.trans ?_ (carries_raiseIf _ _ _)
  refine Carries.trans ?_ (carries_raiseIf _ _ _)
  refine Carries.trans ?_ (carries_corridorMeasure _)
  refine Carries.trans ?_ (Carries.each _ _ _ fun r t => carries_closeConditions r)
  refine Carries.trans ?_ carries_closeCorridorHistory
  refine Carries.trans ?_ (Carries.each _ _ _ fun r t => carries_closeHistory _ r)
  refine Carries.trans ?_ (carries_closeRates _)
  refine Carries.trans ?_ (Carries.each _ _ _ fun r t => carries_closeQueue _ r)
  refine Carries.trans ?_ (carries_closeRunnability _)
  refine Carries.trans ?_ (carries_closeStations _)
  refine Carries.trans ?_ (carries_useCorridor _)
  exact (carries_settleLoops s).trans carries_closeLoops

theorem carries_periodClose : s.Carries s.periodClose := by
  unfold periodClose; exact .ite carries_closePhases (.refl s)

end State
end Sys2Proof.Machine
end

