-- ==== Sys2Proof/Laws/CarriesLinks.lean ====
section
/-! SUPPORT. What the requests, the link ports, the restarts and the sample carry over. -/

namespace Sys2Proof.Machine.State

variable {s : State}

/-! ### Requests at their owning blocks -/

theorem carries_done {t : State} (h : s.Carries t) : s.Carries (Reply.done t).state := h
theorem carries_refuse (st : Status) {t : State} (h : s.Carries t) : s.Carries (Reply.refuse st t).state := h
theorem carries_shows (p : Payload) {t : State} (h : s.Carries t) : s.Carries (Reply.shows p t).state := h
theorem carries_showRecord (id : RecId) (p : Payload) {t : State} (h : s.Carries t) :
    s.Carries (t.showRecord id p).state := h

theorem carries_setHolder (i : Fin 7) (h : Option Port) : s.Carries (s.setHolder i h) := .of_same rfl rfl rfl

theorem carries_passOn (p : Port) (i : Fin 7) : s.Carries (s.passOn p i) := by
  unfold passOn
  exact .ite ((((carries_takeCorridor s).trans (carries_giveUp _ p i)).trans (carries_deliver _ _ _)).trans (carries_reports _))
    (.refl s)

theorem carries_claim (p : Port) (index : Byte) : s.Carries (s.claim p index).state := by
  unfold claim
  split
  · exact .refl s
  · split
    · exact carries_done ((carries_setHolder _ _).trans (carries_passOn p _))
    · split
      · exact .refl s
      · split
        · exact carries_done (((carries_setHolder _ _).trans (carries_deliver _ _ _)).trans (carries_passOn p _))
        · exact .refl s

theorem carries_yieldRecord (p : Port) (index : Byte) : s.Carries (s.yieldRecord p index).state := by
  unfold yieldRecord
  split
  · exact .refl s
  · split
    · refine carries_done ?_
      exact ((carries_takeCorridor s).trans (carries_giveUp _ p _)).trans (carries_reports _)
    · exact .refl s

theorem carries_placeCommand (r : Ramp) (a : Action) (o : Originator) : s.Carries (s.placeCommand r a o) :=
  carries_changeList s r _ rfl

theorem carries_select (p : Port) (index plan : Byte) : s.Carries (s.select p index plan).state := by
  unfold select
  split
  · split
    · exact .refl s
    · split
      · exact carries_done (carries_placeCommand _ _ _)
      · split
        · exact .refl s
        · exact carries_done ((carries_useRecord s _).trans (carries_placeCommand _ _ _))
  · exact .refl s

theorem carries_withdraw (index : Byte) : s.Carries (s.withdraw index).state := by
  unfold withdraw
  split
  · exact .refl s
  · split
    · exact .refl s
    · exact carries_done (carries_changeList s _ _ rfl)

theorem carries_setHoldFlag (r : Ramp) (b : Bool) : s.Carries (s.setHoldFlag r b) := .of_same rfl rfl rfl
theorem carries_setFaultDark (r : Ramp) (b : Bool) : s.Carries (s.setFaultDark r b) := .of_same rfl rfl rfl

theorem carries_clearHold (index : Byte) : s.Carries (s.clearHold index).state := by
  unfold clearHold
  split
  · exact .refl s
  · split
    · exact .refl s
    · refine carries_done (Carries.trans (carries_setHoldFlag _ false) (carries_changeList _ _ _ ?_))
      rfl

/-- A ramp in DARK_FAULT leaves it for OFF with its lamps dark, and goes on (R114). -/
theorem carries_leaveDarkFault {r : Ramp} (hs : (s.seq r).state = .darkFault) : s.Carries (s.leaveDarkFault r) := by
  unfold leaveDarkFault
  have hq : ((s.setFaultDark r false).setRampState r .off).sequencers = s.sequencers.set r { s.seq r with state := .off } :=
    sequencers_setRampState _ r .off
  have hd (d : s.lampsDisciplined) : ((s.setFaultDark r false).setRampState r .off).lampsDisciplined := by
    have hdark := Sequencer.dark_lanes_of (d r) (Or.inr (Or.inl hs))
    exact lampsDisciplined_set d hq (Sequencer.dark_disciplined hdark (Or.inl rfl))
  have hk : ((s.setFaultDark r false).setRampState r .off).kept = s.kept := by rw [kept_setRampState, kept_setFaultDark]
  have hl : ((s.setFaultDark r false).setRampState r .off).lists = s.lists := lists_setRampState _ r .off
  have hst := congrArg Sequencer.state (seq_of_sequencers s hq)
  generalize (s.setFaultDark r false).setRampState r .off = u at hd hk hl hst
  exact .of_kept (listsOrdered_of_lists ((lists_reachOff u r).trans hl)) (fun d => disciplined_reachOff (hd d) r hst)
    ((kept_reachOff u r).trans hk)

theorem carries_restartRamp (index : Byte) : s.Carries (s.restartRamp index).state := by
  unfold restartRamp
  split
  · exact .refl s
  · split
    · exact .refl s
    · rename_i hs
      split
      · exact .refl s
      · exact carries_done (carries_leaveDarkFault hs)
    · exact .refl s

theorem carries_clearIncident : s.Carries s.clearIncident.state := carries_done (carries_setIncident s none)

theorem carries_testIncident (index lane rank : Byte) : s.Carries (s.testIncident index lane rank).state := by
  unfold testIncident
  split
  · split
    · exact .refl s
    · exact carries_done (carries_takeIncident s _ _)
  · exact .refl s

theorem carries_setClock (y mo d h mi sec : Byte) : s.Carries (s.setClock y mo d h mi sec).state := by
  unfold setClock; dsimp only
  split
  · rename_i hw; exact carries_done (carries_acceptClock hw)
  · exact .refl s

theorem carries_lockSafety : s.Carries s.lockSafety.state where
  lists := id
  lamps := id
  calendar := id
  queue := rfl
  lock := fun _ => ⟨rfl, rfl⟩

theorem carries_testPresence (index duration : Byte) : s.Carries (s.testPresence index duration).state := by
  unfold testPresence
  split
  · exact carries_done (carries_setLoop s _ _)
  · exact .refl s

theorem carries_insertError (obj : ObjectKind) (index errors : Byte) : s.Carries (s.insertError obj index errors).state := by
  unfold insertError
  split
  · exact .refl s
  · split
    · exact .refl s
    · split
      · exact .refl s
      · split
        · exact carries_done (carries_addError s _)
        · exact carries_done ((carries_addError s _).trans (carries_addError _ _))

theorem carries_setWatch (x : Router) : s.Carries { s with router := x } := .of_same rfl rfl rfl

theorem carries_watch (classes : BitVec 16) : s.Carries (s.watch classes).state := by
  unfold watch
  split
  · exact .refl s
  · exact carries_done (carries_setWatch _)

theorem carries_takeEvents (p : Port) : s.Carries (s.takeEvents p).state := by
  unfold takeEvents; dsimp only
  exact carries_modPort s p _

/-! ### READ and WRITE -/

theorem carries_ownerRead (p : Port) (obj : ObjectKind) (index ramp : Byte) : s.Carries (s.ownerRead p obj index ramp).state := by
  unfold ownerRead
  split
  · unfold readRampStatus; split <;> exact .refl s
  · unfold readRampHistory
    split
    · exact .refl s
    · split
      · exact .refl s
      · split
        · exact .refl s
        · split <;> exact .refl s
  · exact .refl s
  · unfold readCorridorHistory
    split
    · exact .refl s
    · split <;> exact .refl s
  · unfold readLoop
    split
    · exact .refl s
    · exact carries_showRecord _ _ ((carries_settleLoops s).trans (carries_useLoop _ _))
  · unfold readPlan
    split
    · exact carries_shows _ (carries_useRecord s _)
    · split
      · exact .refl s
      · exact carries_showRecord _ _ (carries_useRecord s _)
  · unfold readScheduleSlot
    split
    · exact .refl s
    · exact carries_showRecord _ _ (carries_useRecord s _)
  · unfold readShiftSlot
    split
    · exact .refl s
    · exact carries_showRecord _ _ (carries_useRecord s _)
  · exact carries_showRecord _ _ (carries_useRecord s _)
  · exact carries_showRecord _ _ (carries_useCorridor s)
  · exact .refl s
  · exact .refl s
  · exact .refl s
  · exact .refl s
  · unfold readPort; split <;> exact .refl s
  · exact .refl s

theorem carries_storeLoop (i : LoopNo) (x : LoopRec) : s.Carries (s.storeLoop i x).state := by
  have h := Carries.each (otherLoops i) useLoop s fun j t => carries_useLoop t j
  unfold storeLoop
  generalize s.each (otherLoops i) useLoop = u at h
  dsimp only
  split
  · refine carries_done (h.trans (Carries.trans (t := (u.setLoopRec i x).storedAnew (.loop i)) ?_ (carries_putLoop _ i _)))
    exact Carries.of_same rfl rfl rfl
  · exact h

theorem carries_writeLoop (index : Byte) (w : WriteData) : s.Carries (s.writeLoop index w).state := by
  unfold writeLoop
  split
  · exact .refl s
  · exact .refl s
  · split
    · exact .refl s
    · split
      · exact .refl s
      · have h := carries_settleLoops s
        generalize s.settleLoops = u at h
        dsimp only
        split
        · have g := carries_useCorridor u
          generalize u.useCorridor = v at g
          split
          · exact (h.trans g).trans (carries_storeLoop _ _)
          · exact h.trans g
        · exact h.trans (carries_storeLoop _ _)

theorem carries_writePlan (index : Byte) (w : WriteData) : s.Carries (s.writePlan index w).state := by
  unfold writePlan
  split
  · exact .refl s
  · exact .of_same rfl rfl rfl
  · split
    · exact .of_same rfl rfl rfl
    · exact .refl s

theorem carries_writeScheduleSlot (index : Byte) (w : WriteData) : s.Carries (s.writeScheduleSlot index w).state := by
  unfold writeScheduleSlot
  split
  · exact .refl s
  · exact .of_same rfl rfl rfl
  · split
    · exact .of_same rfl rfl rfl
    · exact .refl s

theorem hour_of_decodeShift {bs : List Byte} {x : ShiftRec} (h : decodeShift bs = some x) : 1 ≤ x.hour ∧ x.hour ≤ 22 := by
  simp only [decodeShift, Option.bind_eq_bind, Option.bind_eq_some_iff, Option.pure_def, Option.some.injEq, between] at h
  obtain ⟨_, _, _, _, _, _, hr, hh, _, _, _, _, rfl⟩ := h
  split at hh
  · cases hh; assumption
  · cases hh

theorem carries_writeShiftSlot (index : Byte) (w : WriteData) : s.Carries (s.writeShiftSlot index w).state := by
  unfold writeShiftSlot
  split
  · exact .refl s
  · exact carries_done (Carries.trans (carries_setShift fun _ _ h => by cases h) (carries_storedAnew _ _))
  · split
    · rename_i x hx
      refine carries_done (Carries.trans (carries_setShift fun _ y h => ?_) (carries_storedAnew _ _))
      cases h
      exact hour_of_decodeShift hx
    · exact .refl s

theorem carries_writeSafetyTable (w : WriteData) : s.Carries (s.writeSafetyTable w).state := by
  unfold writeSafetyTable
  cases hl : s.memory.safetyLock with
  | true => exact .refl s
  | false =>
    simp only [Bool.false_eq_true, if_false]
    split
    · exact .refl s
    · split
      · exact ⟨id, id, id, rfl, fun h => by rw [hl] at h; cases h⟩
      · exact .refl s

theorem carries_writeCorridorRecord (p : Port) (w : WriteData) : s.Carries (s.writeCorridorRecord p w).state := by
  unfold writeCorridorRecord
  split
  · exact .refl s
  · split
    · exact .refl s
    · split
      · refine carries_done ?_
        unfold storeCorridor
        refine Carries.trans ?_ (carries_reports _)
        refine Carries.trans ?_ (carries_handCorridor _ _ _)
        exact Carries.of_same rfl rfl rfl
      · exact .refl s

theorem carries_ownerWrite (p : Port) (k : RecKind) (index : Byte) (w : WriteData) : s.Carries (s.ownerWrite p k index w).state := by
  unfold ownerWrite
  cases k
  · exact carries_writeLoop _ _
  · exact carries_writePlan _ _
  · exact carries_writeScheduleSlot _ _
  · exact carries_writeShiftSlot _ _
  · exact carries_writeSafetyTable _
  · exact carries_writeCorridorRecord _ _

theorem carries_owner (p : Port) (q : Req) : s.Carries (s.owner p q).state := by
  unfold owner
  cases q
  · exact carries_ownerRead _ _ _ _
  · exact carries_ownerWrite _ _ _ _
  · exact carries_claim _ _
  · exact carries_yieldRecord _ _
  · exact carries_select _ _ _
  · exact carries_withdraw _
  · exact carries_restartRamp _
  · exact carries_clearHold _
  · exact carries_clearIncident
  · exact carries_testIncident _ _ _
  · exact carries_setClock _ _ _ _ _ _
  · exact carries_lockSafety
  · exact carries_testPresence _ _
  · exact carries_insertError _ _ _
  · exact carries_watch _
  · exact carries_takeEvents _
  · exact .refl s
  · exact .refl s

theorem carries_perform (p : Port) (q : Req) : s.Carries (s.perform p q).state := by
  unfold perform
  split
  · exact .refl s
  · split
    · exact .refl s
    · split
      · exact .refl s
      · exact carries_owner p q

/-! ### The link ports -/

theorem carries_pushAnswer (p : Port) (a : Answer) : s.Carries (s.pushAnswer p a) := carries_modPort s p _

theorem carries_takeRequest (p : Port) (q : Req) : s.Carries (s.takeRequest p q) :=
  (carries_perform p q).trans (carries_pushAnswer p _)

theorem carries_beginRequest (p : Port) (q : Req) : s.Carries (s.beginRequest p q) :=
  (carries_modPort s p _).trans (carries_takeRequest p q)

theorem carries_place (p : Port) (q : Req) : s.Carries (s.place p q) := by
  unfold place
  split
  · exact carries_beginRequest p q
  · exact carries_modPort s p _
  · exact carries_pushAnswer p _

theorem carries_returnToActive (p : Port) : s.Carries (s.returnToActive p) := by
  unfold returnToActive; dsimp only
  refine Carries.trans ?_ (carries_reports _)
  refine Carries.trans ?_ (Carries.each _ _ _ fun i t => carries_regain t p i)
  exact (carries_modPort s p _).trans (carries_takeCorridor _)

theorem carries_heard (p : Port) : s.Carries (s.heard p) := by
  unfold heard; dsimp only
  exact (carries_modPort s p _).trans (.ite (carries_returnToActive p) (.refl _))

theorem carries_submit (p : Port) (q : Req) : s.Carries (s.submit p q) := by
  unfold submit; dsimp only
  exact (carries_modPort s p _).trans (.ite (.refl _) ((carries_heard p).trans (carries_place p q)))

theorem carries_setSupply (x : Supply) : s.Carries { s with supply := x } := .of_same rfl rfl rfl

theorem carries_answerSent (p : Port) : s.Carries (s.answerSent p) := by
  unfold answerSent
  split
  · exact .refl s
  · rename_i a rest _
    refine Carries.trans (carries_modPort s p fun x => { x with answers := rest }) ?_
    generalize s.modPort p (fun x => { x with answers := rest }) = u
    dsimp only
    split
    · exact .refl u
    · exact carries_setSupply _
    · split
      · exact carries_modPort u p _
      · exact (carries_modPort u p _).trans (carries_beginRequest p _)

theorem carries_setReceiver (p : Port) (x : Receiver) : s.Carries (s.setReceiver p x) := carries_modPort s p _

theorem carries_badLength (p : Port) : s.Carries (s.badLength p) := by
  unfold badLength
  split
  · exact .ite (carries_setReceiver p _) (.refl s)
  · exact .refl s

theorem carries_frameComplete (p : Port) : s.Carries (s.frameComplete p) := by
  unfold frameComplete
  split
  · exact .ite (.ite (carries_submit p _) (carries_setReceiver p _)) (.refl s)
  · exact .refl s

theorem carries_interByteTimeout (p : Port) : s.Carries (s.interByteTimeout p) := by
  unfold interByteTimeout
  split
  · exact .ite (carries_setReceiver p _) (.refl s)
  · exact .refl s

theorem carries_settleFrame (p : Port) : s.Carries (s.settleFrame p) :=
  ((carries_badLength p).trans (carries_frameComplete p)).trans (carries_interByteTimeout p)

theorem carries_requestRow (p : Port) (q : Req) : s.Carries (s.requestRow p q) :=
  (carries_settleFrame p).trans (carries_submit p q)

theorem carries_byteReceived (p : Port) (b : Byte) : s.Carries (s.byteReceived p b) := by
  unfold byteReceived; dsimp only
  refine (carries_settleFrame p).trans ?_
  split
  · exact .ite (carries_setReceiver p _) (.refl _)
  · exact carries_setReceiver p _

theorem carries_portLapse (p : Port) : s.Carries (s.portLapse p) := by
  unfold portLapse
  split
  · dsimp only
    refine (carries_takeCorridor s).trans (Carries.trans ?_ (carries_reports _))
    exact .ite (.refl _) (carries_becomeSilent _ p)
  · exact .refl s

/-! ### The supply and the restarts -/

theorem carries_failSupply : s.Carries s.failSupply := by
  unfold failSupply
  refine Carries.trans ?_ (Carries.each _ _ _ fun r t => carries_forceOff t r)
  refine Carries.trans (t := (s.setSupplyInput true).captureWasMetering) (.of_same rfl rfl rfl) ?_
  unfold setSupplyHolds; dsimp only
  exact carries_mapSequencers (fun _ => rfl) (fun _ => rfl) (fun _ => rfl)

theorem carries_setSupplyHolds : s.Carries s.setSupplyHolds := by
  unfold setSupplyHolds; dsimp only
  exact carries_mapSequencers (fun _ => rfl) (fun _ => rfl) (fun _ => rfl)

theorem carries_supplyFailAsserted : s.Carries s.supplyFailAsserted := by
  unfold supplyFailAsserted; exact .ite carries_failSupply (.refl s)

/-- Lists rebuilt without FALLBACK entries are in order (R83). -/
theorem carries_setLists {x : Tab 6 PlanList} (h : ∀ r, (x.get r).fallback = none) : s.Carries { s with lists := x } :=
  .of_pinned (fun _ r => PlanList.ordered_of_no_fallback (h r)) id rfl

theorem carries_rebuildLists : s.Carries s.rebuildLists := by
  unfold rebuildLists; dsimp only
  refine Carries.trans ?_ (carries_raiseIf _ _ _)
  refine Carries.trans ?_ (Carries.each _ _ _ fun r t => carries_fallbackTest t r)
  exact Carries.trans (.ite (carries_readSchedules s) (.refl s)) (carries_setLists fun r => by simp [rebuiltList])

theorem carries_setWasMetering (r : Ramp) (b : Bool) : s.Carries (s.setWasMetering r b) := .of_same rfl rfl rfl

theorem carries_writeWasMetering : s.Carries s.writeWasMetering :=
  Carries.each _ _ s fun r _ => .ite (.refl _) (carries_setWasMetering r false)

theorem carries_followDemand : s.Carries s.followDemand :=
  Carries.each _ _ s fun r t => .ite (carries_enterWarning t r) (.refl t)

theorem carries_restartPorts (baud : Port → Baud) : s.Carries (s.restartPorts baud) := by
  unfold restartPorts; dsimp only
  exact Carries.trans (carries_setWatch _) (Carries.each _ _ _ fun p t => carries_setPort t p _)

theorem carries_restartLoop (i : LoopNo) : s.Carries (s.restartLoop i) := by
  unfold restartLoop; dsimp only
  exact Carries.trans (Carries.trans (carries_useRecord s _) (carries_setLoop _ i _)) (carries_raiseIf _ _ _)

/-- Sequencers started afresh are dark (R125). -/
theorem carries_restartSequencers : s.Carries s.restartSequencers := by
  unfold restartSequencers; dsimp only
  refine .of_pinned id (fun _ r => ?_) rfl
  simp only [seq, Tab.get_ofFn]
  refine Sequencer.dark_disciplined rfl ?_
  simp only [Sequencer.start, startState]
  split
  · exact Or.inr (Or.inl rfl)
  · split
    · exact Or.inr (Or.inr rfl)
    · exact Or.inl rfl

theorem carries_restartMeasurements : s.Carries s.restartMeasurements := .of_same rfl rfl rfl
theorem carries_restartField (inp : Inputs) : s.Carries (s.restartField inp) := .of_same rfl rfl rfl
theorem carries_restartHolders : s.Carries s.restartHolders := .of_same rfl rfl rfl

theorem carries_restartHead (m : RecId) (x : Supply) :
    s.Carries { s with memory := { s.memory with scrubPosition := m }, supply := x } := .of_same rfl rfl rfl

theorem carries_restartBlocks (inp : Inputs) : s.Carries (s.restartBlocks inp) := by
  unfold restartBlocks; dsimp only
  refine Carries.trans ?_ (carries_raise _ _)
  refine Carries.trans ?_ carries_followDemand
  refine Carries.trans ?_ carries_writeWasMetering
  refine Carries.trans ?_ (.ite carries_setSupplyHolds (.refl _))
  refine Carries.trans ?_ carries_rebuildLists
  refine Carries.trans ?_ carries_restartSequencers
  refine Carries.trans ?_ (carries_restartField _)
  refine Carries.trans ?_ carries_restartMeasurements
  refine Carries.trans ?_ (Carries.each _ _ _ fun i t => carries_restartLoop i)
  refine Carries.trans ?_ carries_restartHolders
  exact Carries.trans (carries_restartHead _ _) (carries_takeCorridor _)

theorem carries_setCause (k : RestartKind) : s.Carries (s.setCause k) := .of_same rfl rfl rfl

theorem carries_warmRestart (inp : Inputs) : s.Carries (s.warmRestart inp) := by
  unfold warmRestart
  exact ((carries_setCause _).trans (carries_restartPorts _)).trans (carries_restartBlocks inp)

theorem carries_warmRestartTaken (inp : Inputs) : s.Carries (s.warmRestartTaken inp) := by
  unfold warmRestartTaken; exact .ite (carries_warmRestart inp) (.refl s)

theorem carries_supplyStartSequencer (r : Ramp) : s.Carries (s.supplyStartSequencer r) := by
  unfold supplyStartSequencer; dsimp only
  refine .of_kept (listsOrdered_of_lists (by simp)) (fun d => ?_) (by simp)
  have e : ((s.darkLanes r).modSeq r fun q =>
        { q.discard with state := startState (s.retained.faultDark.get r) ((s.darkLanes r).seq r).laneCount,
                         pendingCount := none, supplyHold := false }).sequencers
      = s.sequencers.set r
        { ({ s.seq r with lanes := Tab.replicate 2 .dark } : Sequencer).discard with
            state := startState (s.retained.faultDark.get r) ((s.darkLanes r).seq r).laneCount,
            pendingCount := none, supplyHold := false } := by
    simp [seq, Tab.set_set]
  have hk : (s.darkLanes r).retained.faultDark = s.retained.faultDark := by
    have : ∀ (t : State) (ln : LaneNo), (t.handLane r ln .dark).retained = t.retained := by
      intro t ln; unfold handLane; dsimp only; split <;> rfl
    exact congrArg Retained.faultDark (each_proj retained _ _ s fun ln t => this t ln)
  rw [hk]
  refine lampsDisciplined_set d e (Sequencer.dark_disciplined rfl ?_)
  simp only [startState]
  split
  · exact Or.inr (Or.inl rfl)
  · split
    · exact Or.inr (Or.inr rfl)
    · exact Or.inl rfl

theorem carries_supplyStartRates (r : Ramp) : s.Carries (s.supplyStartRates r) :=
  (carries_setMeas r _).trans (carries_setRate r _)

theorem carries_setSupplyInput (b : Bool) : s.Carries (s.setSupplyInput b) := .of_same rfl rfl rfl

theorem carries_dropUnqualified : s.Carries s.dropUnqualified := .of_same rfl rfl rfl

theorem carries_supplyRestarted : s.Carries s.supplyRestarted := by
  unfold supplyRestarted; dsimp only
  refine Carries.trans ?_ (carries_raise _ _)
  refine Carries.trans ?_ carries_dropUnqualified
  refine Carries.trans ?_ carries_followDemand
  refine Carries.trans ?_ (carries_reports _)
  refine Carries.trans ?_ carries_writeWasMetering
  refine Carries.trans ?_ carries_rebuildLists
  refine Carries.trans ?_ (Carries.each _ _ _ fun r t => carries_supplyStartRates r)
  refine Carries.trans ?_ (Carries.each _ _ _ fun r t => carries_supplyStartSequencer r)
  exact ((carries_setCause _).trans (carries_setSupplyInput _)).trans (carries_takeCorridor _)

theorem carries_supplyRestart : s.Carries s.supplyRestart := by
  unfold supplyRestart; exact .ite carries_supplyRestarted (.refl s)

/-! ### Power and the reset line -/

theorem carries_abandon : s.Carries s.abandon := by
  unfold abandon; dsimp only
  refine Carries.trans ?_ (Carries.each _ _ _ fun p t => carries_modPort t p _)
  refine .of_pinned id (fun _ r => ?_) rfl
  simp only [seq, Tab.get_map]
  refine Sequencer.dark_disciplined rfl ?_
  simp only [abandonSequencer]
  split <;> simp

theorem carries_setPower (x : Power) : s.Carries (s.setPower x) := .of_same rfl rfl rfl
theorem carries_setResetLine (b : Bool) : s.Carries (s.setResetLine b) := .of_same rfl rfl rfl

theorem carries_resetLineAsserted : s.Carries s.resetLineAsserted := by
  unfold resetLineAsserted
  split
  · exact (carries_abandon.trans (carries_setPower _)).trans (carries_setResetLine _)
  · exact carries_setResetLine _

theorem carries_mainSupplyLost : s.Carries s.mainSupplyLost := carries_abandon.trans (carries_setPower _)

theorem carries_batterySupplyLow : s.Carries s.batterySupplyLow := by
  unfold batterySupplyLow
  split
  · exact carries_retained fun c => c.1
  · exact .refl s

theorem carries_clockRan (off : Nat) : s.Carries (s.clockRan off) :=
  carries_retained fun c => DateTime.wf_iterate _ c.1

theorem carries_judgeStore : s.Carries s.judgeStore := by
  unfold judgeStore
  split
  · exact carries_setSupply _
  · refine Carries.trans (t := { s with retained := Retained.initial }) (carries_retained fun _ => ?_) (carries_setSupply _)
    decide

theorem carries_powerUp (inp : Inputs) : s.Carries (s.powerUp inp) := .of_same rfl rfl rfl

/-- What clears the Safety Lock keeps the lists, the lamps, the calendar and the queue. -/
theorem restartMemory_keeps (s : State) : s.restartMemory.lists = s.lists ∧ s.restartMemory.sequencers = s.sequencers
    ∧ s.restartMemory.retained = s.retained ∧ s.restartMemory.memory.shifts = s.memory.shifts
    ∧ s.restartMemory.pending = s.pending := ⟨rfl, rfl, rfl, rfl, rfl⟩

/-- What a COLD restart carries over: everything but the Safety Lock, which it clears (R167, R170). -/
theorem cold_carries (k : RestartKind) (inp : Inputs) (straps : Straps) (off : Nat) :
    (s.listsOrdered → (s.coldRestart k inp straps off).listsOrdered)
      ∧ (s.lampsDisciplined → (s.coldRestart k inp straps off).lampsDisciplined)
      ∧ (s.calendarSound → (s.coldRestart k inp straps off).calendarSound)
      ∧ (s.coldRestart k inp straps off).pending = s.pending := by
  unfold coldRestart coldStart
  have h := ((((carries_setCause (s := s) k).trans (carries_powerUp inp)).trans (carries_clockRan off)).trans
    carries_judgeStore).trans (carries_restartPorts (strapBaud straps))
  generalize ((((s.setCause k).powerUp inp).clockRan off).judgeStore).restartPorts (strapBaud straps) = u at h
  have g := carries_restartBlocks (s := u.restartMemory) inp
  obtain ⟨hl, hs, hr, hm, hp⟩ := restartMemory_keeps u
  refine ⟨fun x => g.lists (listsOrdered_of_lists hl (h.lists x)),
    fun x => g.lamps (lampsDisciplined_same (h.lamps x) hs), fun x => g.calendar ?_, (g.queue.trans hp).trans h.queue⟩
  have c := h.calendar x
  unfold calendarSound at c ⊢
  rw [hr, hm]; exact c

/-! ### The sample -/

theorem tick_isGreen (x : LaneState) : x.tick.isGreen = x.isGreen := by cases x <;> rfl
theorem tick_meters (x : LaneState) : x.tick.meters = x.meters := by cases x <;> rfl
theorem tick_dark (x : LaneState) : decide (x.tick = .dark) = decide (x = .dark) := by cases x <;> rfl
theorem tick_restGreen (x : LaneState) : decide (x.tick = .restGreen) = decide (x = .restGreen) := by cases x <;> rfl

/-- The passage of time keeps the discipline of a sequencer's lamps. -/
theorem disciplined_tickSequencer (q : Sequencer) : q.tick.disciplined = q.disciplined := by
  simp only [Sequencer.disciplined, Sequencer.laneAllowed, Sequencer.inForce, Sequencer.tick, Tab.get_map, tick_isGreen,
    tick_meters, tick_dark, tick_restGreen]
  cases q.state <;> rfl

theorem carries_tick : s.Carries s.tick := by
  refine .of_pinned id (fun d r => ?_) rfl
  have hq : s.tick.seq r = (s.seq r).tick := by simp [seq, tick]
  rw [hq]
  exact (disciplined_tickSequencer _).trans (d r)

theorem carries_takeStep (d : DueStep) : s.Carries (s.takeStep d) := by
  unfold takeStep
  cases d
  · exact carries_stuckOnEntry s _
  · exact carries_stuckOnClear s _
  · exact carries_silenceEntry s _
  · exact carries_chatterSecondJudgement s
  · exact carries_testPresenceEnd s _
  · exact carries_periodClose
  · exact carries_scrubRead s
  · exact carries_clockAdvance
  · exact carries_warningTimerExpiry s _
  · exact carries_clearanceTimerExpiry s _
  · exact carries_slotExpiry s _
  · exact carries_greenEnd s _ _
  · exact carries_redMinimumReached s _ _
  · exact carries_signPhaseChange s _
  · exact carries_incidentQualifies s _ _ _
  · exact carries_panelShortPress s _
  · exact carries_panelLongHold s _
  · exact carries_supplyFailAsserted
  · exact carries_supplyRestart
  · exact carries_warmRestartTaken _
  · exact carries_portLapse _
  · exact carries_badLength _
  · exact carries_interByteTimeout _
  · exact carries_frameComplete _

theorem carries_settleSequencer (r : Ramp) : s.Carries (s.settleSequencer r) := by
  unfold settleSequencer; dsimp only
  refine Carries.trans ?_ (Carries.each _ _ _ fun ln t => carries_redMinimumReached t r ln)
  refine Carries.trans (Carries.each laneNos (greenEnd r) s fun ln t => carries_greenEnd t r ln) ?_
  exact ((((carries_slotExpiry _ r).trans (carries_warningTimerExpiry _ r)).trans (carries_clearanceTimerExpiry _ r)).trans
    (carries_signPhaseChange _ r))

theorem carries_settle (inp : Inputs) : s.Carries (s.settle inp) := by
  unfold settle; dsimp only
  refine Carries.trans ?_ (Carries.each _ _ _ fun r t => carries_settleSequencer r)
  refine Carries.trans ?_ (carries_warmRestartTaken inp)
  refine Carries.trans ?_ (Carries.each _ _ _ fun p t => carries_settleFrame p)
  refine Carries.trans ?_ (Carries.each _ _ _ fun p t => carries_portLapse p)
  refine Carries.trans ?_ carries_supplyRestart
  refine Carries.trans ?_ carries_supplyFailAsserted
  refine Carries.trans ?_ carries_clockAdvance
  refine Carries.trans ?_ (carries_scrubRead _)
  refine Carries.trans ?_ carries_periodClose
  refine Carries.trans ?_ (Carries.each _ _ _ fun r t => (carries_panelShortPress t r).trans (carries_panelLongHold _ r))
  refine Carries.trans (carries_settleLoops s) ?_
  exact Carries.each _ _ _ fun q t => carries_incidentQualifies t _ _ _

theorem carries_setLamp (r : Ramp) (ln : LaneNo) (m : LaneMonitor) : s.Carries (s.setLamp r ln m) := .of_same rfl rfl rfl

theorem carries_senseLane (inp : Inputs) (r : Ramp) (ln : LaneNo) : s.Carries (s.senseLane inp r ln) := by
  unfold senseLane; dsimp only
  exact .ite (carries_setLamp r ln _) ((carries_setLamp r ln _).trans (carries_setQualified _ _))

theorem carries_sampleInputs (inp : Inputs) : s.Carries (s.sampleInputs inp) := by
  unfold sampleInputs; dsimp only
  refine Carries.trans ?_ (carries_setSupply _)
  refine Carries.trans ?_ (Carries.each _ _ _ fun r t => carries_setButton t r _)
  refine Carries.trans ?_ (Carries.each _ _ _ fun r t => carries_stateCheckIn t r)
  refine Carries.trans ?_ (Carries.each _ _ _ fun i t => carries_sampleLoop t inp i)
  refine Carries.trans ?_ (carries_timer _ _)
  exact Carries.each _ _ s fun r t => Carries.each _ _ t fun ln u => carries_senseLane inp r ln

theorem carries_sample (inp : Inputs) (first : List DueStep) : s.Carries (s.sample inp first) := by
  unfold sample
  refine Carries.trans ?_ (carries_sampleInputs inp)
  refine Carries.trans ?_ (Carries.each _ _ _ fun d t => carries_takeStep d)
  exact (carries_settle inp).trans carries_tick

/-- A change that only a running part makes. -/
theorem carries_whenRunning {f : State → State} (h : s.Carries (f s)) : s.Carries (s.whenRunning f) := by
  unfold whenRunning; exact .ite h (.refl s)

end Sys2Proof.Machine.State
end

