-- ==== Sys2Proof/Laws/Loops.lean ====
section
/-! SUPPORT. What an event leaves alone, what is done for each of a table's entries, and what the operations on loops do. -/

namespace Sys2Proof.Machine

/-! ### The judgements of a loop (R11 to R14) -/

namespace Loop

/-- Fault qualification goes by the state alone (R11). -/
theorem qualifies_of_state {l m : Loop} (h : m.state = l.state) : m.qualifies = l.qualifies := by unfold qualifies; rw [h]

/-- The stuck-on condition once the latest sample is judged, with all else as it was but the clear run (R12). -/
theorem stuck_judged (x : LoopRec) {l : Loop} (h : l.qualifies = true) :
    ∃ n, (l.enterStuck x).clearStuck = { l with stuckOn := l.stuckAfter x, clearRun := n } := by
  have e (m : Loop) (hm : m.qualifies = true) : m.enterStuck x
      = if m.stuckOn = false ∧ x.stuckOnTime * 100 ≤ m.stuckRun then { m with stuckOn := true, clearRun := 0 } else m := by
    unfold enterStuck stuckEntryDue; rw [hm]; simp [Config.samplesPerSecond]
  have c (m : Loop) (hm : m.qualifies = true) : m.clearStuck
      = if m.stuckOn = true ∧ 200 ≤ m.clearRun then { m with stuckOn := false, clearRun := 0 } else m := by
    unfold clearStuck stuckClearDue; rw [hm]; simp [Config.stuckClearSamples]
  rw [e l h]
  unfold stuckAfter
  split
  · rename_i a
    rw [c _ ((qualifies_of_state (m := { l with stuckOn := true, clearRun := 0 }) rfl).trans h)]
    exact ⟨0, by simp [a.1, a.2]⟩
  · rename_i a
    rw [c l h]
    split
    · rename_i b
      exact ⟨0, by simp [b.1, Nat.not_lt.mpr b.2]⟩
    · rename_i b
      have d : (if l.stuckOn = true then decide (l.clearRun < 200) else decide (x.stuckOnTime * 100 ≤ l.stuckRun)) = l.stuckOn := by
        cases hs : l.stuckOn <;> simp [hs] at a b ⊢
        · exact a
        · exact b
      exact ⟨l.clearRun, by rw [d]⟩

/-- The silence condition once the latest sample is judged, with all else as it was (R13). -/
theorem silence_judged (x : LoopRec) {l : Loop} (h : l.qualifies = true) :
    l.enterSilence x = { l with silence := l.silenceAfter x } := by
  have e : l.enterSilence x = if l.silence = false ∧ x.silenceTime * 6000 ≤ l.silenceRun then { l with silence := true } else l := by
    unfold enterSilence silenceEntryDue; rw [h]; simp [Config.samplesPerMinute]
  rw [e]
  unfold silenceAfter
  split
  · rename_i a; simp [a.2]
  · rename_i a
    have e : (l.silence || decide (x.silenceTime * 6000 ≤ l.silenceRun)) = l.silence := by
      cases hs : l.silence <;> simp [hs] at a ⊢
      exact a
    rw [e]

/-- The chatter condition once a second is judged, with the other two and the state as they were (R14). -/
theorem second_judged (x : LoopRec) {l : Loop} (h : l.qualifies = true) :
    (l.judgeSecond x).chatter = l.chatterAfter x true ∧ (l.judgeSecond x).stuckOn = l.stuckOn
      ∧ (l.judgeSecond x).silence = l.silence ∧ (l.judgeSecond x).state = l.state := by
  unfold judgeSecond chatterAfter
  rw [if_pos h]
  by_cases a : x.chatterLimit < l.edges
  · simp [a]
  · cases hc : l.chatter
    · simp [a]
    · by_cases b : Config.quietSeconds ≤ l.quietRun + 1
      · have b' : ¬ l.quietRun + 1 < 30 := Nat.not_lt.mpr b
        simp [a, b, b']
      · have b' : l.quietRun + 1 < 30 := Nat.not_le.mp b
        simp [a, b, b']

/-- The state a loop under qualification has once the judgements of the latest sample are made (R11). -/
theorem judged_eq_stateAfter (x : LoopRec) (due : Bool) {l : Loop} (h : l.qualifies = true) :
    l.judged x due = l.stateAfter x due := by
  obtain ⟨n, hn⟩ := stuck_judged x h
  obtain ⟨m, hm⟩ : ∃ m, m = { l with stuckOn := l.stuckAfter x, clearRun := n } := ⟨_, rfl⟩
  have q (k : Loop) (e : k.state = l.state) : k.qualifies = true := (qualifies_of_state e).trans h
  have ms : m.state = l.state := by rw [hm]
  obtain ⟨k, hk⟩ : ∃ k, k = { m with silence := m.silenceAfter x } := ⟨_, rfl⟩
  have ks : k.state = l.state := by rw [hk]; exact ms
  unfold judged; dsimp only
  rw [hn, ← hm, silence_judged x (q m ms), ← hk]
  cases due
  · rw [if_neg Bool.false_ne_true]
    unfold shown; rw [q k ks, if_pos rfl, hk, hm]; rfl
  · obtain ⟨c1, c2, c3, c4⟩ := second_judged x (q k ks)
    rw [if_pos rfl]
    unfold shown
    rw [q _ (c4.trans ks), if_pos rfl, c1, c2, c3, hk, hm]; rfl

end Loop

namespace State

variable (s : State)

/-! ### Events -/

/-- An event changes the ports alone. -/
theorem raise_ports_only (c : EventClass) : s.raise c = { s with ports := (s.raise c).ports } :=
  each_induct (P := fun t => t = { s with ports := t.ports }) _ _ rfl fun p t h => by
    split
    · conv_lhs => rw [h]
      rfl
    · exact h

@[simp] theorem memory_raise (c : EventClass) : (s.raise c).memory = s.memory := by rw [raise_ports_only]
@[simp] theorem loops_raise (c : EventClass) : (s.raise c).loops = s.loops := by rw [raise_ports_only]
@[simp] theorem timer_raise (c : EventClass) : (s.raise c).timer = s.timer := by rw [raise_ports_only]
@[simp] theorem retained_raise (c : EventClass) : (s.raise c).retained = s.retained := by rw [raise_ports_only]
@[simp] theorem supply_raise (c : EventClass) : (s.raise c).supply = s.supply := by rw [raise_ports_only]
@[simp] theorem router_raise (c : EventClass) : (s.raise c).router = s.router := by rw [raise_ports_only]
@[simp] theorem measure_raise (c : EventClass) : (s.raise c).measure = s.measure := by rw [raise_ports_only]
@[simp] theorem rates_raise (c : EventClass) : (s.raise c).rates = s.rates := by rw [raise_ports_only]
@[simp] theorem lamps_raise (c : EventClass) : (s.raise c).lamps = s.lamps := by rw [raise_ports_only]
@[simp] theorem qualified_raise (c : EventClass) : (s.raise c).qualified = s.qualified := by rw [raise_ports_only]

/-- An event raised under a condition changes the ports alone. -/
theorem raiseIf_ports_only (b : Bool) (c : EventClass) : s.raiseIf b c = { s with ports := (s.raiseIf b c).ports } := by
  unfold raiseIf; split
  · exact raise_ports_only s c
  · rfl

@[simp] theorem memory_raiseIf (b : Bool) (c : EventClass) : (s.raiseIf b c).memory = s.memory := by rw [raiseIf_ports_only]
@[simp] theorem loops_raiseIf (b : Bool) (c : EventClass) : (s.raiseIf b c).loops = s.loops := by rw [raiseIf_ports_only]
@[simp] theorem timer_raiseIf (b : Bool) (c : EventClass) : (s.raiseIf b c).timer = s.timer := by rw [raiseIf_ports_only]
@[simp] theorem retained_raiseIf (b : Bool) (c : EventClass) : (s.raiseIf b c).retained = s.retained := by
  rw [raiseIf_ports_only]

/-! ### Doing something to each entry of a table -/

/-- A list of turns that each change their own entry, by what is the same for all turns: every entry of the list is changed once. -/
theorem each_at {ι β γ : Type} [DecidableEq ι] (at' : State → ι → β) (ctx : State → γ) (F : γ → ι → β → β)
    (f : ι → State → State) (xs : List ι) (nodup : xs.Nodup) (hctx : ∀ i t, ctx (f i t) = ctx t)
    (hself : ∀ i t, at' (f i t) i = F (ctx t) i (at' t i)) (hne : ∀ i j t, j ≠ i → at' (f i t) j = at' t j) (s : State) (j : ι) :
    at' (s.each xs f) j = if j ∈ xs then F (ctx s) j (at' s j) else at' s j := by
  unfold each
  induction xs generalizing s with
  | nil => rfl
  | cons x xs ih =>
    rw [List.nodup_cons] at nodup
    rw [List.foldl_cons, ih nodup.2, hctx]
    by_cases hj : j = x
    · subst hj; simp [nodup.1, hself]
    · simp [hj, hne _ _ _ hj]

theorem loopNos_nodup : loopNos.Nodup := List.nodup_finRange 48
theorem mem_loopNos (i : LoopNo) : i ∈ loopNos := List.mem_finRange i
theorem ramps_nodup : ramps.Nodup := by decide
theorem mem_ramps (r : Ramp) : r ∈ ramps := by revert r; decide

/-! ### Loops -/

/-- What the replacement of a loop raises (R17). -/
theorem putLoop_eq (i : LoopNo) (l : Loop) :
    s.putLoop i l = (s.setLoop i l).raiseIf (l.state ≠ (s.loop i).state && (Loop.isFault l.state
      || (l.state = .ok && Loop.isFault (s.loop i).state && s.router.edges.loopFault = .both))) .loopFault := by
  unfold putLoop raiseIf
  by_cases h : l.state = (s.loop i).state
  · simp [h]
  · cases hf : Loop.isFault l.state
    · simp only [h, if_false, Bool.false_eq_true]; congr 1; simp [h]; intros; exact decide_eq_true_iff
    · simp [h]

@[simp] theorem memory_putLoop (i : LoopNo) (l : Loop) : (s.putLoop i l).memory = s.memory := by rw [putLoop_eq]; simp
@[simp] theorem timer_putLoop (i : LoopNo) (l : Loop) : (s.putLoop i l).timer = s.timer := by rw [putLoop_eq]; simp
@[simp] theorem loops_putLoop (i : LoopNo) (l : Loop) : (s.putLoop i l).loops = s.loops.set i l := by rw [putLoop_eq]; simp
@[simp] theorem loop_putLoop_self (i : LoopNo) (l : Loop) : (s.putLoop i l).loop i = l := by simp [loop]
theorem loop_putLoop_ne {i j : LoopNo} (l : Loop) (h : j ≠ i) : (s.putLoop i l).loop j = s.loop j := by
  simp [loop, Tab.get_set_ne _ _ h]

/-- The replacement of a loop changes that loop, and the events pending at the ports. -/
theorem putLoop_frame (i : LoopNo) (l : Loop) :
    { s.putLoop i l with loops := s.loops, ports := s.ports } = s := by
  rw [putLoop_eq, raiseIf_ports_only]; rfl

/-- The judgement of a loop changes that loop, and the events pending at the ports. -/
theorem rejudge_frame (i : LoopNo) (f : Loop → Loop) : { s.rejudge i f with loops := s.loops, ports := s.ports } = s :=
  putLoop_frame s i _

@[simp] theorem memory_rejudge (i : LoopNo) (f : Loop → Loop) : (s.rejudge i f).memory = s.memory := memory_putLoop s i _
@[simp] theorem timer_rejudge (i : LoopNo) (f : Loop → Loop) : (s.rejudge i f).timer = s.timer := timer_putLoop s i _
@[simp] theorem loop_rejudge_self (i : LoopNo) (f : Loop → Loop) :
    (s.rejudge i f).loop i = { f (s.loop i) with state := (f (s.loop i)).judged (s.loopRec i) s.timer.secondDue } :=
  loop_putLoop_self s i _
theorem loop_rejudge_ne {i j : LoopNo} (f : Loop → Loop) (h : j ≠ i) : (s.rejudge i f).loop j = s.loop j :=
  loop_putLoop_ne s _ h

@[simp] theorem memory_stuckOnEntry (i : LoopNo) : (s.stuckOnEntry i).memory = s.memory := by
  unfold stuckOnEntry; split <;> simp
@[simp] theorem memory_stuckOnClear (i : LoopNo) : (s.stuckOnClear i).memory = s.memory := by
  unfold stuckOnClear; split <;> simp
@[simp] theorem memory_silenceEntry (i : LoopNo) : (s.silenceEntry i).memory = s.memory := by
  unfold silenceEntry; split <;> simp

@[simp] theorem memory_testPresenceEnd (i : LoopNo) : (s.testPresenceEnd i).memory = s.memory := by
  unfold testPresenceEnd; dsimp only; split <;> rfl

@[simp] theorem memory_chatterSecondJudgement : s.chatterSecondJudgement.memory = s.memory := by
  unfold chatterSecondJudgement; split
  · exact each_proj State.memory loopNos (fun i t => t.rejudge i (Loop.judgeSecond (t.loopRec i))) _
      fun i t => memory_rejudge t i _
  · rfl

@[simp] theorem memory_settleLoops : s.settleLoops.memory = s.memory := by
  unfold settleLoops
  rw [memory_chatterSecondJudgement]
  refine each_proj State.memory _ _ s fun i t => ?_
  rw [memory_testPresenceEnd, memory_silenceEntry, memory_stuckOnClear, memory_stuckOnEntry]

/-- A use of a damaged loop record leaves its loop in CONFIG_LOST (R5). -/
theorem useLoop_damaged {i : LoopNo} (h : s.damaged (.loop i) = true) : ((s.useLoop i).loop i).state = .configLost := by
  unfold useLoop
  rw [if_pos (((calm_useRecord s _).damaged _).trans h)]
  generalize s.useRecord (.loop i) = t
  unfold loseConfig; dsimp only
  split
  · assumption
  · rw [loop_putLoop_self]

end State
end Sys2Proof.Machine
end

