-- ==== Sys2Proof/Laws/Fixtures.lean ====
section
/-! SUPPORT. `fixtures` under the updates, the events, the lamps, the Lane Count reports and the slots. -/

namespace Sys2Proof.Machine.State

variable (s : State)

@[simp] theorem fixtures_setPort (p : Port) (x : LinkPort) : (s.setPort p x).fixtures = s.fixtures := rfl
@[simp] theorem fixtures_modPort (p : Port) (f : LinkPort → LinkPort) : (s.modPort p f).fixtures = s.fixtures := rfl
@[simp] theorem fixtures_setSeq (r : Ramp) (q : Sequencer) : (s.setSeq r q).fixtures = s.fixtures := rfl
@[simp] theorem fixtures_modSeq (r : Ramp) (f : Sequencer → Sequencer) : (s.modSeq r f).fixtures = s.fixtures := rfl
@[simp] theorem fixtures_setList (r : Ramp) (l : PlanList) : (s.setList r l).fixtures = s.fixtures := rfl
@[simp] theorem fixtures_setLoop (i : LoopNo) (l : Loop) : (s.setLoop i l).fixtures = s.fixtures := rfl
@[simp] theorem fixtures_setMeas (r : Ramp) (m : RampMeasure) : (s.setMeas r m).fixtures = s.fixtures := rfl
@[simp] theorem fixtures_setRate (r : Ramp) (m : RampRate) : (s.setRate r m).fixtures = s.fixtures := rfl
@[simp] theorem fixtures_setLamp (r : Ramp) (ln : LaneNo) (m : LaneMonitor) : (s.setLamp r ln m).fixtures = s.fixtures := rfl
@[simp] theorem fixtures_setButton (r : Ramp) (b : Button) : (s.setButton r b).fixtures = s.fixtures := rfl
@[simp] theorem fixtures_setHoldFlag (r : Ramp) (b : Bool) : (s.setHoldFlag r b).fixtures = s.fixtures := rfl
@[simp] theorem fixtures_setFaultDark (r : Ramp) (b : Bool) : (s.setFaultDark r b).fixtures = s.fixtures := rfl
@[simp] theorem fixtures_setWasMetering (r : Ramp) (b : Bool) : (s.setWasMetering r b).fixtures = s.fixtures := rfl

@[simp] theorem fixtures_raise (c : EventClass) : (s.raise c).fixtures = s.fixtures := by rw [raise_ports_only]; rfl

@[simp] theorem fixtures_raiseIf (b : Bool) (c : EventClass) : (s.raiseIf b c).fixtures = s.fixtures := by
  rw [raiseIf_ports_only]; rfl

@[simp] theorem fixtures_handLane (r : Ramp) (ln : LaneNo) (st : LaneState) : (s.handLane r ln st).fixtures = s.fixtures := by
  unfold handLane; dsimp only; split <;> simp

@[simp] theorem fixtures_handLanes (r : Ramp) (st : LaneState) : (s.handLanes r st).fixtures = s.fixtures :=
  each_proj fixtures _ _ s fun ln t => by simp

@[simp] theorem fixtures_darkLanes (r : Ramp) : (s.darkLanes r).fixtures = s.fixtures :=
  each_proj fixtures _ _ s fun ln t => by simp

@[simp] theorem fixtures_setRampState (r : Ramp) (st : RampState) : (s.setRampState r st).fixtures = s.fixtures := by
  unfold setRampState
  simp only [fixtures_raise]
  split <;> split <;> rfl

@[simp] theorem fixtures_goDark (r : Ramp) (st : RampState) : (s.goDark r st).fixtures = s.fixtures := by unfold goDark; simp

@[simp] theorem fixtures_warningEntry (r : Ramp) : (s.warningEntry r).fixtures = s.fixtures := by unfold warningEntry; simp

@[simp] theorem fixtures_endingEntry (r : Ramp) : (s.endingEntry r).fixtures = s.fixtures := by unfold endingEntry; simp

@[simp] theorem fixtures_offSettled (r : Ramp) : (s.offSettled r).fixtures = s.fixtures := by
  unfold offSettled; dsimp only; split <;> split <;> simp

@[simp] theorem fixtures_offFollowed (r : Ramp) : (s.offFollowed r).fixtures = s.fixtures := by
  unfold offFollowed; split <;> simp

@[simp] theorem fixtures_report (r : Ramp) : (s.report r).fixtures = s.fixtures := by
  unfold report; dsimp only; split
  · split <;> simp
  · simp
  · split <;> simp
  · split <;> simp
  · split
    · simp
    · split <;> simp
  · simp

@[simp] theorem fixtures_reports : s.reports.fixtures = s.fixtures := each_proj fixtures _ _ s fun r t => by simp

@[simp] theorem fixtures_giveSlot (r : Ramp) (ln : LaneNo) : (s.giveSlot r ln).fixtures = s.fixtures := by
  unfold giveSlot; dsimp only; split <;> simp

@[simp] theorem fixtures_offerSlot (r : Ramp) : (s.offerSlot r).fixtures = s.fixtures := by unfold offerSlot; split <;> simp

@[simp] theorem fixtures_judgeHeld (r : Ramp) : (s.judgeHeld r).fixtures = s.fixtures := by unfold judgeHeld; split <;> simp

/-- The Lane Count reports change neither configuration memory, nor the router, nor the arbiter. -/
theorem reports_fixtures : s.reports.router = s.router ∧ s.reports.arbiter = s.arbiter ∧ s.reports.memory = s.memory := by
  have h := fixtures_reports s
  exact ⟨congrArg (·.1) h, congrArg (·.2.1) h, congrArg (·.2.2) h⟩

/-! ### What a use of the corridor settings hands over (R141, R146, R188) -/

@[simp] theorem router_becomeSilent (p : Port) : (s.becomeSilent p).router = s.router := by
  unfold becomeSilent; dsimp only
  have h := each_proj State.router recordNos (giveUp p) (s.modPort p fun x => { x with silent := true })
    fun i u => by unfold giveUp; split <;> rfl
  generalize (s.modPort p fun x => { x with silent := true }).each recordNos (giveUp p) = v at h ⊢
  split <;> exact h

@[simp] theorem router_takeLapse (b : Bool) (n : Nat) (p : Port) : (s.takeLapse b n p).router = s.router := by
  unfold takeLapse; dsimp only
  split
  · exact router_becomeSilent _ p
  · rfl

/-- The Event Router takes its routes and edge selections from the corridor settings handed over (R188). -/
theorem router_handCorridor (x : Option Port) (cs : CorridorRec) :
    (s.handCorridor x cs).router = { s.router with routes := cs.routes, edges := cs.edges } :=
  each_proj State.router _ _ _ fun p t => router_takeLapse t _ _ p

@[simp] theorem router_useRecord (id : RecId) : (s.useRecord id).router = s.router := by
  unfold useRecord correct discover
  split
  · split
    · rfl
    · rfl
    · split
      · rfl
      · dsimp only; rw [router_raise]; split <;> rfl
  · rfl

/-- The Event Router after a use of the corridor settings (R188). -/
theorem router_useCorridor :
    s.useCorridor.router = { s.router with routes := s.corridorInUse.routes, edges := s.corridorInUse.edges } := by
  unfold useCorridor takeCorridor
  rw [(reports_fixtures _).1, router_useRecord, router_handCorridor]

/-- A port that becomes SILENT keeps its Lapse Time, and no default changes (R146). -/
theorem becomeSilent_keeps (p : Port) :
    ((s.becomeSilent p).port p).lapseTime = (s.port p).lapseTime ∧ (s.becomeSilent p).arbiter.defaults = s.arbiter.defaults := by
  obtain ⟨_, h2, _, h4⟩ := each_giveUp p recordNos (s.modPort p fun x => { x with silent := true })
  have hp : ((s.modPort p fun x => { x with silent := true }).each recordNos (giveUp p)).port p
      = { s.port p with silent := true } := by unfold port; rw [h2]; exact port_modPort_self s p _
  unfold becomeSilent; dsimp only
  generalize (s.modPort p fun x => { x with silent := true }).each recordNos (giveUp p) = u at hp h4 ⊢
  split
  · exact ⟨by rw [deliver, port_modPort_self, hp], h4⟩
  · exact ⟨by rw [hp], h4⟩

/-- What the taking of one Lapse Time does; the sender of the WRITE that brought it does not become SILENT (R146). -/
theorem takeLapse_spec (b : Bool) (n : Nat) (p : Port) :
    ((s.takeLapse b n p).port p).lapseTime = n ∧ (∀ q, q ≠ p → (s.takeLapse b n p).port q = s.port q)
      ∧ (s.takeLapse b n p).arbiter.defaults = s.arbiter.defaults ∧ (s.takeLapse b n p).memory = s.memory
      ∧ (b = true → ((s.takeLapse b n p).port p).silent = (s.port p).silent) := by
  unfold takeLapse; dsimp only
  generalize hm : (fun x : LinkPort => ({ x with lapseTime := n, spared := x.spared || b &&
    (decide ((s.port p).lapseTime ≠ n) && !(s.port p).silent && decide (n ≤ (s.port p).silenceSeconds)) } : LinkPort)) = f
  have hl : ∀ x, (f x).lapseTime = n := fun x => by rw [← hm]
  have hs : ∀ x, (f x).silent = x.silent := fun x => by rw [← hm]
  split
  · rename_i hb
    obtain ⟨_, _, _, h4, h5⟩ := becomeSilent_spec (s.modPort p f) p
    obtain ⟨k1, k2⟩ := becomeSilent_keeps (s.modPort p f) p
    exact ⟨by rw [k1, port_modPort_self, hl], fun q hq => (h4 q hq).trans (port_modPort_ne s hq _), k2, h5,
      fun e => by simp [e] at hb⟩
  · exact ⟨by rw [port_modPort_self, hl], fun q hq => port_modPort_ne s hq _, rfl, rfl,
      fun _ => by rw [port_modPort_self, hs]⟩

/-- What the hand-over of the corridor settings to the Router and the Arbiter does (R141, R146, R188). -/
theorem handCorridor_spec (sender : Option Port) (cs : CorridorRec) :
    (∀ q, ((s.handCorridor sender cs).port q).lapseTime = cs.lapseTime.get (portIdx q))
      ∧ (s.handCorridor sender cs).arbiter.defaults = cs.defaultHolder ∧ (s.handCorridor sender cs).memory = s.memory
      ∧ ∀ q, sender = some q → ((s.handCorridor sender cs).port q).silent = (s.port q).silent := by
  obtain ⟨u, hu⟩ : ∃ u : State, u = { s with router := { s.router with routes := cs.routes, edges := cs.edges },
                                             arbiter := { s.arbiter with defaults := cs.defaultHolder } } := ⟨_, rfl⟩
  have e : s.handCorridor sender cs
      = ((u.takeLapse (sender = some .centre) (cs.lapseTime.get 0) .centre).takeLapse (sender = some .cabinet)
          (cs.lapseTime.get 1) .cabinet).takeLapse (sender = some .service) (cs.lapseTime.get 2) .service := by rw [hu]; rfl
  have hd : u.arbiter.defaults = cs.defaultHolder := by rw [hu]
  have hm : u.memory = s.memory := by rw [hu]
  have hp : ∀ q, u.port q = s.port q := by rw [hu]; exact fun _ => rfl
  rw [e]
  obtain ⟨a1, a2, a3, a4, a5⟩ := takeLapse_spec u (sender = some .centre) (cs.lapseTime.get 0) .centre
  generalize u.takeLapse (sender = some .centre) (cs.lapseTime.get 0) .centre = v at *
  obtain ⟨b1, b2, b3, b4, b5⟩ := takeLapse_spec v (sender = some .cabinet) (cs.lapseTime.get 1) .cabinet
  generalize v.takeLapse (sender = some .cabinet) (cs.lapseTime.get 1) .cabinet = w at *
  obtain ⟨c1, c2, c3, c4, c5⟩ := takeLapse_spec w (sender = some .service) (cs.lapseTime.get 2) .service
  generalize w.takeLapse (sender = some .service) (cs.lapseTime.get 2) .service = x at *
  refine ⟨fun q => ?_, by rw [c3, b3, a3, hd], by rw [c4, b4, a4, hm], fun q hq => ?_⟩
  · cases q with
    | centre => rw [c2 _ (by decide), b2 _ (by decide), a1]; rfl
    | cabinet => rw [c2 _ (by decide), b1]; rfl
    | service => rw [c1]; rfl
  · rw [← hp q]
    cases q with
    | centre => rw [c2 _ (by decide), b2 _ (by decide), a5 (decide_eq_true hq)]
    | cabinet => rw [c2 _ (by decide), b5 (decide_eq_true hq), a2 _ (by decide)]
    | service => rw [c5 (decide_eq_true hq), b2 _ (by decide), a2 _ (by decide)]

/-- The Arbiter after a use of the corridor settings: the Default Holders and the Lapse Times in force are those in use
(R141, R146). -/
theorem arbiter_useCorridor :
    s.useCorridor.arbiter.defaults = s.corridorInUse.defaultHolder
      ∧ ∀ q, (s.useCorridor.port q).lapseTime = s.corridorInUse.lapseTime.get (portIdx q) := by
  obtain ⟨h1, h2, _⟩ := handCorridor_spec s none s.corridorInUse
  unfold useCorridor takeCorridor
  generalize s.handCorridor none s.corridorInUse = u at h1 h2 ⊢
  refine ⟨by rw [(reports_fixtures _).2.1, arbiter_useRecord, h2], fun q => ?_⟩
  rw [(calm_reports _).lapseTime, (calm_useRecord u _).lapseTime, h1]

end Sys2Proof.Machine.State
end

