-- ==== Sys2Proof/Laws/Reports.lean ====
section
/-! SUPPORT. What the Lane Count reports do to each sequencer (R104). -/

namespace Sys2Proof.Machine.State

variable (s : State)

/-- Of turns that each change their own entry alone, an entry of the list is changed by its own turn, taken at a state that agrees
with the first one in that entry and in all that no turn changes. -/
theorem each_turn {ι β γ : Type} (at' : State → ι → β) (ctx : State → γ) (f : ι → State → State) (xs : List ι) (nodup : xs.Nodup)
    (hctx : ∀ i t, ctx (f i t) = ctx t) (hne : ∀ i j t, j ≠ i → at' (f i t) j = at' t j) (s : State) (j : ι) (hj : j ∈ xs) :
    ∃ u, ctx u = ctx s ∧ at' u j = at' s j ∧ at' (s.each xs f) j = at' (f j u) j := by
  induction xs generalizing s with
  | nil => cases hj
  | cons x xs ih =>
    rw [List.nodup_cons] at nodup
    have e : s.each (x :: xs) f = (f x s).each xs f := rfl
    rw [e]
    by_cases h : j = x
    · subst h
      refine ⟨s, rfl, rfl, ?_⟩
      have hnot : ∀ (ys : List ι) (t : State), j ∉ ys → at' (t.each ys f) j = at' t j := by
        intro ys
        induction ys with
        | nil => intros; rfl
        | cons y ys ih' =>
          intro t hy
          rw [List.mem_cons, not_or] at hy
          rw [show t.each (y :: ys) f = (f y t).each ys f from rfl, ih' _ hy.2, hne _ _ _ hy.1]
      exact hnot xs _ nodup.1
    · obtain ⟨u, h1, h2, h3⟩ := ih nodup.2 (f x s) ((List.mem_cons.mp hj).resolve_left h)
      exact ⟨u, h1.trans (hctx x s), h2.trans (hne x j s h), h3⟩

theorem corridorInUse_of_memory {s t : State} (h : t.memory = s.memory) : t.corridorInUse = s.corridorInUse := by
  unfold corridorInUse damaged health; rw [h]

/-- A Lane Count report changes its own sequencer alone (R104). -/
theorem report_own (r : Ramp) : ∃ q, (s.report r).sequencers = s.sequencers.set r q := by
  have id' : ∃ q, s.sequencers = s.sequencers.set r q := ⟨s.seq r, (Tab.set_get _ _).symm⟩
  have warned : ∀ t : State, (∃ q, t.sequencers = s.sequencers.set r q) → ∃ q, (t.offFollowed r).sequencers = s.sequencers.set r q := by
    rintro t ⟨q, hq⟩
    unfold offFollowed; split
    · rw [sequencers_warningEntry, hq, Tab.set_set]; exact ⟨_, rfl⟩
    · exact ⟨q, hq⟩
  unfold report; dsimp only
  split
  · split
    · rw [sequencers_setRampState, setSeq_sequencers, Tab.set_set]; exact ⟨_, rfl⟩
    · exact ⟨_, rfl⟩
  · exact ⟨_, rfl⟩
  · split
    · exact id'
    · refine warned _ ?_
      rw [sequencers_setRampState, setSeq_sequencers, Tab.set_set]; exact ⟨_, rfl⟩
  · split
    · exact ⟨_, rfl⟩
    · refine warned _ ?_
      unfold offSettled; dsimp only
      split <;> split <;> simp only [sequencers_setRampState, setSeq_sequencers, sequencers_goDark, Tab.set_set] <;> exact ⟨_, rfl⟩
  · split
    · exact ⟨_, rfl⟩
    · split
      · exact ⟨_, rfl⟩
      · rw [sequencers_endingEntry, setSeq_sequencers, Tab.set_set]; exact ⟨_, rfl⟩
  · exact ⟨_, rfl⟩

theorem seq_report_ne {r r' : Ramp} (h : r' ≠ r) : (s.report r).seq r' = s.seq r' := by
  obtain ⟨q, hq⟩ := s.report_own r
  simp [seq, hq, Tab.get_set_ne _ _ h]

/-- After the Lane Count reports a sequencer is as its own report leaves it, at a state with the same sequencer and the same
configuration memory (R104). -/
theorem seq_reports (r : Ramp) :
    ∃ u : State, u.memory = s.memory ∧ u.seq r = s.seq r ∧ s.reports.seq r = (u.report r).seq r :=
  each_turn State.seq State.memory report ramps ramps_nodup
    (fun i t => congrArg (·.2.2) (fixtures_report t i)) (fun _ _ t h => seq_report_ne t h) s r (mem_ramps r)

/-- A report of the Lane Count In Force takes a Pending Lane Count back and changes nothing more (R104). -/
theorem seq_report_same (r : Ramp) (hn : s.corridorInUse.laneCount.get r = (s.seq r).laneCount)
    (hc : (s.seq r).state ≠ .unconfigured) (h0 : (s.seq r).laneCount ≠ 0) :
    (s.report r).seq r = { s.seq r with pendingCount := none } := by
  unfold report; dsimp only
  split <;> rename_i hs
  · rw [if_neg (by rw [hn]; exact h0), hn, seq_setSeq_self]
  · rw [hn, seq_setSeq_self]
  · exact absurd hs hc
  · rw [if_pos hn, seq_setSeq_self]
  · rw [if_pos hn, seq_setSeq_self]
  · rw [if_pos hn, seq_setSeq_self]

theorem seq_reports_same (r : Ramp) (hn : s.corridorInUse.laneCount.get r = (s.seq r).laneCount)
    (hc : (s.seq r).state ≠ .unconfigured) (h0 : (s.seq r).laneCount ≠ 0) :
    s.reports.seq r = { s.seq r with pendingCount := none } := by
  obtain ⟨u, h1, h2, h3⟩ := s.seq_reports r
  rw [h3, seq_report_same u r (by rw [corridorInUse_of_memory h1, h2]; exact hn) (by rw [h2]; exact hc) (by rw [h2]; exact h0), h2]

end Sys2Proof.Machine.State
end

