-- ==== Sys2Proof/Laws/Sample.lean ====
section
/-! SUPPORT. What a slot, a lane's new state and a sample change, and what they leave alone. -/

/-- What the latest sense sample of a lane found: the sensed aspect and the aspect commanded then. -/
def Sys2Proof.Machine.LaneMonitor.latest (m : Sys2Proof.Machine.LaneMonitor) :
    Sys2Proof.Machine.Sensed × Option Sys2Proof.Machine.Aspect := (m.sensed, m.sampled)

namespace Sys2Proof.Machine.State

variable (s : State)

/-! ### Lanes and slots: the sequencers and the lamps alone -/

theorem handLane_frame (r : Ramp) (ln : LaneNo) (st : LaneState) :
    { s.handLane r ln st with sequencers := s.sequencers, lamps := s.lamps } = s := by
  unfold handLane; dsimp only; split <;> rfl

theorem giveSlot_frame (r : Ramp) (ln : LaneNo) :
    { s.giveSlot r ln with sequencers := s.sequencers, lamps := s.lamps } = s := by
  unfold giveSlot; dsimp only
  split
  · rfl
  · exact handLane_frame s r ln _

theorem offerSlot_frame (r : Ramp) : { s.offerSlot r with sequencers := s.sequencers, lamps := s.lamps } = s := by
  unfold offerSlot; split
  · exact giveSlot_frame s r _
  · rfl

theorem judgeHeld_frame (r : Ramp) : { s.judgeHeld r with sequencers := s.sequencers, lamps := s.lamps } = s := by
  unfold judgeHeld; split
  · exact offerSlot_frame s r
  · rfl

theorem stateCheckIn_frame (r : Ramp) : { s.stateCheckIn r with sequencers := s.sequencers, lamps := s.lamps } = s := by
  unfold stateCheckIn; dsimp only; split
  · rfl
  · generalize ({ s.seq r with checkIn := _ } : Sequencer) = q
    have h := congrArg (fun t : State => { t with sequencers := s.sequencers }) (judgeHeld_frame (s.setSeq r q) r)
    exact h

/-- What the latest sense sample found stands when a lane takes a state (R128). -/
theorem latest_handLane (r : Ramp) (ln : LaneNo) (st : LaneState) (r' : Ramp) (ln' : LaneNo) :
    ((s.handLane r ln st).lamp r' ln').latest = (s.lamp r' ln').latest := by
  unfold handLane; dsimp only; split
  · rfl
  · by_cases h : r' = r ∧ ln' = ln
    · obtain ⟨rfl, rfl⟩ := h; rw [lamp_setLamp_self]; rfl
    · rw [lamp_setLamp_ne _ (by tauto)]; rfl

theorem latest_judgeHeld (r r' : Ramp) (ln' : LaneNo) : ((s.judgeHeld r).lamp r' ln').latest = (s.lamp r' ln').latest := by
  unfold judgeHeld offerSlot giveSlot; dsimp only
  split
  · split
    · split
      · rfl
      · exact latest_handLane s r _ _ r' ln'
    · rfl
  · rfl

theorem latest_stateCheckIn (r r' : Ramp) (ln' : LaneNo) :
    ((s.stateCheckIn r).lamp r' ln').latest = (s.lamp r' ln').latest := by
  unfold stateCheckIn; dsimp only; split
  · rfl
  · exact latest_judgeHeld _ r r' ln'

/-- A slot changes no ramp state. -/
theorem state_judgeHeld (r r' : Ramp) : ((s.judgeHeld r).seq r').state = (s.seq r').state := by
  unfold judgeHeld offerSlot giveSlot; dsimp only
  split
  · split
    · split
      · rfl
      · rename_i ln _ t _
        simp only [seq, modSeq_sequencers, sequencers_handLane, Tab.get_set]
        split
        · rename_i h; subst h; simp [Sequencer.slotGiven, Sequencer.setTiming]
        · simp [*]
    · simp only [seq, modSeq_sequencers, Tab.get_set]
      split
      · rename_i h; subst h; rfl
      · rfl
  · rfl

theorem state_stateCheckIn (r r' : Ramp) : ((s.stateCheckIn r).seq r').state = (s.seq r').state := by
  unfold stateCheckIn; dsimp only; split
  · rfl
  · rw [state_judgeHeld]
    by_cases h : r' = r
    · subst h; rw [seq_setSeq_self]
    · rw [seq_setSeq_ne _ h]

/-! ### The sense sample (R127, R128) -/

/-- The incidents of one lane that qualify at a sense sample (R128). -/
def foundAt (inp : Inputs) (r : Ramp) (ln : LaneNo) (s : State) : List Qualified :=
  if (s.seq r).state = .unconfigured then []
  else (({ s.lamp r ln with sensed := sensedAt inp r ln, sampled := some (s.commanded r ln) } : LaneMonitor).qualifying (s.commanded r ln)).map fun k =>
    { ramp := r, lane := ln, kind := k, commanded := s.commanded r ln, sensed := sensedAt inp r ln }

/-- What the sense sample of one lane does. -/
theorem senseLane_spec (inp : Inputs) (r : Ramp) (ln : LaneNo) :
    { s.senseLane inp r ln with lamps := s.lamps, qualified := s.qualified } = s
      ∧ (s.senseLane inp r ln).qualified = s.qualified ++ s.foundAt inp r ln
      ∧ ((s.senseLane inp r ln).lamp r ln).latest = (sensedAt inp r ln, some (s.commanded r ln))
      ∧ ∀ r' ln', ¬ (r' = r ∧ ln' = ln) → (s.senseLane inp r ln).lamp r' ln' = s.lamp r' ln' := by
  unfold senseLane foundAt; dsimp only
  split
  · refine ⟨rfl, by simp, by rw [lamp_setLamp_self]; rfl, fun r' ln' h => lamp_setLamp_ne _ (by tauto) _⟩
  · refine ⟨rfl, rfl, ?_, fun r' ln' h => ?_⟩
    · show ((s.setLamp r ln _).lamp r ln).latest = _
      rw [lamp_setLamp_self]; rfl
    · exact lamp_setLamp_ne s (by tauto) _

/-- All lanes of all ramps, in the order of the sense sample. -/
def lanePairs : List (Ramp × LaneNo) := ramps.flatMap fun r => laneNos.map fun ln => (r, ln)

theorem senseLamps_pairs (inp : Inputs) : s.senseLamps inp = s.each lanePairs fun x t => t.senseLane inp x.1 x.2 := by
  simp [senseLamps, lanePairs, each, ramps, laneNos]

theorem senseLanes_spec (inp : Inputs) (xs : List (Ramp × LaneNo)) (nodup : xs.Nodup) (s : State) :
    { s.each xs (fun x t => t.senseLane inp x.1 x.2) with lamps := s.lamps, qualified := s.qualified } = s
      ∧ (s.each xs fun x t => t.senseLane inp x.1 x.2).qualified = s.qualified ++ xs.flatMap (fun x => s.foundAt inp x.1 x.2)
      ∧ ∀ x ∈ xs, ((s.each xs fun x t => t.senseLane inp x.1 x.2).lamp x.1 x.2).latest
          = (sensedAt inp x.1 x.2, some (s.commanded x.1 x.2)) := by
  induction xs generalizing s with
  | nil => exact ⟨rfl, by simp [each], fun x hx => by cases hx⟩
  | cons x xs ih =>
    rw [List.nodup_cons] at nodup
    obtain ⟨a1, a2, a3, a4⟩ := s.senseLane_spec inp x.1 x.2
    obtain ⟨b1, b2, b3⟩ := ih nodup.2 (s.senseLane inp x.1 x.2)
    have e : s.each (x :: xs) (fun x t => t.senseLane inp x.1 x.2)
        = (s.senseLane inp x.1 x.2).each xs fun x t => t.senseLane inp x.1 x.2 := rfl
    have hseq : (s.senseLane inp x.1 x.2).sequencers = s.sequencers := by
      have h := congrArg State.sequencers a1; exact h
    have keep : ∀ (ys : List (Ramp × LaneNo)) (t : State), x ∉ ys →
        (t.each ys fun x t => t.senseLane inp x.1 x.2).lamp x.1 x.2 = t.lamp x.1 x.2 := by
      intro ys
      induction ys with
      | nil => intros; rfl
      | cons y ys ih' =>
        intro t hy
        rw [List.mem_cons, not_or] at hy
        rw [show t.each (y :: ys) (fun x t => t.senseLane inp x.1 x.2)
          = (t.senseLane inp y.1 y.2).each ys fun x t => t.senseLane inp x.1 x.2 from rfl, ih' _ hy.2]
        exact (t.senseLane_spec inp y.1 y.2).2.2.2 _ _ fun h => hy.1 (Prod.ext h.1 h.2)
    rw [e]
    refine ⟨?_, ?_, fun y hy => ?_⟩
    · have h := congrArg (fun t : State => { t with lamps := s.lamps, qualified := s.qualified }) b1
      exact h.trans a1
    · rw [b2, a2, List.append_assoc, List.flatMap_cons]
      congr 2
      apply List.flatMap_congr
      intro y hy
      have hne : ¬ (y.1 = x.1 ∧ y.2 = x.2) := fun h => nodup.1 (Prod.ext h.1 h.2 ▸ hy)
      unfold foundAt commanded seq
      rw [a4 _ _ hne, hseq]
    · rcases List.mem_cons.mp hy with h | h
      · subst h; rw [keep xs _ nodup.1, a3]
      · rw [b3 y h]; unfold commanded seq; rw [hseq]

/-- What the sense sample of all lanes does (R127, R128). -/
theorem senseLamps_spec (inp : Inputs) :
    { s.senseLamps inp with lamps := s.lamps, qualified := s.qualified } = s
      ∧ (s.senseLamps inp).qualified = s.qualified ++ lanePairs.flatMap (fun x => s.foundAt inp x.1 x.2)
      ∧ ∀ r ln, ((s.senseLamps inp).lamp r ln).latest = (sensedAt inp r ln, some (s.commanded r ln)) := by
  rw [senseLamps_pairs]
  obtain ⟨a, b, c⟩ := senseLanes_spec inp lanePairs (by decide) s
  refine ⟨a, b, fun r ln => c (r, ln) ?_⟩
  revert r ln; decide

/-! ### Loops and buttons at a sample -/

/-- What the sample of one loop does to it (R6, R8, R9, R11, R15). -/
theorem sampleLoop_spec (inp : Inputs) (i : LoopNo) :
    { s.sampleLoop inp i with loops := s.loops, ports := s.ports } = s
      ∧ (∀ l after, l = (s.loop i).sample (inp.presence.getLsbD i.val) → after = l.judged (s.loopRec i) s.timer.secondDue →
        (s.sampleLoop inp i).loop i = { l with
          notOkSeen := l.notOkSeen || after ≠ .ok
          state := if l.outstanding (s.loopRec i) s.timer.secondDue then l.state else after })
      ∧ ∀ j, j ≠ i → (s.sampleLoop inp i).loop j = s.loop j := by
  refine ⟨putLoop_frame s i _, ?_, fun j h => loop_putLoop_ne s _ h⟩
  rintro l after rfl rfl
  exact loop_putLoop_self s i _

end Sys2Proof.Machine.State
end

