-- ==== Sys2Proof/Laws/Close.lean ====
section
/-! SUPPORT. To which ports an event goes, and what each phase of a close changes and what it leaves alone (R22, R188). -/

namespace Sys2Proof.Machine.State

variable (s : State) (v : CloseView)

/-! ### Events -/

theorem classIn_addClass (c d : EventClass) (x : ClassSet) : classIn d (addClass c x) = (classIn d x || decide (d = c)) := by
  unfold classIn addClass
  cases c <;> cases d <;> simp [EventClass.place]

/-- The delivery of a class moves no route, watch or port state (R188). -/
theorem delivers_deliver (c d : EventClass) (p q : Port) : (s.deliver c p).delivers d q = s.delivers d q := by
  have h : ((s.deliver c p).port .centre).silent = (s.port .centre).silent := by
    unfold deliver
    by_cases e : Port.centre = p
    · subst e; rw [port_modPort_self]
    · rw [port_modPort_ne _ e]
  cases q
  · rfl
  · simp only [delivers, h]; rfl
  · rfl

theorem pending_deliver (c d : EventClass) (p q : Port) : classIn d ((s.deliver c p).port q).pending
    = (classIn d (s.port q).pending || (decide (q = p) && decide (d = c))) := by
  unfold deliver
  by_cases e : q = p
  · subst e; rw [port_modPort_self, classIn_addClass]; simp
  · rw [port_modPort_ne _ e]; simp [e]

/-- An event adds its class to the Pending Sets of the ports it is delivered to, and no other class to any (R188). -/
theorem pending_raise (c d : EventClass) (p : Port) : classIn d ((s.raise c).port p).pending
    = (classIn d (s.port p).pending || (decide (d = c) && s.delivers c p)) := by
  have go (ps : List Port) (t : State) : classIn d ((t.each ps fun p t => if s.delivers c p then t.deliver c p else t).port p).pending
      = (classIn d (t.port p).pending || (decide (p ∈ ps) && decide (d = c) && s.delivers c p)) := by
    unfold each
    induction ps generalizing t with
    | nil => simp
    | cons x xs ih =>
      rw [List.foldl_cons, ih]; dsimp only
      cases hd : s.delivers c x
      · rw [if_neg Bool.false_ne_true]
        by_cases e : p = x
        · subst e; simp [hd]
        · simp [e]
      · rw [if_pos rfl, pending_deliver]
        by_cases e : p = x
        · subst e; cases decide (d = c) <;> simp [hd]
        · simp [e]
  unfold raise
  rw [go]
  have : p ∈ ports3 := by cases p <;> decide
  simp [this]

/-- The same of an event raised under a condition. -/
theorem pending_raiseIf (b : Bool) (c d : EventClass) (p : Port) : classIn d ((s.raiseIf b c).port p).pending
    = (classIn d (s.port p).pending || (b && decide (d = c) && s.delivers c p)) := by
  unfold raiseIf
  cases b
  · simp
  · simp [pending_raise]

/-- An event moves no route, watch or port state (R188). -/
theorem delivers_raise (c d : EventClass) (p : Port) : (s.raise c).delivers d p = s.delivers d p :=
  each_proj (fun t => t.delivers d p) ports3 _ s fun q t => by split <;> simp [delivers_deliver]

theorem delivers_raiseIf (b : Bool) (c d : EventClass) (p : Port) : (s.raiseIf b c).delivers d p = s.delivers d p := by
  unfold raiseIf; split
  · exact delivers_raise s c d p
  · rfl

/-! ### Phase 2: what is set (R22, R29, R121) -/

/-- Turns that each replace one ramp's measurements, by what no turn changes: they change those alone, each once. -/
theorem eachMeas_spec {γ : Type} (ctx : State → γ) (F : γ → Ramp → RampMeasure → RampMeasure)
    (hctx : ∀ r m t, ctx (t.setMeas r m) = ctx t) :
    let t := s.each ramps fun r t => t.setMeas r (F (ctx t) r (t.meas r))
    { t with measure := s.measure } = s ∧ ∀ r, t.meas r = F (ctx s) r (s.meas r) := by
  refine ⟨each_induct (P := fun t => ({ t with measure := s.measure } : State) = s) ramps _ rfl fun _ _ h => h, fun r => ?_⟩
  have h := each_at (fun t r => t.meas r) ctx F (fun r t => t.setMeas r (F (ctx t) r (t.meas r))) ramps ramps_nodup
    (fun r t => hctx r _ t) (fun r t => meas_setMeas_self t r _) (fun r r' t e => meas_setMeas_ne t e _) s r
  rwa [if_pos (mem_ramps r)] at h

/-- The greens are counted anew, the station results stand, and nothing else changes. -/
theorem closeStations_spec :
    { s.closeStations v with sequencers := s.sequencers, measure := s.measure, corridorMeasure := s.corridorMeasure } = s
      ∧ (s.closeStations v).corridorMeasure = { s.corridorMeasure with bottleneck := some (bottleneckResult v.values) }
      ∧ ∀ r, (s.closeStations v).seq r = { s.seq r with greens := Tab.replicate 2 0 }
        ∧ (s.closeStations v).meas r = { s.meas r with results := v.results r } := by
  obtain ⟨u, hu⟩ : ∃ u : State, u = { s with sequencers := s.sequencers.map fun q => { q with greens := Tab.replicate 2 0 } } :=
    ⟨_, rfl⟩
  obtain ⟨w, hw⟩ : ∃ w : State, w = u.each ramps fun r t => t.setMeas r { t.meas r with results := v.results r } := ⟨_, rfl⟩
  obtain ⟨f, m⟩ := eachMeas_spec u (fun _ => ()) (fun _ r m => { m with results := v.results r }) fun _ _ _ => rfl
  have e : s.closeStations v = { w with
      corridorMeasure := { w.corridorMeasure with bottleneck := some (bottleneckResult v.values) } } := by
    rw [hw, hu]; rfl
  rw [← hw] at f m
  have hq : w.sequencers = u.sequencers := by have h := congrArg State.sequencers f; exact h
  have hc : w.corridorMeasure = u.corridorMeasure := by have h := congrArg State.corridorMeasure f; exact h
  rw [e]
  refine ⟨?_, by dsimp only; rw [hc, hu], fun r => ⟨?_, ?_⟩⟩
  · have g := congrArg (fun t : State => { t with sequencers := s.sequencers, measure := s.measure }) f
    rw [hu] at g
    exact (congrArg (fun t : State => { t with corridorMeasure := s.corridorMeasure, measure := s.measure }) g)
  · show w.sequencers.get r = _
    rw [hq, hu]; simp [seq]
  · show w.meas r = _
    rw [m r, hu]; rfl

/-! ### Phases 3 and 4 (R30, R31, R44, R115) -/

/-- A ramp's measurements with its queue estimate set for the plans in use, and "queue held" with it (R30, R31). -/
def queueSet (v : CloseView) (plan : Ramp → Option Plan) (r : Ramp) (m : RampMeasure) : RampMeasure :=
  match m.results with
  | some res =>
    if v.metering r then
      { m with queueEstimate := queueRaise (plan r) res (balance m.queueEstimate res),
               results := some { res with queueHeld := res.arrivals.isNone } }
    else { m with queueEstimate := 0 }
  | none => { m with queueEstimate := 0 }

theorem closeQueue_eq : closeQueue v = fun r t => t.setMeas r (queueSet v t.planInUse r (t.meas r)) := by
  funext r t
  unfold closeQueue queueSet; dsimp only
  cases (t.meas r).results
  · rfl
  · dsimp only; split <;> rfl

/-- The queue estimates are set, with "queue held", and nothing else changes. -/
theorem closeQueues_spec :
    { s.each ramps (closeQueue v) with measure := s.measure } = s
      ∧ ∀ r, (s.each ramps (closeQueue v)).meas r = queueSet v s.planInUse r (s.meas r) := by
  rw [closeQueue_eq]
  exact eachMeas_spec s planInUse (queueSet v) fun _ _ _ => rfl

/-! ### Phase 5 (R41, R42, R45 to R59) -/

/-- The hand-over of one ramp changes that ramp's rates and Pending Timing. -/
theorem handOver_spec (xs : Stage5s) (applied : Bool) (r : Ramp) :
    { s.handOver v xs applied r with rates := s.rates, sequencers := s.sequencers } = s
      ∧ ∀ r', r' ≠ r → (s.handOver v xs applied r).rate r' = s.rate r' ∧ (s.handOver v xs applied r).seq r' = s.seq r' := by
  unfold handOver
  split
  · exact ⟨rfl, fun r' h => ⟨rate_setRate_ne s h _, seq_modSeq_ne _ h _⟩⟩
  · exact ⟨rfl, fun r' h => ⟨rate_setRate_ne s h _, rfl⟩⟩

/-- Stages 2 to 8 change the rates, the Pending Timings and the corridor's rate items. -/
theorem closeRates_frame :
    { s.closeRates v with rates := s.rates, sequencers := s.sequencers, corridorRate := s.corridorRate } = s := by
  unfold closeRates; dsimp only
  refine each_induct (P := fun t => ({ t with rates := s.rates, sequencers := s.sequencers, corridorRate := s.corridorRate } : State) = s)
    ramps _ rfl fun r t h => ?_
  exact (congrArg (fun u : State => { u with rates := s.rates, sequencers := s.sequencers, corridorRate := s.corridorRate })
    (handOver_spec t v _ _ r).1).trans h

/-! ### Phases 6 and 7 (R32 to R36) -/

/-- The history rings change the measurements alone. -/
theorem closeHistories_frame : { s.each ramps (closeHistory v) with measure := s.measure } = s :=
  each_induct (P := fun t => ({ t with measure := s.measure } : State) = s) ramps _ rfl fun r t h => by
    unfold closeHistory; dsimp only
    cases (t.meas r).results <;> exact h

/-- The station conditions follow the results, and nothing else changes. -/
theorem closeConditions_spec :
    let t := s.each ramps closeConditions
    { t with measure := s.measure } = s
      ∧ ∀ r, t.meas r = { s.meas r with mergeData := ((s.meas r).results.bind (·.merge)).isSome,
                                        arrivalsData := ((s.meas r).results.bind (·.arrivals)).isSome,
                                        queueEndData := ((s.meas r).results.bind (·.queueEnd)).isSome } :=
  eachMeas_spec s (fun _ => ()) (fun _ _ m => { m with mergeData := (m.results.bind (·.merge)).isSome,
                                                       arrivalsData := (m.results.bind (·.arrivals)).isSome,
                                                       queueEndData := (m.results.bind (·.queueEnd)).isSome }) fun _ _ _ => rfl

end Sys2Proof.Machine.State
end

