-- ==== Sys2Proof/Laws/Codecs.lean ====
section
/-! SUPPORT. Each field form of R194: a value that was decoded encodes to the byte or bytes it came from, and a value in its range
decodes from the byte or bytes it encodes to. -/

namespace Sys2Proof.Machine

theorem between_some {lo hi n m : Nat} (h : between lo hi n = some m) : m = n := by
  unfold between at h; split at h <;> simp_all

theorem byte1_toNat (b : Byte) : byte1 b.toNat = b := by simp [byte1]

theorem bytes2_word (a b : Byte) : bytes2 (a.toNat * 256 + b.toNat) = [a, b] := by
  have ha := a.isLt; have hb := b.isLt
  simp only [bytes2]
  congr 1
  · apply BitVec.eq_of_toNat_eq; simp; omega
  · congr 1; apply BitVec.eq_of_toNat_eq; simp; omega

theorem role_code {n : Nat} {r} (h : Role.ofCode n = some r) : r.code = n := by
  unfold Role.ofCode at h; split at h <;> simp at h <;> subst h <;> rfl

theorem mode_code {n : Nat} {r} (h : Mode.ofCode n = some r) : r.code = n := by
  unfold Mode.ofCode at h; split at h <;> simp at h <;> subst h <;> rfl

theorem yes_code {n : Nat} {r} (h : yesOfCode n = some r) : r.toNat = n := by
  unfold yesOfCode at h; split at h <;> simp at h <;> subst h <;> rfl

theorem on_code {n : Nat} {r} (h : onOfCode n = some r) : (!r).toNat = n := by
  unfold onOfCode at h; split at h <;> simp at h <;> subst h <;> rfl

theorem direction_code {n : Nat} {r} (h : Direction.ofCode n = some r) : r.code = n := by
  unfold Direction.ofCode at h; split at h <;> simp at h <;> subst h <;> rfl

theorem route_code {n : Nat} {r} (h : Route.ofCode n = some r) : r.code = n := by
  unfold Route.ofCode at h; split at h <;> simp at h <;> subst h <;> rfl

theorem edge_code {n : Nat} {r} (h : Edge.ofCode n = some r) : r.code = n := by
  unfold Edge.ofCode at h; split at h <;> simp at h <;> subst h <;> rfl

theorem policy_code {n : Nat} {r} (h : RestartPolicy.ofCode n = some r) : r.code = n := by
  unfold RestartPolicy.ofCode at h; split at h <;> simp at h <;> subst h <;> rfl

theorem week_code {n : Nat} {r} (h : Week.ofCode n = some r) : r.code = n := by
  unfold Week.ofCode at h; split at h
  · simp at h; subst h; simp [Week.code, *]
  · simp at h; obtain ⟨m, hm, rfl⟩ := h; simp [Week.code, between_some hm]

theorem index_number {n : Nat} {b : Nat} {i : Fin n} (h : indexOf n b = some i) : i.val + 1 = b := by
  unfold indexOf at h; split at h
  · simp at h; subst h; simp; omega
  · cases h

theorem optional_number_byte {n : Nat} {b : Byte} {i : Option (Fin n)} (h : optionally (indexOf n) b.toNat = some i) : (i.map numberByte).getD 0xFF = b := by
  unfold optionally at h; split at h
  · simp at h; subst h; simp [absentByte] at *; apply BitVec.eq_of_toNat_eq; simp [*]
  · simp at h; obtain ⟨j, hj, rfl⟩ := h
    simp [numberByte, index_number hj]

theorem optional_value_byte {lo hi : Nat} {b : Byte} {i : Option Nat} (h : optionally (between lo hi) b.toNat = some i) : (i.map byte1).getD 0xFF = b := by
  unfold optionally at h; split at h
  · simp at h; subst h; simp [absentByte] at *; apply BitVec.eq_of_toNat_eq; simp [*]
  · simp at h; obtain ⟨j, hj, rfl⟩ := h
    simp [byte1, between_some hj]

theorem planRef_number {n : Nat} {r} (h : PlanRef.ofNumber n = some r) : r.number = n := by
  unfold PlanRef.ofNumber at h; split at h
  · simp at h; subst h; simp [PlanRef.number, *]
  · simp at h; obtain ⟨m, hm, rfl⟩ := h; simp [PlanRef.number, index_number hm]

theorem action_code {b : Byte} {r} (h : Action.ofCode b.toNat = some r) : r.code = b := by
  unfold Action.ofCode at h; split at h
  · simp at h; subst h; simp [absentByte, Action.code] at *; apply BitVec.eq_of_toNat_eq; simp [*]
  · simp at h; obtain ⟨m, hm, rfl⟩ := h; simp [Action.code, numberByte, index_number hm]

theorem mask_byte {w : Nat} (_hw : w ≤ 8) {b : Byte} {r} (h : maskOf w b.toNat = some r) : r.setWidth 8 = b := by
  unfold maskOf at h; split at h
  · simp at h; subst h
    have := b.isLt
    apply BitVec.eq_of_toNat_eq
    rename_i hh
    simp
    rw [Nat.mod_eq_of_lt hh.2]; omega
  · cases h

theorem defaultHolder_byte {b : Byte} {r} (h : defaultHolderOf b.toNat = some r) : holderByte r = b := by
  unfold defaultHolderOf at h; split at h <;> simp at h <;> subst h <;> simp [holderByte] <;> apply BitVec.eq_of_toNat_eq <;> simp [*]


theorem tabAll_some {n : Nat} {α : Type} [Inhabited α] {f : Fin n → Option α} {t} (h : tabAll f = some t) : t = Tab.ofFn (fun i => (f i).getD default) ∧ ∀ i, (f i).isSome := by
  unfold tabAll at h; split at h
  · simp at h; rename_i hh; simp at hh; exact ⟨h.symm, hh⟩
  · cases h

/-! ### A value in its range decodes from what it encodes to -/

theorem between_in {lo hi n : Nat} (h : lo ≤ n ∧ n ≤ hi) : between lo hi n = some n := by simp [between, h]

theorem between_range {lo hi n m : Nat} (h : between lo hi n = some m) : lo ≤ m ∧ m ≤ hi := by
  unfold between at h; split at h <;> simp_all

theorem toNat_byte1 {n : Nat} (h : n < 256) : (byte1 n).toNat = n := by simp [byte1]; omega

theorem wordAt_bytes2 {bs : List Byte} {n i : Nat} (h : n < 65536) (hi : bs[i]? = some (BitVec.ofNat 8 (n / 256)))
    (lo : bs[i + 1]? = some (BitVec.ofNat 8 n)) : wordAt bs i = n := by
  simp [wordAt, byteAt, List.getD_eq_getElem?_getD, hi, lo]; omega

@[simp] theorem ofCode_role (r : Role) : Role.ofCode r.code = some r := by cases r <;> rfl
@[simp] theorem ofCode_mode (r : Mode) : Mode.ofCode r.code = some r := by cases r <;> rfl
@[simp] theorem ofCode_yes (b : Bool) : yesOfCode b.toNat = some b := by cases b <;> rfl
@[simp] theorem ofCode_on (b : Bool) : onOfCode (!b).toNat = some b := by cases b <;> rfl
@[simp] theorem ofCode_direction (r : Direction) : Direction.ofCode r.code = some r := by cases r <;> rfl
@[simp] theorem ofCode_route (r : Route) : Route.ofCode r.code = some r := by cases r <;> rfl
@[simp] theorem ofCode_edge (r : Edge) : Edge.ofCode r.code = some r := by cases r <;> rfl
@[simp] theorem ofCode_policy (r : RestartPolicy) : RestartPolicy.ofCode r.code = some r := by cases r <;> rfl

theorem ofCode_week {w : Week} (h : ∀ n, w = .nth n → 1 ≤ n ∧ n ≤ 4) : Week.ofCode w.code = some w := by
  cases w with
  | nth n =>
    have hn := h n rfl
    have h5 : n ≠ 5 := by omega
    simp [Week.ofCode, Week.code, h5, between_in hn]
  | last => rfl

theorem indexOf_number {n : Nat} (i : Fin n) : indexOf n (i.val + 1) = some i := by
  have := i.isLt
  simp [indexOf]

theorem ofNumber_planRef (x : PlanRef) : PlanRef.ofNumber x.number = some x := by
  cases x with
  | builtin => rfl
  | slot k => simp [PlanRef.ofNumber, PlanRef.number, indexOf_number]

theorem ofCode_action (x : Action) : Action.ofCode x.code.toNat = some x := by
  cases x with
  | off => rfl
  | plan k =>
    have hk := k.isLt
    have : (numberByte k).toNat = k.val + 1 := by simp [numberByte]; omega
    simp only [Action.ofCode, Action.code, this, indexOf_number, absentByte]
    rw [if_neg (by omega)]; rfl

theorem optionally_number {n : Nat} (h : n < 255) (x : Option (Fin n)) :
    optionally (indexOf n) ((x.map numberByte).getD 0xFF).toNat = some x := by
  cases x with
  | none => rfl
  | some i =>
    have hi := i.isLt
    have : (numberByte i).toNat = i.val + 1 := by simp [numberByte]; omega
    simp only [optionally, Option.map_some, Option.getD_some, this, indexOf_number, absentByte]
    rw [if_neg (by omega)]

theorem optionally_value {lo hi : Nat} (hh : hi < 255) {x : Option Nat} (h : ∀ n, x = some n → lo ≤ n ∧ n ≤ hi) :
    optionally (between lo hi) ((x.map byte1).getD 0xFF).toNat = some x := by
  cases x with
  | none => rfl
  | some n =>
    have hn := h n rfl
    simp only [optionally, Option.map_some, Option.getD_some, toNat_byte1 (show n < 256 by omega), between_in hn, absentByte]
    rw [if_neg (by omega)]

theorem maskOf_byte {w : Nat} (hw : w ≤ 8) {x : BitVec w} (h : x ≠ 0) : maskOf w (x.setWidth 8).toNat = some x := by
  have hx := x.isLt
  have hp : 2 ^ w ≤ 256 := by simpa using Nat.pow_le_pow_right (n := 2) (by omega) hw
  have hb : (x.setWidth 8).toNat = x.toNat := by simp; omega
  have h0 : 0 < x.toNat := by
    rcases Nat.eq_zero_or_pos x.toNat with e | e
    · exact absurd (BitVec.eq_of_toNat_eq (by simpa using e)) h
    · exact e
  simp only [maskOf, hb, h0, hx, and_self, if_true, BitVec.ofNat_toNat, BitVec.setWidth_eq]

theorem defaultHolderOf_byte {x : Option Port} (h : x ≠ some .service) : defaultHolderOf (holderByte x).toNat = some x := by
  cases x with
  | none => rfl
  | some p => cases p <;> first | rfl | exact absurd rfl h

theorem tabAll_in {n : Nat} {α : Type} [Inhabited α] {f : Fin n → Option α} {t : Tab n α} (h : ∀ i, f i = some (t.get i)) :
    tabAll f = some t := by
  unfold tabAll
  rw [if_pos (by simp [h])]
  congr 1
  exact Tab.ext_get fun i => by simp [h]

end Sys2Proof.Machine
end

