-- ==== Sys2Proof/Laws/Entries.lean ====
section
/-! SUPPORT. What the operations on lists do to the entries: the FALLBACK entry of one list is the part's own, and every other entry
stands as it was placed (R72 to R74). -/

namespace Sys2Proof.Machine.State

variable {s t u : State} {r : Ramp}

/-- At most the FALLBACK entry of list `r` differs. -/
def FallbackOnly (s t : State) (r : Ramp) : Prop := ∃ fb, t.lists = s.lists.set r { s.planList r with fallback := fb }

theorem FallbackOnly.of_lists (h : t.lists = s.lists) : s.FallbackOnly t r :=
  ⟨(s.planList r).fallback, h.trans (Tab.set_get _ _).symm⟩

theorem FallbackOnly.trans (h : s.FallbackOnly t r) (g : t.FallbackOnly u r) : s.FallbackOnly u r := by
  obtain ⟨a, ha⟩ := h
  obtain ⟨b, hb⟩ := g
  refine ⟨b, ?_⟩
  rw [hb, ha, Tab.set_set]
  have : t.planList r = { s.planList r with fallback := a } := by simp [planList, ha]
  rw [this]

theorem FallbackOnly.lists_left {t' : State} (h : s.FallbackOnly t r) (e : t'.lists = t.lists) : s.FallbackOnly t' r := by
  obtain ⟨a, ha⟩ := h; exact ⟨a, e.trans ha⟩

theorem FallbackOnly.lists_right {s' : State} (h : s.FallbackOnly t r) (e : s'.lists = s.lists) : s'.FallbackOnly t r := by
  obtain ⟨a, ha⟩ := h
  refine ⟨a, ?_⟩
  have : s'.planList r = s.planList r := by simp [planList, e]
  rw [this, e]; exact ha

/-- The entries of every list but the FALLBACK entry stand. -/
theorem FallbackOnly.entries (h : s.FallbackOnly t r) (r' : Ramp) :
    (t.planList r').hold = (s.planList r').hold ∧ (t.planList r').command = (s.planList r').command
      ∧ (t.planList r').schedule = (s.planList r').schedule := by
  obtain ⟨a, ha⟩ := h
  by_cases e : r' = r
  · subst e; simp [planList, ha]
  · simp [planList, ha, Tab.get_set_ne _ _ e]

/-- The other lists stand. -/
theorem FallbackOnly.other (h : s.FallbackOnly t r) {r' : Ramp} (e : r' ≠ r) : t.planList r' = s.planList r' := by
  obtain ⟨a, ha⟩ := h; simp [planList, ha, Tab.get_set_ne _ _ e]

variable (s)

theorem fallbackOnly_removeFallback (r : Ramp) : s.FallbackOnly (s.removeFallback r) r := ⟨none, by simp [removeFallback]⟩

theorem fallbackOnly_placeFallback (r : Ramp) (n : PlanRef) : s.FallbackOnly (s.placeFallback r n) r :=
  ⟨some n, by simp [placeFallback]⟩

theorem fallbackOnly_fallbackTest (r : Ramp) : s.FallbackOnly (s.fallbackTest r) r := by
  unfold fallbackTest
  split
  · exact fallbackOnly_removeFallback s r
  · rename_i k _
    dsimp only
    refine FallbackOnly.trans (.of_lists (lists_useRecord s (.plan k))) ?_
    split
    · exact fallbackOnly_removeFallback _ r
    · exact fallbackOnly_placeFallback _ r _

theorem fallbackOnly_readTopPlan (r : Ramp) : s.FallbackOnly (s.readTopPlan r).1 r := by
  unfold readTopPlan
  split
  · rename_i k _
    dsimp only
    split
    · exact .of_lists (lists_useRecord s _)
    · refine FallbackOnly.trans (.of_lists (lists_useRecord s (.plan k))) ?_
      split
      · exact ⟨_, rfl⟩
      · exact fallbackOnly_fallbackTest _ r
  · exact .of_lists rfl

theorem fallbackOnly_reckonTiming (r : Ramp) (rate : Plan → Nat) : s.FallbackOnly (s.reckonTiming r rate).1 r :=
  (fallbackOnly_readTopPlan s r).lists_left (by simp [reckonTiming])

theorem fallbackOnly_enterMetering (r : Ramp) (b : Bool) : s.FallbackOnly (s.enterMetering r b) r := by
  refine FallbackOnly.lists_left ?_ (lists_enterMetering s r b)
  unfold startTiming; dsimp only
  refine FallbackOnly.lists_right (fallbackOnly_reckonTiming _ r _) ?_
  unfold prepareMetering; dsimp only; simp

theorem fallbackOnly_changeTiming (r : Ramp) : s.FallbackOnly (s.changeTiming r) r := by
  unfold changeTiming; dsimp only
  refine FallbackOnly.lists_left (fallbackOnly_reckonTiming s r fun p => (s.rate r).lastFinal.getD p.startRate) ?_
  rw [lists_reports, modSeq_lists]

/-- Following the demanded plan changes no list but for the FALLBACK entry of the ramp's own (R74, R80). -/
theorem fallbackOnly_handDemand (r : Ramp) : s.FallbackOnly (s.handDemand r) r := by
  unfold handDemand; dsimp only
  split
  · split
    · exact .of_lists (lists_enterWarning s r)
    · exact .of_lists rfl
  · exact .of_lists (by simp)
  · split
    · exact .of_lists rfl
    · exact .of_lists (lists_enterEnding s r)
  · generalize ({ s.seq r with stopping := false } : Sequencer) = q
    have h := (fallbackOnly_changeTiming (s.setSeq r q) r).lists_right (setSeq_lists s r q).symm
    exact h.lists_left (lists_judgeHeld _ r)
  · exact fallbackOnly_enterMetering s r true
  · exact .of_lists rfl

/-- A list changed to `l` holds `l`, but for a FALLBACK entry that the part places or removes, and every other list stands
(R73, R74). -/
theorem changeList_spec (r : Ramp) (l : PlanList) : (s.setList r l).FallbackOnly (s.changeList r l) r := by
  have h : (s.setList r l).FallbackOnly
      (if l.governing = (s.planList r).governing then s.setList r l else (s.setList r l).fallbackTest r) r := by
    split
    · exact .of_lists rfl
    · exact fallbackOnly_fallbackTest _ r
  unfold changeList; dsimp only
  generalize (if l.governing = (s.planList r).governing then s.setList r l else (s.setList r l).fallbackTest r) = t at h ⊢
  split
  · exact h
  · exact h.trans (fallbackOnly_handDemand _ r)

/-- The entries after a change of a list. -/
theorem changeList_entries (r : Ramp) (l : PlanList) :
    ((s.changeList r l).planList r).hold = l.hold ∧ ((s.changeList r l).planList r).command = l.command
      ∧ ((s.changeList r l).planList r).schedule = l.schedule
      ∧ ∀ r', r' ≠ r → (s.changeList r l).planList r' = s.planList r' := by
  have h := s.changeList_spec r l
  obtain ⟨a, b, c⟩ := h.entries r
  rw [planList_setList_self] at a b c
  exact ⟨a, b, c, fun r' e => (h.other e).trans (planList_setList_ne s e _)⟩

end Sys2Proof.Machine.State
end

