-- ==== Sys2Proof/Laws/PerInstr.lean ====
section
/-! SUPPORT. The family `Carried`, one lemma per constructor of `Instr`: a request row is well formed exactly when the request it
carries is, and a row that acts on a stopped part carries none (R185, R194). -/

namespace Sys2Proof.Laws.Carried

/-- The request a row carries is well formed exactly when the row is, and a row that acts on a stopped part carries none. -/
def Statement (i : Instr) : Prop :=
  (∀ p q, i.request = some (p, q) → q.wf = i.wf) ∧ (i.actsStopped = true → i.request = none)

/-- A row that carries no request. -/
theorem of_none {i : Instr} (h : i.request = none) : Statement i :=
  ⟨fun p q e => (by rw [h] at e; cases e), fun _ => h⟩

/-- A row that carries a request. -/
theorem of_some {i : Instr} {p : Port} {q : Req} (h : i.request = some (p, q)) (hw : q.wf = i.wf) (hs : i.actsStopped = false) :
    Statement i :=
  ⟨fun p' q' e => (by rw [h] at e; cases e; exact hw), fun g => by rw [hs] at g; cases g⟩

theorem sample (inp : Inputs) (first : List DueStep) : Statement (.sample inp first) := of_none rfl
theorem stuckOnEntry (l : LoopNo) : Statement (.stuckOnEntry l) := of_none rfl
theorem stuckOnClear (l : LoopNo) : Statement (.stuckOnClear l) := of_none rfl
theorem silenceEntry (l : LoopNo) : Statement (.silenceEntry l) := of_none rfl
theorem chatterSecondJudgement : Statement .chatterSecondJudgement := of_none rfl
theorem testPresenceEnd (l : LoopNo) : Statement (.testPresenceEnd l) := of_none rfl
theorem periodClose : Statement .periodClose := of_none rfl
theorem scrubRead : Statement .scrubRead := of_none rfl
theorem storageFault (id : RecId) : Statement (.storageFault id) := of_none rfl
theorem clockAdvance : Statement .clockAdvance := of_none rfl
theorem warningTimerExpiry (r : Ramp) : Statement (.warningTimerExpiry r) := of_none rfl
theorem clearanceTimerExpiry (r : Ramp) : Statement (.clearanceTimerExpiry r) := of_none rfl
theorem slotExpiry (r : Ramp) : Statement (.slotExpiry r) := of_none rfl
theorem greenEnd (r : Ramp) (ln : LaneNo) : Statement (.greenEnd r ln) := of_none rfl
theorem redMinimumReached (r : Ramp) (ln : LaneNo) : Statement (.redMinimumReached r ln) := of_none rfl
theorem signPhaseChange (r : Ramp) : Statement (.signPhaseChange r) := of_none rfl
theorem incidentQualifies (r : Ramp) (ln : LaneNo) (k : IncidentKind) : Statement (.incidentQualifies r ln k) := of_none rfl
theorem panelShortPress (r : Ramp) : Statement (.panelShortPress r) := of_none rfl
theorem panelLongHold (r : Ramp) : Statement (.panelLongHold r) := of_none rfl
theorem supplyFailAsserted : Statement .supplyFailAsserted := of_none rfl
theorem supplyRestart : Statement .supplyRestart := of_none rfl
theorem coldPower (inp : Inputs) (straps : Straps) (off : Nat) : Statement (.coldPower inp straps off) := of_none rfl
theorem resetLineAsserted : Statement .resetLineAsserted := of_none rfl
theorem coldLine (inp : Inputs) (straps : Straps) (off : Nat) : Statement (.coldLine inp straps off) := of_none rfl
theorem warmRestartTaken (inp : Inputs) : Statement (.warmRestartTaken inp) := of_none rfl
theorem portLapse (p : Port) : Statement (.portLapse p) := of_none rfl
theorem badLength (p : Port) : Statement (.badLength p) := of_none rfl
theorem interByteTimeout (p : Port) : Statement (.interByteTimeout p) := of_none rfl
theorem frameComplete (p : Port) : Statement (.frameComplete p) := of_none rfl
theorem answerSent (p : Port) : Statement (.answerSent p) := of_none rfl
theorem readRampStatus (p : Port) (index : Byte) : Statement (.readRampStatus p index) := of_some rfl rfl rfl
theorem readRampHistory (p : Port) (age ramp : Byte) : Statement (.readRampHistory p age ramp) := of_some rfl rfl rfl
theorem readCorridorStatus (p : Port) : Statement (.readCorridorStatus p) := of_some rfl rfl rfl
theorem readCorridorHistory (p : Port) (age : Byte) : Statement (.readCorridorHistory p age) := of_some rfl rfl rfl
theorem readLoop (p : Port) (index : Byte) : Statement (.readLoop p index) := of_some rfl rfl rfl
theorem readPlan (p : Port) (index : Byte) : Statement (.readPlan p index) := of_some rfl rfl rfl
theorem readSchedule (p : Port) (index : Byte) : Statement (.readSchedule p index) := of_some rfl rfl rfl
theorem readShift (p : Port) (index : Byte) : Statement (.readShift p index) := of_some rfl rfl rfl
theorem readSafety (p : Port) : Statement (.readSafety p) := of_some rfl rfl rfl
theorem readCorridorSettings (p : Port) : Statement (.readCorridorSettings p) := of_some rfl rfl rfl
theorem readClock (p : Port) : Statement (.readClock p) := of_some rfl rfl rfl
theorem readAuthority (p : Port) : Statement (.readAuthority p) := of_some rfl rfl rfl
theorem readIncident (p : Port) : Statement (.readIncident p) := of_some rfl rfl rfl
theorem readMemory (p : Port) : Statement (.readMemory p) := of_some rfl rfl rfl
theorem readPort (p : Port) (index : Byte) : Statement (.readPort p index) := of_some rfl rfl rfl
theorem readDevice (p : Port) : Statement (.readDevice p) := of_some rfl rfl rfl
theorem writeLoop (p : Port) (index : Byte) (w : WriteData) : Statement (.writeLoop p index w) := of_some rfl rfl rfl
theorem writePlan (p : Port) (index : Byte) (w : WriteData) : Statement (.writePlan p index w) := of_some rfl rfl rfl
theorem writeSchedule (p : Port) (index : Byte) (w : WriteData) : Statement (.writeSchedule p index w) := of_some rfl rfl rfl
theorem writeShift (p : Port) (index : Byte) (w : WriteData) : Statement (.writeShift p index w) := of_some rfl rfl rfl
theorem writeSafety (p : Port) (w : WriteData) : Statement (.writeSafety p w) := of_some rfl rfl rfl
theorem writeCorridorSettings (p : Port) (w : WriteData) : Statement (.writeCorridorSettings p w) := of_some rfl rfl rfl
theorem claim (p : Port) (index : Byte) : Statement (.claim p index) := of_some rfl rfl rfl
theorem yieldRecord (p : Port) (index : Byte) : Statement (.yieldRecord p index) := of_some rfl rfl rfl
theorem select (p : Port) (index plan : Byte) : Statement (.select p index plan) := of_some rfl rfl rfl
theorem withdraw (p : Port) (index : Byte) : Statement (.withdraw p index) := of_some rfl rfl rfl
theorem clearHold (p : Port) (index : Byte) : Statement (.clearHold p index) := of_some rfl rfl rfl
theorem restartRamp (p : Port) (index : Byte) : Statement (.restartRamp p index) := of_some rfl rfl rfl
theorem clearIncident (p : Port) : Statement (.clearIncident p) := of_some rfl rfl rfl
theorem testIncident (p : Port) (index lane rank : Byte) : Statement (.testIncident p index lane rank) := of_some rfl rfl rfl
theorem setClock (p : Port) (year month day hour minute second : Byte) : Statement (.setClock p year month day hour minute second) := of_some rfl rfl rfl
theorem lockSafety (p : Port) : Statement (.lockSafety p) := of_some rfl rfl rfl
theorem testPresence (p : Port) (index duration : Byte) : Statement (.testPresence p index duration) := of_some rfl rfl rfl
theorem insertError (p : Port) (obj : ObjectKind) (index errors : Byte) : Statement (.insertError p obj index errors) := of_some rfl rfl rfl
theorem watch (p : Port) (classes : BitVec 16) : Statement (.watch p classes) := of_some rfl rfl rfl
theorem takeEvents (p : Port) : Statement (.takeEvents p) := of_some rfl rfl rfl
theorem warmRestart (p : Port) : Statement (.warmRestart p) := of_some rfl rfl rfl
theorem byteReceived (p : Port) (b : Byte) : Statement (.byteReceived p b) := of_none rfl
theorem mainSupplyLost : Statement .mainSupplyLost := of_none rfl
theorem batterySupplyLow : Statement .batterySupplyLow := of_none rfl

end Sys2Proof.Laws.Carried
end

