-- ==== Sys2Proof/Laws/Sequences.lean ====
section
/-! SUPPORT. What each course of a sequencer leaves in it, where the corridor settings name the Lane Count in force: the entries into
WARNING, METERING and ENDING, the change timing, and the slots (R105 to R110, R116 to R119). -/

namespace Sys2Proof.Machine.State

variable (s : State)

/-- The lanes at one state, as a table by lane number. -/
theorem lanesAt_ofFn (q : Sequencer) (st : LaneState) :
    q.lanesAt st = Tab.ofFn fun ln => if q.inForce ln then st else .dark := by
  apply Tab.ext_get
  intro ln
  match ln with
  | 0 => simp
  | 1 => simp

/-- A read of the corridor settings leaves the settings in use as they are (R159, R164). -/
theorem corridorInUse_takeCorridor : s.takeCorridor.corridorInUse = s.corridorInUse := by
  unfold takeCorridor
  rw [(calm_useRecord _ _).corridorInUse, corridorInUse_of_memory (handCorridor_spec s _ _).2.2.1]

theorem corridorInUse_raise (c : EventClass) : (s.raise c).corridorInUse = s.corridorInUse := by
  rw [raise_ports_only]; rfl

theorem corridorInUse_of_calm {t u : State} (h : t.Calm u) : u.corridorInUse = t.corridorInUse := h.corridorInUse

theorem rates_handLane (r : Ramp) (ln : LaneNo) (st : LaneState) : (s.handLane r ln st).rates = s.rates := by
  unfold handLane; dsimp only; split <;> rfl

theorem rates_handLanes (r : Ramp) (st : LaneState) : (s.handLanes r st).rates = s.rates :=
  each_proj rates _ _ s fun ln t => rates_handLane t r ln _

/-- Entry into WARNING (R105). -/
theorem seq_enterWarning (r : Ramp) (hn : s.corridorInUse.laneCount.get r = (s.seq r).laneCount) (h0 : (s.seq r).laneCount ≠ 0) :
    (s.enterWarning r).seq r
      = { s.seq r with
          state := .warning, sign := .flashing true 0, warningTimer := some (s.corridorInUse.warnTime * Config.samplesPerSecond)
          lanes := Tab.ofFn fun ln => if (s.seq r).inForce ln then .restGreen else .dark
          pendingCount := none } := by
  have hs : (s.takeCorridor.warningEntry r).seq r
      = { s.seq r with lanes := (s.seq r).lanesAt .restGreen, sign := .flashing true 0,
                       warningTimer := some (s.corridorInUse.warnTime * Config.samplesPerSecond), state := .warning } := by
    have e : s.takeCorridor.seq r = s.seq r := by unfold seq; rw [sequencers_takeCorridor]
    rw [seq_of_sequencers _ (sequencers_warningEntry s.takeCorridor r), e, corridorInUse_takeCorridor]
  unfold enterWarning
  rw [seq_reports_same _ r (by rw [(calm_warningEntry _ r).corridorInUse, corridorInUse_takeCorridor, hs]; exact hn)
    (by rw [hs]; simp) (by rw [hs]; exact h0), hs, lanesAt_ofFn]

/-- Entry into ENDING (R110). -/
theorem seq_enterEnding (r : Ramp) (hn : s.corridorInUse.laneCount.get r = (s.seq r).laneCount) (h0 : (s.seq r).laneCount ≠ 0) :
    (s.enterEnding r).seq r
      = { (s.seq r).discard with
          state := .ending, clearanceTimer := some (s.corridorInUse.clearanceTime * Config.samplesPerSecond)
          lanes := Tab.ofFn fun ln => if (s.seq r).inForce ln then .restGreen else .dark
          pendingCount := none } := by
  have hs : (s.takeCorridor.endingEntry r).seq r
      = { (s.seq r).discard with lanes := (s.seq r).lanesAt .restGreen
                                 clearanceTimer := some (s.corridorInUse.clearanceTime * Config.samplesPerSecond)
                                 state := .ending } := by
    have e : s.takeCorridor.seq r = s.seq r := by unfold seq; rw [sequencers_takeCorridor]
    rw [seq_of_sequencers _ (sequencers_endingEntry s.takeCorridor r), e, corridorInUse_takeCorridor]
  unfold enterEnding
  rw [seq_reports_same _ r (by rw [(calm_endingEntry _ r).corridorInUse, corridorInUse_takeCorridor, hs]; exact hn)
    (by rw [hs]; simp) (by rw [hs]; exact h0), hs, lanesAt_ofFn]

/-- The demanded plan is `x`: the readable plan of its slot, or plan 0. -/
def demands (r : Ramp) (x : Plan) : Prop :=
  (∃ k, (s.planList r).demanded = some (.slot k) ∧ s.readablePlan k = some x)
    ∨ (s.planList r).demanded = some .builtin ∧ x = planZero s.safetyInUse

variable {s}

/-- A demanded plan that is present and readable is what a timing is reckoned from, and no list changes (R60, R80). -/
theorem readTopPlan_demands {r : Ramp} {x : Plan} (h : s.demands r x) :
    (s.readTopPlan r).2.getD (planZero s.safetyInUse) = x ∧ (s.readTopPlan r).1.lists = s.lists := by
  unfold readTopPlan
  rcases h with ⟨k, hk, hx⟩ | ⟨hk, hx⟩
  · rw [hk]; dsimp only
    rw [(calm_useRecord s (.plan k)).readablePlan, hx]
    exact ⟨rfl, lists_useRecord s _⟩
  · rw [hk]; exact ⟨hx.symm, rfl⟩

/-- A timing reckoned from a readable plan (R60, R80). -/
theorem reckonTiming_spec {r : Ramp} {x : Plan} (h : s.demands r x) (rate : Plan → Nat) :
    ∃ lim, lim = limitsOf s.safetyInUse x (s.seq r).laneCount
      ∧ (s.reckonTiming r rate).2 = timingOf lim (clampNat lim.low lim.high (rate x))
      ∧ (s.reckonTiming r rate).1.seq r = { s.seq r with redMinimum := some s.safetyInUse.redMinimum }
      ∧ (s.reckonTiming r rate).1.lists = s.lists
      ∧ (s.reckonTiming r rate).1.corridorInUse = s.corridorInUse := by
  obtain ⟨h1, h2⟩ := readTopPlan_demands h
  have c1 := calm_readTopPlan s r
  have c2 := c1.trans (calm_useRecord (s.readTopPlan r).1 .safety)
  have hsafe := c2.safetyInUse
  have hseq : ((s.readTopPlan r).1.useRecord .safety).seq r = s.seq r := by unfold seq; simp
  have hcor := c2.corridorInUse
  have hl : ((s.readTopPlan r).1.useRecord .safety).lists = s.lists := by rw [lists_useRecord, h2]
  refine ⟨_, rfl, ?_⟩
  unfold reckonTiming; dsimp only
  generalize (s.readTopPlan r).1.useRecord .safety = v at *
  rw [hsafe, h1]
  have hq : (v.takeRedMinimum r s.safetyInUse.redMinimum).takeCorridor.seq r
      = { s.seq r with redMinimum := some s.safetyInUse.redMinimum } := by
    have : (v.takeRedMinimum r s.safetyInUse.redMinimum).takeCorridor.seq r
        = (v.takeRedMinimum r s.safetyInUse.redMinimum).seq r := by unfold seq; rw [sequencers_takeCorridor]
    rw [this]; unfold takeRedMinimum; rw [seq_modSeq_self, hseq]
  rw [hq]
  refine ⟨rfl, rfl, by rw [lists_takeCorridor, lists_takeRedMinimum, hl], ?_⟩
  rw [corridorInUse_takeCorridor]
  exact (calm_modSeq v r _).corridorInUse.trans hcor

/-- Entry into METERING (R107, R60). -/
theorem enterMetering_spec {r : Ramp} {x : Plan} (returning : Bool) (h : s.demands r x)
    (hn : s.corridorInUse.laneCount.get r = (s.seq r).laneCount) (h0 : (s.seq r).laneCount ≠ 0) :
    ∃ lim tm, lim = limitsOf s.safetyInUse x (s.seq r).laneCount
      ∧ tm = timingOf lim (clampNat lim.low lim.high ((if returning then (s.rate r).lastFinal else none).getD x.startRate))
      ∧ (s.enterMetering r returning).seq r = { s.seq r with
            state := .metering, stopping := false, lanes := Tab.ofFn (fun ln => if (s.seq r).inForce ln then .red 0 else .dark)
            slotTimer := some (tm.slotInterval * Config.samplesPerDs), heldSlot := false, lastLane := none, timing := some tm
            pendingTiming := none, lastVehicles := tm.vehiclesPerGreen, redMinimum := some s.safetyInUse.redMinimum
            pendingCount := none, warningTimer := none, clearanceTimer := none
            sign := if returning then .flashing true 0 else (s.seq r).sign }
      ∧ (s.enterMetering r returning).lists = s.lists := by
  obtain ⟨u, hu⟩ : ∃ u, u = s.prepareMetering r returning := ⟨_, rfl⟩
  have hcalm : s.Calm u := by
    rw [hu]; unfold prepareMetering; dsimp only
    exact ((calm_handLanes s r _).trans (calm_modSeq _ r _)).trans (calm_setMeas _ r _)
  have hul : u.lists = s.lists := by rw [hu]; unfold prepareMetering; dsimp only; simp
  have hq : u.seq r = ({ s.seq r with lanes := (s.seq r).lanesAt (.red 0) } : Sequencer).meteringStart returning := by
    rw [hu]; exact seq_of_sequencers _ (sequencers_prepareMetering s r returning)
  have hur : u.rate r = s.rate r := by
    rw [hu]; unfold prepareMetering rate; dsimp only
    rw [setMeas_rates, modSeq_rates, rates_handLanes]
  have hd : u.demands r x := by
    unfold demands planList at h ⊢
    rw [hul, hcalm.safetyInUse]
    rcases h with ⟨k, hk, hx⟩ | h
    · exact Or.inl ⟨k, hk, by rw [hcalm.readablePlan]; exact hx⟩
    · exact Or.inr h
  obtain ⟨lim, hlim, ht, hqs, hls, hcs⟩ := reckonTiming_spec hd
    (fun p => (if returning then (u.rate r).lastFinal else none).getD p.startRate)
  rw [hcalm.safetyInUse] at hlim hqs
  have hlc : (u.seq r).laneCount = (s.seq r).laneCount := by rw [hq]; rfl
  rw [hlc] at hlim
  rw [hur] at ht
  refine ⟨lim, _, hlim, rfl, ?_⟩
  have unfolded : s.enterMetering r returning
      = ((((u.reckonTiming r fun p => (if returning then (u.rate r).lastFinal else none).getD p.startRate).1.modSeq r
          (Sequencer.startSlots (u.reckonTiming r fun p =>
            (if returning then (u.rate r).lastFinal else none).getD p.startRate).2)).setRampState r .metering).reports) := by
    rw [hu]; rfl
  rw [unfolded, hur]
  rw [hur] at hqs hls hcs
  generalize u.reckonTiming r (fun p => (if returning = true then (s.rate r).lastFinal else none).getD p.startRate) = y at ht hqs hls hcs ⊢
  obtain ⟨w, tm⟩ := y
  dsimp only at ht hqs hls hcs ⊢
  subst ht
  obtain ⟨v, hv⟩ : ∃ v, v = (w.modSeq r (Sequencer.startSlots (timingOf lim (clampNat lim.low lim.high
      ((if returning = true then (s.rate r).lastFinal else none).getD x.startRate))))).setRampState r .metering := ⟨_, rfl⟩
  rw [← hv]
  have hvs : v.seq r = { (Sequencer.startSlots (timingOf lim (clampNat lim.low lim.high
      ((if returning = true then (s.rate r).lastFinal else none).getD x.startRate))) (w.seq r)) with state := .metering } := by
    rw [hv, seq_of_sequencers _ (sequencers_setRampState _ r .metering), seq_modSeq_self]
  have hvl : v.lists = s.lists := by rw [hv, lists_setRampState, modSeq_lists, hls, hul]
  have hvc : v.corridorInUse = s.corridorInUse := by
    rw [hv, (calm_setRampState _ r _).corridorInUse, (calm_modSeq w r _).corridorInUse, hcs, hcalm.corridorInUse]
  have hvn : (v.seq r).laneCount = (s.seq r).laneCount := by rw [hvs, hqs, hq]; rfl
  refine ⟨?_, by rw [lists_reports, hvl]⟩
  rw [seq_reports_same v r (by rw [hvc, hvn]; exact hn) (by rw [hvs]; simp) (by rw [hvn]; exact h0), hvs, hqs, hq, ← lanesAt_ofFn]
  rfl

/-- The change timing (R80). -/
theorem changeTiming_spec {r : Ramp} {x : Plan} (h : s.demands r x)
    (hn : s.corridorInUse.laneCount.get r = (s.seq r).laneCount) (h0 : (s.seq r).laneCount ≠ 0)
    (hc : (s.seq r).state ≠ .unconfigured) :
    ∃ lim tm, lim = limitsOf s.safetyInUse x (s.seq r).laneCount
      ∧ tm = timingOf lim (clampNat lim.low lim.high ((s.rate r).lastFinal.getD x.startRate))
      ∧ (s.changeTiming r).seq r
          = { s.seq r with redMinimum := some s.safetyInUse.redMinimum, pendingTiming := some tm, pendingCount := none }
      ∧ (s.changeTiming r).lists = s.lists := by
  obtain ⟨lim, hlim, ht, hqs, hls, hcs⟩ := reckonTiming_spec h (fun p => (s.rate r).lastFinal.getD p.startRate)
  refine ⟨lim, _, hlim, rfl, ?_⟩
  unfold changeTiming; dsimp only
  generalize s.reckonTiming r (fun p => (s.rate r).lastFinal.getD p.startRate) = y at ht hqs hls hcs ⊢
  obtain ⟨w, tm⟩ := y
  dsimp only at ht hqs hls hcs ⊢
  subst ht
  refine ⟨?_, by rw [lists_reports, modSeq_lists, hls]⟩
  rw [seq_reports_same]
  · rw [seq_modSeq_self, hqs]
  · rw [seq_modSeq_self, (calm_modSeq w r _).corridorInUse, hqs, hcs]; exact hn
  · rw [seq_modSeq_self, hqs]; exact hc
  · rw [seq_modSeq_self, hqs]; exact h0

/-! ### Slots -/

/-- A slot given, in its sequencer (R118). -/
theorem seq_giveSlot {r : Ramp} {ln : LaneNo} {tm : Timing}
    (h : (s.seq r).pendingTiming = some tm ∨ (s.seq r).pendingTiming = none ∧ (s.seq r).timing = some tm) :
    (s.giveSlot r ln).seq r = Sequencer.slotGiven tm ln
      { s.seq r with lanes := (s.seq r).lanes.set ln (.green (tm.greenTime * Config.samplesPerDs)) } := by
  have e : ((s.seq r).pendingTiming.orElse fun _ => (s.seq r).timing) = some tm := by
    rcases h with h | ⟨h, g⟩
    · rw [h]; rfl
    · rw [h, g]; rfl
  unfold giveSlot; dsimp only
  rw [e]; dsimp only
  rw [seq_modSeq_self, seq_of_sequencers _ (sequencers_handLane s r ln _)]

end Sys2Proof.Machine.State

namespace Sys2Proof.Machine.Sequencer

/-- An eligible lane, as R117 lists its conditions. -/
theorem eligible_iff (q : Sequencer) (ln : LaneNo) : q.eligible ln = true ↔
    ln.val < q.laneCount
    ∧ (∃ e m, q.lanes.get ln = .red e ∧ q.redMinimum = some m ∧ 10 * m ≤ e)
    ∧ (q.checkIn.get ln = some .present ∨ q.checkIn.get ln = some .unsupervised)
    ∧ (∀ ln', (q.lanes.get ln').isGreen = false) ∧ q.stopping = false := by
  have h1 : q.redServed ln = true ↔ ∃ e m, q.lanes.get ln = .red e ∧ q.redMinimum = some m ∧ 10 * m ≤ e := by
    unfold redServed
    cases q.lanes.get ln <;> cases q.redMinimum <;> simp [Config.samplesPerDs, Nat.mul_comm]
  have h2 : q.hasDemand ln = true ↔ (q.checkIn.get ln = some .present ∨ q.checkIn.get ln = some .unsupervised) := by
    unfold hasDemand
    cases q.checkIn.get ln with
    | none => simp
    | some c => cases c <;> simp
  have h3 : q.anyGreen = false ↔ ∀ ln', (q.lanes.get ln').isGreen = false := by
    unfold anyGreen laneNos
    simp only [List.any_cons, List.any_nil, Bool.or_false, Bool.or_eq_false_iff]
    exact ⟨fun h ln' => match ln' with | 0 => h.1 | 1 => h.2, fun h => ⟨h 0, h 1⟩⟩
  unfold eligible inForce
  simp only [Bool.and_eq_true, Bool.not_eq_true', decide_eq_true_eq, h1, h2, h3, and_assoc]

/-- The next lane is the eligible one that no other eligible lane precedes in the rotation (R117). -/
theorem nextLane_eq (q : Sequencer) (ln : LaneNo) (h : q.eligible ln = true)
    (first : ∀ other, other ≠ ln → q.eligible other = true → match q.lastLane with
      | some last => last = other
      | none => ln < other) : q.nextLane = some ln := by
  have f0 := first 0
  have f1 := first 1
  unfold nextLane rotation
  match ln with
  | 0 =>
    cases hl : q.lastLane with
    | none => simp [List.find?, h]
    | some l =>
      match l with
      | 0 =>
        have : q.eligible 1 = false := by
          by_contra hh
          have := f1 (by decide) (by simpa using hh)
          rw [hl] at this; exact absurd this (by decide)
        simp [List.find?, h, this]
      | 1 => simp [h]
  | 1 =>
    cases hl : q.lastLane with
    | none =>
      have : q.eligible 0 = false := by
        by_contra hh
        have := f0 (by decide) (by simpa using hh)
        rw [hl] at this; exact absurd this (by decide)
      simp [List.find?, h, this]
    | some l =>
      match l with
      | 0 => simp [h]
      | 1 =>
        have : q.eligible 0 = false := by
          by_contra hh
          have := f0 (by decide) (by simpa using hh)
          rw [hl] at this; exact absurd this (by decide)
        simp [List.find?, h, this]

theorem nextLane_none (q : Sequencer) (h : ∀ ln, q.eligible ln = false) : q.nextLane = none := by
  unfold nextLane
  rw [List.find?_eq_none]
  intro ln _
  simp [h ln]

end Sys2Proof.Machine.Sequencer

namespace Sys2Proof.Machine.State

variable {s : State}

/-- A slot offered with an eligible lane (R116, R117). -/
theorem seq_offerSlot {r : Ramp} {ln : LaneNo} {tm : Timing} (h : (s.seq r).eligible ln = true)
    (first : ∀ other, other ≠ ln → (s.seq r).eligible other = true → match (s.seq r).lastLane with
      | some last => last = other
      | none => ln < other)
    (ht : (s.seq r).pendingTiming = some tm ∨ (s.seq r).pendingTiming = none ∧ (s.seq r).timing = some tm) :
    (s.offerSlot r).seq r = Sequencer.slotGiven tm ln
      { s.seq r with lanes := (s.seq r).lanes.set ln (.green (tm.greenTime * Config.samplesPerDs)) } := by
  unfold offerSlot
  rw [Sequencer.nextLane_eq _ ln h first]
  exact seq_giveSlot ht

/-- A slot offered with no eligible lane is held (R116). -/
theorem offerSlot_held {r : Ramp} (h : ∀ ln, (s.seq r).eligible ln = false) :
    s.offerSlot r = s.modSeq r fun q => { q with heldSlot := true } := by
  unfold offerSlot
  rw [Sequencer.nextLane_none _ h]

end Sys2Proof.Machine.State
end

