-- ==== Sys2Proof/Laws/Turns.lean ====
section
/-! SUPPORT. What a change of ramp state does besides the sequencer: the runs of its lanes, its was-metering flag, and RAMP_STATE; and
that the Lane Count reports which follow it leave these as they are where the settings agree (R104, R122, R123, R128). -/

namespace Sys2Proof.Machine

theorem runsCleared_eq (m : LaneMonitor) : m.runsCleared = m.restarted := rfl

namespace State

variable (s : State)

/-! ### The runs of the lanes -/

theorem lane_cases (ln : LaneNo) : ln = 0 ∨ ln = 1 := by revert ln; decide

theorem commanded_of_seq {s t : State} {r : Ramp} (h : (t.seq r).lanes = (s.seq r).lanes) (ln : LaneNo) :
    t.commanded r ln = s.commanded r ln := by simp [commanded, h]

/-- A lane state handed over restarts the runs of its own lane where the commanded aspect changes, and no other's (R128). -/
theorem lamp_handLane (r : Ramp) (ln ln' : LaneNo) (st : LaneState) :
    (s.handLane r ln st).lamp r ln' = if ln' = ln ∧ st.aspect ≠ s.commanded r ln then (s.lamp r ln').restarted else s.lamp r ln' := by
  unfold handLane; dsimp only
  by_cases h : ((s.seq r).lanes.get ln).aspect = st.aspect
  · rw [if_pos h, if_neg (by rintro ⟨_, g⟩; exact g h.symm)]; rfl
  · rw [if_neg h]
    by_cases e : ln' = ln
    · subst e
      rw [if_pos ⟨rfl, fun g => h g.symm⟩, lamp_setLamp_self]; rfl
    · rw [if_neg (by rintro ⟨g, _⟩; exact e g), lamp_setLamp_ne _ (Or.inr e)]; rfl

theorem lampsFollow_refl {s t : State} {r : Ramp} (hl : t.lamps.get r = s.lamps.get r) (hs : (t.seq r).lanes = (s.seq r).lanes) :
    s.lampsFollow r [] t := by
  intro ln
  rw [if_neg (by rw [commanded_of_seq hs]; simp)]
  unfold lamp; rw [hl]

/-- What follows without touching the lamps and the lanes of the ramp leaves the runs as they followed. -/
theorem lampsFollow_after {s t u : State} {r : Ramp} {also : List LaneNo} (h : s.lampsFollow r also t)
    (hl : u.lamps.get r = t.lamps.get r) (hs : (u.seq r).lanes = (t.seq r).lanes) : s.lampsFollow r also u := by
  intro ln
  have e : u.lamp r ln = t.lamp r ln := by unfold lamp; rw [hl]
  rw [e, commanded_of_seq hs, h ln]

/-- The runs follow the lanes handed over: every lane of the Lane Count In Force at one state, the others DARK (R102, R128). -/
theorem lampsFollow_handLanes (r : Ramp) (st : LaneState) : s.lampsFollow r [] (s.handLanes r st) := by
  intro ln
  have hc : (s.handLanes r st).commanded r ln = (if (s.seq r).inForce ln then st else .dark).aspect := by
    have := seq_of_sequencers s (sequencers_handLanes s r st)
    unfold commanded; rw [this]
    rcases lane_cases ln with rfl | rfl <;> simp
  rw [hc]
  have hf (ln' : LaneNo) (t : LaneState) (k : LaneNo) : ((s.handLane r ln' t).seq r).inForce k = (s.seq r).inForce k := by
    rw [seq_of_sequencers s (sequencers_handLane s r ln' t)]; rfl
  have h1 (t : LaneState) : (s.handLane r 0 t).commanded r 1 = s.commanded r 1 := by
    unfold commanded; rw [seq_of_sequencers s (sequencers_handLane s r 0 t)]
    rw [Tab.get_set_ne _ _ (by decide)]
  have hd : s.handLanes r st
      = (s.handLane r 0 (if (s.seq r).inForce 0 then st else .dark)).handLane r 1 (if (s.seq r).inForce 1 then st else .dark) := by
    unfold handLanes each laneNos
    simp only [List.foldl_cons, List.foldl_nil, hf]
  rw [hd, lamp_handLane, lamp_handLane, h1]
  rcases lane_cases ln with rfl | rfl <;> simp

theorem lampsFollow_darkLanes (r : Ramp) : s.lampsFollow r [] (s.darkLanes r) := by
  intro ln
  have hc : (s.darkLanes r).commanded r ln = .none := by
    unfold commanded; rw [seq_of_sequencers s (sequencers_darkLanes s r)]
    rcases lane_cases ln with rfl | rfl <;> rfl
  rw [hc]
  have h1 : (s.handLane r 0 .dark).commanded r 1 = s.commanded r 1 := by
    unfold commanded; rw [seq_of_sequencers s (sequencers_handLane s r 0 .dark)]
    rw [Tab.get_set_ne _ _ (by decide)]
  have hd : s.darkLanes r = (s.handLane r 0 .dark).handLane r 1 .dark := rfl
  rw [hd, lamp_handLane, lamp_handLane, h1]
  rcases lane_cases ln with rfl | rfl <;> simp [LaneState.aspect]

/-! ### The was-metering flag and the lamps of a ramp -/

/-- What a change of ramp state writes for its own ramp beside the sequencer. -/
def rampOwn (s : State) (r : Ramp) : Bool × Tab 2 LaneMonitor := (s.retained.wasMetering.get r, s.lamps.get r)

@[simp] theorem rampOwn_modSeq (r r' : Ramp) (f : Sequencer → Sequencer) : (s.modSeq r f).rampOwn r' = s.rampOwn r' := rfl
@[simp] theorem rampOwn_setSeq (r r' : Ramp) (q : Sequencer) : (s.setSeq r q).rampOwn r' = s.rampOwn r' := rfl
@[simp] theorem rampOwn_setRate (r r' : Ramp) (x : RampRate) : (s.setRate r x).rampOwn r' = s.rampOwn r' := rfl

theorem rampOwn_raise (c : EventClass) (r : Ramp) : (s.raise c).rampOwn r = s.rampOwn r := by
  unfold rampOwn; rw [retained_raise, lamps_raise]

theorem rampOwn_setRampState {r r' : Ramp} {st : RampState} (h : r' ≠ r) : (s.setRampState r st).rampOwn r' = s.rampOwn r' := by
  unfold setRampState; dsimp only
  rw [rampOwn_raise]
  split <;> split <;> simp [rampOwn, each, laneNos, setWasMetering, setLamp, Tab.get_set_ne _ _ h]

theorem rampOwn_handLane {r r' : Ramp} (h : r' ≠ r) (ln : LaneNo) (st : LaneState) :
    (s.handLane r ln st).rampOwn r' = s.rampOwn r' := by
  unfold handLane; dsimp only
  split <;> simp [rampOwn, setLamp, Tab.get_set_ne _ _ h]

theorem rampOwn_handLanes {r r' : Ramp} (h : r' ≠ r) (st : LaneState) : (s.handLanes r st).rampOwn r' = s.rampOwn r' :=
  each_proj (fun t => t.rampOwn r') _ _ s fun ln t => rampOwn_handLane t h ln _

theorem rampOwn_goDark {r r' : Ramp} (h : r' ≠ r) (st : RampState) : (s.goDark r st).rampOwn r' = s.rampOwn r' := by
  unfold goDark
  rw [rampOwn_setRampState _ h, rampOwn_modSeq]
  exact each_proj (fun t => t.rampOwn r') laneNos _ s fun ln t => rampOwn_handLane t h ln _

theorem rampOwn_warningEntry {r r' : Ramp} (h : r' ≠ r) : (s.warningEntry r).rampOwn r' = s.rampOwn r' := by
  unfold warningEntry; dsimp only
  rw [rampOwn_setRampState _ h, rampOwn_setRate, rampOwn_modSeq]
  exact rampOwn_handLanes s h _

theorem rampOwn_endingEntry {r r' : Ramp} (h : r' ≠ r) : (s.endingEntry r).rampOwn r' = s.rampOwn r' := by
  unfold endingEntry; dsimp only
  rw [rampOwn_setRampState _ h, rampOwn_modSeq]
  exact rampOwn_handLanes s h _

theorem rampOwn_offSettled {r r' : Ramp} (h : r' ≠ r) : (s.offSettled r).rampOwn r' = s.rampOwn r' := by
  unfold offSettled; dsimp only
  split <;> split
  · rw [rampOwn_setRampState _ h]; rfl
  · rfl
  · rw [rampOwn_setRampState _ h]
  · rfl

theorem rampOwn_offFollowed {r r' : Ramp} (h : r' ≠ r) : (s.offFollowed r).rampOwn r' = s.rampOwn r' := by
  unfold offFollowed; split
  · exact rampOwn_warningEntry s h
  · rfl

/-- A Lane Count report writes no other ramp's flag and lamps (R104). -/
theorem rampOwn_report_ne {r r' : Ramp} (h : r' ≠ r) : (s.report r).rampOwn r' = s.rampOwn r' := by
  unfold report; dsimp only
  split
  · split
    · rw [rampOwn_setRampState _ h]; rfl
    · rfl
  · rfl
  · split
    · rfl
    · rw [rampOwn_offFollowed _ h, rampOwn_setRampState _ h]; rfl
  · split
    · rfl
    · rw [rampOwn_offFollowed _ h, rampOwn_offSettled _ h, rampOwn_goDark _ h]; rfl
  · split
    · rfl
    · split
      · rfl
      · rw [rampOwn_endingEntry _ h]; rfl
  · rfl

/-- A report of the Lane Count In Force writes its own ramp's flag and lamps neither (R104). -/
theorem rampOwn_report_same (r : Ramp) (hn : s.corridorInUse.laneCount.get r = (s.seq r).laneCount)
    (hc : (s.seq r).state ≠ .unconfigured) (h0 : (s.seq r).laneCount ≠ 0) : (s.report r).rampOwn r = s.rampOwn r := by
  unfold report; dsimp only
  split <;> rename_i hs
  · rw [if_neg (by rw [hn]; exact h0)]; rfl
  · rfl
  · exact absurd hs hc
  · rw [if_pos hn]; rfl
  · rw [if_pos hn]; rfl
  · rfl

theorem rampOwn_reports_same (r : Ramp) (hn : s.corridorInUse.laneCount.get r = (s.seq r).laneCount)
    (hc : (s.seq r).state ≠ .unconfigured) (h0 : (s.seq r).laneCount ≠ 0) : s.reports.rampOwn r = s.rampOwn r := by
  obtain ⟨u, h1, h2, h3⟩ := each_turn (fun t r => (t.seq r, t.rampOwn r)) State.memory report ramps ramps_nodup
    (fun i t => congrArg (·.2.2) (fixtures_report t i))
    (fun i j t h => by rw [seq_report_ne t h, rampOwn_report_ne t h]) s r (mem_ramps r)
  obtain ⟨h2s, h2o⟩ := Prod.mk.inj h2
  obtain ⟨_, h3o⟩ := Prod.mk.inj h3
  exact h3o.trans ((rampOwn_report_same u r (by rw [corridorInUse_of_memory h1, h2s]; exact hn) (by rw [h2s]; exact hc)
    (by rw [h2s]; exact h0)).trans h2o)

/-! ### RAMP_STATE -/

/-- RAMP_STATE may have been raised by routes that stand: what was pending stays, and what joined was delivered (R123, R189). -/
structure MayRaise (s t : State) : Prop where
  routes : ∀ p, t.delivers .rampState p = s.delivers .rampState p
  stays : ∀ p, classIn .rampState (s.port p).pending = true → classIn .rampState (t.port p).pending = true
  joins : ∀ p, classIn .rampState (t.port p).pending = true →
    classIn .rampState (s.port p).pending = true ∨ s.delivers .rampState p = true

theorem MayRaise.of_ports {s t : State} (hr : t.router = s.router) (hp : t.ports = s.ports) : s.MayRaise t := by
  have port : ∀ p, t.port p = s.port p := fun p => by simp [State.port, hp]
  refine ⟨fun p => ?_, fun p h => by rw [port]; exact h, fun p h => by rw [port] at h; exact Or.inl h⟩
  unfold delivers; rw [hr, port]

theorem MayRaise.trans {s t u : State} (h : s.MayRaise t) (g : t.MayRaise u) : s.MayRaise u :=
  ⟨fun p => (g.routes p).trans (h.routes p), fun p k => g.stays p (h.stays p k), fun p k =>
    (g.joins p k).elim (h.joins p) fun e => Or.inr ((h.routes p).symm.trans e)⟩

theorem MayRaise.raise (s : State) : s.MayRaise (s.raise .rampState) := by
  refine ⟨fun p => delivers_raise s _ _ p, fun p h => ?_, fun p h => ?_⟩
  · rw [pending_raise, h]; rfl
  · rw [pending_raise] at h
    simpa using h

/-- A raise of RAMP_STATE among what may raise it too, by routes that stand, leaves it pending as that raise does. -/
theorem MayRaise.around {s t u v : State} (h : s.MayRaise t) (hr : raisedBy .rampState [t] t u) (m : t.MayRaise u) (g : u.MayRaise v) :
    raisedBy .rampState [s] s v ∧ raisedBy .rampState [v] s v := by
  have e : ∀ p, v.delivers .rampState p = s.delivers .rampState p := (h.trans (m.trans g)).routes
  have all : raisedBy .rampState [s] s v := fun p => by
    have k := hr p
    simp only [List.mem_singleton, exists_eq_left] at k ⊢
    refine ⟨(h.trans (m.trans g)).joins p, ?_⟩
    rintro (i | i)
    · exact (h.trans (m.trans g)).stays p i
    · exact g.stays p (k.mpr (Or.inr ((h.routes p).trans i)))
  refine ⟨all, fun p => ?_⟩
  have k := all p
  simp only [List.mem_singleton, exists_eq_left] at k ⊢
  rw [e]; exact k

@[simp] theorem delivers_modSeq (r : Ramp) (f : Sequencer → Sequencer) (c : EventClass) (p : Port) :
    (s.modSeq r f).delivers c p = s.delivers c p := rfl
@[simp] theorem delivers_setWasMetering (r : Ramp) (b : Bool) (c : EventClass) (p : Port) :
    (s.setWasMetering r b).delivers c p = s.delivers c p := rfl

/-- A change of ramp state to any but UNCONFIGURED: the flag, RAMP_STATE, and the lamps left as they are (R122, R123). -/
theorem setRampState_turns (r : Ramp) {st : RampState} (h : st ≠ .unconfigured) :
    s.rampTurns r (st = .warning || st = .metering) [s] (s.setRampState r st) ∧ (s.setRampState r st).lamps = s.lamps := by
  unfold setRampState; dsimp only
  rw [if_neg h]
  refine ⟨⟨?_, fun p => ?_⟩, ?_⟩
  · rw [retained_raise, seq_modSeq_self]
    split <;> simp [setWasMetering]
  · rw [pending_raise]
    split <;> simp
  · rw [lamps_raise]; split <;> rfl

theorem mayRaise_setRampState (r : Ramp) (st : RampState) : s.MayRaise (s.setRampState r st) := by
  unfold setRampState; dsimp only
  refine MayRaise.trans (.of_ports ?_ ?_) (.raise _)
  · split <;> split <;> simp [each, laneNos]
  · split <;> split <;> simp [each, laneNos]

theorem mayRaise_modSeq (r : Ramp) (f : Sequencer → Sequencer) : s.MayRaise (s.modSeq r f) := .of_ports rfl rfl
theorem mayRaise_setSeq (r : Ramp) (q : Sequencer) : s.MayRaise (s.setSeq r q) := .of_ports rfl rfl
theorem mayRaise_setRate (r : Ramp) (x : RampRate) : s.MayRaise (s.setRate r x) := .of_ports rfl rfl

theorem mayRaise_handLane (r : Ramp) (ln : LaneNo) (st : LaneState) : s.MayRaise (s.handLane r ln st) := by
  unfold handLane; dsimp only
  split <;> exact .of_ports rfl rfl

theorem mayRaise_handLanes (r : Ramp) (st : LaneState) : s.MayRaise (s.handLanes r st) :=
  each_induct (P := fun t => s.MayRaise t) laneNos _ (.of_ports rfl rfl) fun ln t h => h.trans (mayRaise_handLane t r ln _)

theorem mayRaise_darkLanes (r : Ramp) : s.MayRaise (s.darkLanes r) :=
  each_induct (P := fun t => s.MayRaise t) laneNos _ (.of_ports rfl rfl) fun ln t h => h.trans (mayRaise_handLane t r ln _)

theorem mayRaise_goDark (r : Ramp) (st : RampState) : s.MayRaise (s.goDark r st) :=
  (mayRaise_darkLanes s r).trans ((mayRaise_modSeq _ r _).trans (mayRaise_setRampState _ r st))

theorem mayRaise_warningEntry (r : Ramp) : s.MayRaise (s.warningEntry r) :=
  (mayRaise_handLanes s r .restGreen).trans ((mayRaise_modSeq _ r _).trans ((mayRaise_setRate _ r _).trans
    (mayRaise_setRampState _ r .warning)))

theorem mayRaise_endingEntry (r : Ramp) : s.MayRaise (s.endingEntry r) :=
  (mayRaise_handLanes s r .restGreen).trans ((mayRaise_modSeq _ r _).trans (mayRaise_setRampState _ r .ending))

/-- The ramp goes dark: its flag, RAMP_STATE, and the runs of the lanes that were lit (R111 to R113, R122, R123, R128). -/
theorem goDark_turns (r : Ramp) {st : RampState} (h : st ≠ .unconfigured) :
    s.rampTurns r (st = .warning || st = .metering) [s] (s.goDark r st) ∧ s.lampsFollow r [] (s.goDark r st) := by
  have hd := mayRaise_darkLanes s r
  have ht := setRampState_turns ((s.darkLanes r).modSeq r Sequencer.discard) r h
  have hk : (s.darkLanes r).retained = s.retained :=
    each_proj retained laneNos _ s fun ln t => by unfold handLane; dsimp only; split <;> rfl
  have hq := seq_of_sequencers s (sequencers_darkLanes s r)
  refine ⟨⟨?_, ((hd.trans (mayRaise_modSeq _ r _)).around ht.1.2 (mayRaise_setRampState _ r st) (.of_ports rfl rfl)).1⟩, ?_⟩
  · have := ht.1.1
    rw [seq_modSeq_self, hq, modSeq_retained, hk] at this
    exact this
  · refine lampsFollow_after (lampsFollow_darkLanes s r) ?_ ?_
    · unfold goDark; rw [ht.2]; rfl
    · rw [hq, seq_of_sequencers s (sequencers_goDark s r st)]

/-- Entry into WARNING, as `goDark_turns` (R105). -/
theorem warningEntry_turns (r : Ramp) :
    s.rampTurns r true [s] (s.warningEntry r) ∧ s.lampsFollow r [] (s.warningEntry r) := by
  have hd := mayRaise_handLanes s r .restGreen
  have hk : (s.handLanes r .restGreen).retained = s.retained :=
    each_proj retained laneNos _ s fun ln t => by unfold handLane; dsimp only; split <;> split <;> rfl
  have hq := seq_of_sequencers s (sequencers_handLanes s r .restGreen)
  have e : ∃ t : State, s.warningEntry r = t.setRampState r .warning ∧ s.MayRaise t ∧ t.lamps = (s.handLanes r .restGreen).lamps
      ∧ t.retained = s.retained ∧ (t.seq r).supplyHold = (s.seq r).supplyHold :=
    ⟨_, rfl, hd.trans ((mayRaise_modSeq _ r _).trans (mayRaise_setRate _ r _)), by rw [setRate_lamps, modSeq_lamps],
      by rw [setRate_retained, modSeq_retained, hk], by rw [seq_setRate, seq_modSeq_self, hq]⟩
  obtain ⟨t, et, em, el, er, es⟩ := e
  have ht := setRampState_turns t r (st := .warning) (by decide)
  rw [et]
  refine ⟨⟨?_, (em.around ht.1.2 (mayRaise_setRampState _ r _) (.of_ports rfl rfl)).1⟩, ?_⟩
  · have := ht.1.1
    rw [es, er] at this
    simpa using this
  · refine lampsFollow_after (lampsFollow_handLanes s r .restGreen) ?_ ?_
    · rw [ht.2, el]
    · rw [hq, ← et, seq_of_sequencers s (sequencers_warningEntry s r)]

/-- Entry into ENDING, as `goDark_turns` (R110). -/
theorem endingEntry_turns (r : Ramp) :
    s.rampTurns r false [s] (s.endingEntry r) ∧ s.lampsFollow r [] (s.endingEntry r) := by
  have hd := mayRaise_handLanes s r .restGreen
  have hk : (s.handLanes r .restGreen).retained = s.retained :=
    each_proj retained laneNos _ s fun ln t => by unfold handLane; dsimp only; split <;> split <;> rfl
  have hq := seq_of_sequencers s (sequencers_handLanes s r .restGreen)
  have e : ∃ t : State, s.endingEntry r = t.setRampState r .ending ∧ s.MayRaise t ∧ t.lamps = (s.handLanes r .restGreen).lamps
      ∧ t.retained = s.retained ∧ (t.seq r).supplyHold = (s.seq r).supplyHold :=
    ⟨_, rfl, hd.trans (mayRaise_modSeq _ r _), by rw [modSeq_lamps], by rw [modSeq_retained, hk], by
      rw [seq_modSeq_self, hq]; rfl⟩
  obtain ⟨t, et, em, el, er, es⟩ := e
  have ht := setRampState_turns t r (st := .ending) (by decide)
  rw [et]
  refine ⟨⟨?_, (em.around ht.1.2 (mayRaise_setRampState _ r _) (.of_ports rfl rfl)).1⟩, ?_⟩
  · have := ht.1.1
    rw [es, er] at this
    simpa using this
  · refine lampsFollow_after (lampsFollow_handLanes s r .restGreen) ?_ ?_
    · rw [ht.2, el]
    · rw [hq, ← et, seq_of_sequencers s (sequencers_endingEntry s r)]

theorem mayRaise_offSettled (r : Ramp) : s.MayRaise (s.offSettled r) := by
  unfold offSettled; dsimp only
  split <;> split
  · exact (mayRaise_setSeq _ r _).trans (mayRaise_setRampState _ r _)
  · exact .of_ports rfl rfl
  · exact mayRaise_setRampState s r _
  · exact .of_ports rfl rfl

theorem mayRaise_offFollowed (r : Ramp) : s.MayRaise (s.offFollowed r) := by
  unfold offFollowed; split
  · exact mayRaise_warningEntry s r
  · exact .of_ports rfl rfl

theorem mayRaise_report (r : Ramp) : s.MayRaise (s.report r) := by
  unfold report; dsimp only
  split
  · split
    · exact (mayRaise_setSeq _ r _).trans (mayRaise_setRampState _ r _)
    · exact .of_ports rfl rfl
  · exact .of_ports rfl rfl
  · split
    · exact .of_ports rfl rfl
    · exact (mayRaise_setSeq _ r _).trans ((mayRaise_setRampState _ r _).trans (mayRaise_offFollowed _ r))
  · split
    · exact .of_ports rfl rfl
    · exact (mayRaise_setSeq _ r _).trans
        ((mayRaise_goDark _ r _).trans ((mayRaise_offSettled _ r).trans (mayRaise_offFollowed _ r)))
  · split
    · exact .of_ports rfl rfl
    · split
      · exact .of_ports rfl rfl
      · exact (mayRaise_setSeq _ r _).trans (mayRaise_endingEntry _ r)
  · exact .of_ports rfl rfl

/-- The Lane Count reports may raise RAMP_STATE, by the routes that stand (R104, R123). -/
theorem mayRaise_reports : s.MayRaise s.reports :=
  each_induct (P := fun t => s.MayRaise t) ramps report (.of_ports rfl rfl) fun r t h => h.trans (mayRaise_report t r)

end State
end Sys2Proof.Machine
end

