-- ==== Sys2Proof/Tests/Slice0.lean ====
section
/-! SUPPORT. The model's own tests: ill-formed terms refused, frames and records from the bytes of R194, single steps on small states,
the reset state as the restart that makes it, and for every statement with hypotheses a state and operands that meet them. -/

set_option Elab.async false

namespace Sys2Proof.Tests

open Sys2Proof.Machine

/-! ### Ill-formed terms are refused -/

theorem test_wf_sample_bad_step : Instr.wf (.sample ⟨0, 0, 0, 0, false⟩ [.incidentQualifies 0 0 .test]) = false := by decide
theorem test_wf_sample_good : Instr.wf (.sample ⟨0, 0, 0, 0, false⟩ [.incidentQualifies 0 0 .redOut]) = true := by decide
theorem test_wf_incident_kind : Instr.wf (.incidentQualifies 0 0 .test) = false := by decide
theorem test_wf_loop_length : Instr.wf (.writeLoop .centre 1 (.fields [0, 0, 0, 0, 0, 0])) = false := by decide
theorem test_wf_plan_length : Instr.wf (.writePlan .centre 1 (.fields [0])) = false := by decide
theorem test_wf_schedule_length : Instr.wf (.writeSchedule .centre 1 (.fields [1, 0, 0, 1, 1, 1])) = false := by decide
theorem test_wf_shift_length : Instr.wf (.writeShift .centre 1 (.fields [])) = false := by decide
theorem test_wf_safety_length : Instr.wf (.writeSafety .service (.fields [20, 10])) = false := by decide
theorem test_wf_corridor_length : Instr.wf (.writeCorridorSettings .centre (.fields [1])) = false := by decide
theorem test_wf_read_ramp : Req.wf (.read .loop 1 1) = false ∧ Req.wf (.read .rampHistory 1 1) = true := by decide
theorem test_wf_bad_frame : Req.wf (.bad 1 1) = false := by decide
theorem test_wf_clear : WriteData.wf .safety .clear = true := by decide

/-! ### Frames and records (R182, R194) -/

/-- The check value of the CRC over the nine digits. -/
theorem test_crc_check_value : crc16 [0x31, 0x32, 0x33, 0x34, 0x35, 0x36, 0x37, 0x38, 0x39] = 0x29B1 := by decide +kernel

/-- SELECT of plan 8 on ramp 5: kind 0x05, object 0, index 5, payload 8. -/
theorem test_frame_select : (Req.select 5 8).frame.take 6 = [0xA5, 4, 0x05, 0x00, 5, 8] ∧ (Req.select 5 8).frame.length = 8 := by
  decide +kernel

/-- READ of RAMP_HISTORY carries the age as index and the ramp as payload. -/
theorem test_request_history : decodeRequest 0x01 0x02 3 [5] = .read .rampHistory 3 5 := by decide
theorem test_request_insert_error : decodeRequest 0x0E 0x06 4 [2] = .insertError .plan 4 2 := by decide
theorem test_request_watch : decodeRequest 0x0F 0x00 0 [0x0F, 0xEF] = .watch 0 0x0FEF := by decide
theorem test_request_bad_kind : decodeRequest 0x12 0x00 0 [] = .bad 0x12 0 := by decide
theorem test_request_bad_length : decodeRequest 0x05 0x00 1 [] = .bad 0x05 1 := by decide

/-- A plan by the offsets of R194: FEEDBACK, coordinated, target 180, gain 70, and so on. -/
theorem test_plan_bytes : (decodePlan [0, 1, 0, 180, 0, 70, 3, 132, 3, 132, 0, 240, 5, 220, 1, 15, 10, 25, 1, 244, 4, 0]).isSome
    = true := by decide

/-- The bytes of each record kind. -/
def loopBytes : List Byte := encodeLoop { LoopRec.delivered with ident := { role := .passage, ramp := some 0, lane := some 1 } }
def planBytes : List Byte := [0, 1, 0, 180, 0, 70, 3, 132, 3, 132, 0, 240, 5, 220, 1, 15, 10, 25, 1, 244, 4, 0]
def scheduleBytes : List Byte := [0x1F, 6, 30, 0x01, 8]
def shiftBytes : List Byte := [3, 5, 7, 2, 0, 0xFF]
def safetyBytes : List Byte := encodeSafety SafetyRec.builtin
def corridorBytes : List Byte := encodeCorridor CorridorRec.delivered

theorem test_record_lengths : loopBytes.length = 7 ∧ planBytes.length = 22 ∧ scheduleBytes.length = 5 ∧ shiftBytes.length = 6
    ∧ safetyBytes.length = 9 ∧ corridorBytes.length = 50 := by decide +kernel
theorem test_records_accepted : (decodeLoop loopBytes).isSome ∧ (decodePlan planBytes).isSome ∧ (decodeSchedule scheduleBytes).isSome
    ∧ (decodeShift shiftBytes).isSome ∧ (decodeSafety safetyBytes).isSome ∧ (decodeCorridor corridorBytes).isSome := by
  decide +kernel
theorem test_records_refused : decodeLoop [9, 0xFF, 0xFF, 0, 240, 20, 8] = none ∧ decodePlan (List.replicate 22 0xFF) = none
    ∧ decodeSchedule [0x80, 6, 30, 1, 8] = none ∧ decodeSchedule [1, 6, 30, 0x40, 8] = none ∧ decodeShift [0, 5, 7, 2, 0, 0xFF] = none
    ∧ decodeSafety (List.replicate 9 0) = none ∧ decodeCorridor (List.replicate 50 0xFF) = none := by decide +kernel

/-! ### The reset state is the COLD_POWER restart of a delivered part (log 5) -/

/-- All inputs dark and deasserted. -/
def dark : Inputs := { presence := 0, redLit := 0, greenLit := 0, panel := 0, supplyFail := false }

/-- A part as delivered, without main supply, its battery too low to hold the store. -/
def delivered : State := ((State.reset.setPower .unpowered).batterySupplyLow).setCause .warm

def firstPower : State := delivered.coldPower dark ⟨0⟩ 0

theorem test_cold_supply : firstPower.supply = State.reset.supply := by decide +kernel
theorem test_cold_retained : firstPower.retained = State.reset.retained := by decide +kernel
theorem test_cold_memory : firstPower.memory = State.reset.memory := by decide +kernel
theorem test_cold_loops : firstPower.loops = State.reset.loops := by decide +kernel
theorem test_cold_timer : firstPower.timer = State.reset.timer := by decide +kernel
theorem test_cold_measure : firstPower.measure = State.reset.measure ∧ firstPower.corridorMeasure = State.reset.corridorMeasure := by
  decide +kernel
theorem test_cold_rates : firstPower.rates = State.reset.rates ∧ firstPower.corridorRate = State.reset.corridorRate := by
  decide +kernel
theorem test_cold_lists : firstPower.lists = State.reset.lists := by decide +kernel
theorem test_cold_sequencers : firstPower.sequencers = State.reset.sequencers := by decide +kernel
theorem test_cold_lamps : firstPower.lamps = State.reset.lamps ∧ firstPower.qualified = State.reset.qualified := by decide +kernel
theorem test_cold_arbiter : firstPower.arbiter = State.reset.arbiter := by decide +kernel
theorem test_cold_buttons : firstPower.buttons = State.reset.buttons := by decide +kernel
theorem test_cold_ports : firstPower.ports = State.reset.ports := by decide +kernel
theorem test_cold_router : firstPower.router = State.reset.router := by decide +kernel

/-! ### Single steps -/

/-- The corridor settings with one lane on ramp 1 and two on ramp 2. -/
def corridor12 : CorridorRec := { CorridorRec.delivered with laneCount := ⟨[1, 2, 0, 0, 0, 0], rfl⟩ }

/-- The plan of `planBytes`: Start Rate 900, Green Time 15 ds, rates 240 to 1500. -/
def plan8 : Plan :=
  { mode := .feedback, coordinated := true, targetOccupancy := 180, feedbackGain := 70, fixedRate := 900, startRate := 900,
    rateMinimum := 240, rateMaximum := 1500, vehiclesPerGreen := 1, greenTime := 15, queueKeep := 10, queueStorage := 25,
    queueEndThreshold := 500, flushPeriods := 4, fallbackPlan := .builtin }

theorem test_plan_decodes : decodePlan planBytes = some plan8 := by decide +kernel

/-- A part with those settings, plan 8 stored, ramps 1 and 2 OFF, and empty lists. -/
def bench : State :=
  { State.reset with
    memory := { State.reset.memory with corridor := corridor12, plans := (Tab.replicate 32 none).set 7 (some plan8) }
    sequencers := (State.reset.sequencers.set 0 (Sequencer.start .off 1)).set 1 (Sequencer.start .off 2)
    lists := Tab.replicate 6 { hold := false, fallback := none, command := none, schedule := none } }

/-- A merge loop of ramp 1. -/
def plainIdent : Identity := { role := .merge, ramp := some 0, lane := none }

/-- The state a command leaves. -/
def run (c : Instr) (s : State) : State :=
  match exec c s with
  | .next t => t
  | _ => s

/-- A ramp of the bench changed. -/
def benchWith (r : Ramp) (f : Sequencer → Sequencer) : State := bench.modSeq r f

/-- Ramp 1 in WARNING with its timer run out, plan 8 demanded by the schedule. -/
def warned : State :=
  (benchWith 0 fun q => { q with state := .warning, warningTimer := some 0, sign := .flashing true 7,
                                 lanes := ⟨[.restGreen, .dark], rfl⟩ }).setList 0
    { hold := false, fallback := none, command := none, schedule := some (.plan 7) }

/-- Ramp 1 metering under that plan, its lane RED for 30 s and its slot due. -/
def metering : State :=
  let s := run (.warningTimerExpiry 0) warned
  s.modSeq 0 fun q => { q with lanes := ⟨[.red 3000, .dark], rfl⟩, slotTimer := some 0, checkIn := ⟨[some .unsupervised, none], rfl⟩ }

/-- Ramp 1 metering with its green run down. -/
def greenDone : State := metering.modSeq 0 fun q => { q with lanes := ⟨[.green 0, .dark], rfl⟩, slotTimer := some 100 }

/-- Ramp 1 in ENDING with its clearance over. -/
def cleared : State := benchWith 0 fun q => { q with state := .ending, clearanceTimer := some 0, lanes := ⟨[.restGreen, .dark], rfl⟩ }

/-- SELECT of plan 8 takes ramp 1 to WARNING for its Warn Time of 30 s (6.12). -/
theorem test_select_warns : let t := run (.select .centre 1 8) bench
    (t.seq 0).state = .warning ∧ (t.seq 0).warningTimer = some 3000 ∧ (t.seq 0).sign = .flashing true 0
      ∧ (t.seq 0).lanes.get 0 = .restGreen ∧ t.retained.wasMetering.get 0 = true
      ∧ (t.port .centre).answers.map Answer.status = [.done] := by decide +kernel

/-- The start interval of 900 veh/h is 40 ds (6.12). -/
theorem test_warning_expiry : let t := run (.warningTimerExpiry 0) warned
    (t.seq 0).state = .metering ∧ (t.seq 0).slotTimer = some 400 ∧ (t.seq 0).lanes.get 0 = .red 0
      ∧ (t.seq 0).timing = some { slotInterval := 40, greenTime := 15, vehiclesPerGreen := 1 }
      ∧ (t.seq 0).sign = .flashing true 7 ∧ (t.seq 0).redMinimum = some 20 := by decide +kernel

theorem test_slot_given : let t := run (.slotExpiry 0) metering
    (t.seq 0).lanes.get 0 = .green 150 ∧ (t.seq 0).greens.get 0 = 1 ∧ (t.seq 0).lastLane = some 0
      ∧ (t.seq 0).slotTimer = some 400 := by decide +kernel

theorem test_green_ends : ((run (.greenEnd 0 0) greenDone).seq 0).lanes.get 0 = .red 0 := by decide +kernel

theorem test_stopping_green_ends : let t := run (.greenEnd 0 0) (greenDone.modSeq 0 fun q => { q with stopping := true })
    (t.seq 0).state = .ending ∧ (t.seq 0).clearanceTimer = some 6000 ∧ (t.seq 0).sign = .off := by decide +kernel

theorem test_red_minimum : let t := run (.redMinimumReached 0 0) (metering.modSeq 0 fun q => { q with heldSlot := true, slotTimer := none })
    (t.seq 0).lanes.get 0 = .green 150 ∧ (t.seq 0).heldSlot = false := by decide +kernel

theorem test_clearance_expiry : let t := run (.clearanceTimerExpiry 0) cleared
    (t.seq 0).state = .off ∧ (t.seq 0).lanes.get 0 = .dark := by decide +kernel

theorem test_sign_phase : ((run (.signPhaseChange 0) (benchWith 0 fun q => { q with sign := .flashing true 50 })).seq 0).sign
    = .flashing false 0 := by decide +kernel

theorem test_short_press :
    ((run (.panelShortPress 0) (metering.setButton 0 { Button.start with shortDue := true })).seq 0).state = .ending := by
  decide +kernel

theorem test_long_hold : let t := run (.panelLongHold 0) (metering.setButton 0 { Button.start with holdDue := true })
    (t.seq 0).state = .off ∧ (t.planList 0).hold = true ∧ t.retained.hold.get 0 = true := by decide +kernel

theorem test_incident : let q : Qualified := { ramp := 0, lane := 0, kind := .redOut, commanded := .red, sensed := .none }
    let t := run (.incidentQualifies 0 0 .redOut) { metering with qualified := [q] }
    (t.seq 0).state = .darkFault ∧ t.retained.faultDark.get 0 = true ∧ (t.retained.incident.map (·.rank)) = some .low
      ∧ t.qualified = [] := by decide +kernel

theorem test_test_incident : let t := run (.testIncident .service 1 2 0) bench
    (t.seq 0).state = .darkFault ∧ (t.retained.incident.map (·.kind)) = some .test := by decide +kernel

theorem test_supply_fail : let s := { metering with supply := { metering.supply with sampled := true } }
    let t := run .supplyFailAsserted s
    (t.seq 0).state = .off ∧ (t.seq 0).supplyHold = true ∧ t.retained.wasMetering.get 0 = true
      ∧ t.retained.wasMetering.get 1 = false := by decide +kernel

/-- A ramp that metered before the failure resumes its schedule where the clock is valid, and warns (R177). -/
theorem test_supply_restart :
    let s := run .supplyFailAsserted { metering with supply := { metering.supply with sampled := true } }
    let t := run .supplyRestart { s with supply := { s.supply with sampled := false } }
    (t.seq 0).supplyHold = false ∧ (t.planList 0).command = none ∧ (t.planList 1).command = some (.off, .restart)
      ∧ t.supply.cause = .supply := by decide +kernel

theorem test_warm_restart : let s := run (.answerSent .centre) (run (.warmRestart .centre) bench)
    s.supply.warmDue = true ∧ (run (.warmRestartTaken dark) s).supply.cause = .warm
      ∧ ((run (.warmRestartTaken dark) s).port .centre).answers = [] := by decide +kernel

theorem test_reset_line : (run .resetLineAsserted metering).supply.power = .heldAtReset
    ∧ (run (.coldLine dark ⟨0⟩ 0) (run .resetLineAsserted metering)).supply.cause = .coldLine := by decide +kernel

/-- A rising edge is counted, and a first sample is none (R6, R9). -/
theorem test_loop_sample : let l := { Loop.afresh .ok (some plainIdent) with presence := some false }
    (l.sample true).count = 1 ∧ (l.sample true).onSamples = 1 ∧ ((Loop.afresh .ok (some plainIdent)).sample true).count = 0
      ∧ ((Loop.afresh .unused none).sample true).onSamples = 0 := by decide +kernel

theorem test_stuck_on : let s := bench.setLoop 0 { bench.loop 0 with state := .ok, stuckRun := 24000 }
    ((run (.stuckOnEntry 0) s).loop 0).state = .stuckOn ∧ ((run (.silenceEntry 0) s).loop 0).state = .ok := by decide +kernel

/-- A stuck loop that clears at the sample of its 30th quiet second goes from STUCK_ON to OK, and raises nothing under ENTRY (R11). -/
theorem test_three_judged_at_once :
    let l := { Loop.afresh .stuckOn (some plainIdent) with stuckOn := true, chatter := true, clearRun := 200, quietRun := 29 }
    let s := { bench.setLoop 0 l with timer := { bench.timer with secondDue := true } }
    let t := run (.stuckOnClear 0) s
    let v := run .chatterSecondJudgement t
    (t.loop 0).state = .ok ∧ (v.loop 0).state = .ok ∧ (v.loop 0).chatter = false
      ∧ classIn .loopFault (v.port .centre).pending = false := by decide +kernel

/-- Both shift records are read at a full hour, though record 1 applies (R90). -/
theorem test_both_shifts_read :
    let s := { bench with
      retained := { bench.retained with clock := ⟨1, 3, 25, 1, 59, 59⟩, clockValid := true, phase := 100 }
      memory := { bench.memory with
        shifts := ⟨[some ⟨3, .last, 7, 2, .forward, none⟩, some ⟨10, .last, 7, 2, .back, none⟩], rfl⟩ } }
    let t := run .clockAdvance (s.addError (.shift 1))
    t.retained.clock = ⟨1, 3, 25, 3, 0, 0⟩ ∧ (t.health (.shift 1)).check = .good ∧ t.memory.correctionCount = 1 := by decide +kernel

/-- After a change of aspect RAMP_STATUS shows the condition of the latest sample, with its run at 0 (R128, R139). -/
theorem test_lamps_of_latest_sample :
    let s := metering.setLamp 0 0 { LaneMonitor.afresh .none with sampled := some .red, redOut := ⟨60, false⟩ }
    let t := run (.slotExpiry 0) s
    (s.lampShown 0 0).redOut = (true, 60) ∧ (t.lampShown 0 0).redOut = (true, 0) ∧ (t.lampShown 0 0).greenOut = (false, 0)
      ∧ (bench.lampShown 0 0).redOut = (false, 0) := by decide +kernel

/-- A SUPPLY restart taken before an incident whose aspect has changed leaves no incident to take (R180). -/
theorem test_restart_before_incident :
    let q : Qualified := { ramp := 0, lane := 0, kind := .strayGreen, commanded := .none, sensed := .green }
    let s := { (bench.setList 0 (warned.planList 0)).setLamp 0 0
        { LaneMonitor.afresh .green with sampled := some .none, strayGreen := ⟨30, true⟩ } with
      supply := { bench.supply with input := true }, qualified := [q], retained := { bench.retained with clockValid := true }
      memory := { bench.memory with corridor := { corridor12 with restartPolicy := .resumeSchedule }
                                    schedule := bench.memory.schedule.set 0 (some ⟨0x7F, 6, 30, 1, .plan 7⟩) } }
    let t := run .supplyRestart s
    (t.seq 0).state = .warning ∧ t.qualified = []
      ∧ (run .supplyRestart { s with memory := bench.memory }).qualified = [q] := by decide +kernel

/-- A complete frame that waits at a port is answered before the request row that follows it (R184). -/
theorem test_frame_before_row :
    let s := bench.modPort .centre fun x => { x with receiver := .receiving (Req.claim 6).frame 0 }
    ((run (.readDevice .centre) s).port .centre).answers.map Answer.kind = [0x83]
      ∧ ((run (.readDevice .centre) s).port .centre).waiting = some (.read .device 0 0) := by decide +kernel

/-- The bytes of a HELD_ELSEWHERE answer to CLAIM of record 0 that the service port holds (R182, R194). -/
theorem test_answer_frame :
    let s := run (.claim .centre 0) (bench.setHolder 0 (some .service))
    (s.sending (fun _ => []) .centre).take 6 = [0xA5, 4, 0x83, 0x06, 0, 3]
      ∧ frameCrcOk (s.sending (fun _ => []) .centre) = true := by decide +kernel

theorem test_clock_advance : let s := { bench with retained := { bench.retained with phase := 100, clock := ⟨99, 12, 31, 23, 59, 59⟩ } }
    (run .clockAdvance s).retained.clock = DateTime.epoch := by decide +kernel

/-- Without a passage loop the departures are the greens times the vehicles per green (R28). -/
theorem test_substituted_departures :
    (rampResults (Tab.replicate 48 (Loop.value (Loop.afresh .ok (some plainIdent)))) 0 1 ⟨[7, 0], rfl⟩ 2).departures = 14 := by
  decide +kernel

/-- 3.7: a Green Time of 15 ds over a Red Minimum of 20 ds gives two lanes a slot of 18 ds and one lane 35 ds. -/
theorem test_min_slot : minSlotInterval 2 15 20 = 18 ∧ minSlotInterval 1 15 20 = 35 ∧ slotIntervalOf 1 557 = 65 := by decide

/-- The port of 11.6.1 at its third step: a TAKE_EVENTS behind a waiting request is BUSY, and takes nothing. -/
theorem test_crowded_port :
    let s := bench.modPort .cabinet fun x => { x with current := some (.read .device 0 0), waiting := some (.select 5 8), pending := 0x800 }
    let t := run (.takeEvents .cabinet) s
    ((t.port .cabinet).answers.map Answer.status) = [.busy] ∧ (t.port .cabinet).pending = 0x800 := by decide +kernel

theorem test_claim : (run (.claim .cabinet 1) bench).holder 1 = some .cabinet
    ∧ classIn .authority ((run (.claim .cabinet 1) bench).port .centre).pending = true := by decide +kernel

theorem test_storage_fault : ((run (.storageFault .safety) bench).health .safety).check = .oneError
    ∧ ((run (.readSafety .centre) (run (.storageFault .safety) bench)).memory.correctionCount) = 1 := by decide +kernel

theorem test_read_plan_zero : ((run (.readPlan .centre 0) bench).port .centre).answers.map Answer.payload
    = [.bytes (0 :: encodePlan (planZero SafetyRec.builtin))] := by decide +kernel

theorem test_bad_length_drops : let s := run (.byteReceived .centre 125) (run (.byteReceived .centre 0xA5) bench)
    ((run (.badLength .centre) s).port .centre).receiver = .hunting := by decide +kernel

/-! ### Every statement's hypotheses are met

One theorem for each statement with hypotheses, named after it: concrete states and operands that meet them together, with one line
for each clause, at the ends of its ranges. -/

theorem test_ready (p : Port) : bench.ready p := by cases p <;> exact ⟨rfl, rfl, rfl, by decide +kernel, rfl⟩

theorem test_lapsesStand : bench.lapsesStand := by intro p; cases p <;> decide +kernel

/-- Three requests that a port may hold. -/
def deviceRead : Req := .read .device 0 0

/-- A port of the bench changed. -/
def benchPort (p : Port) (f : LinkPort → LinkPort) : State := bench.modPort p f

/-- A current answer, and one whose role is `x`. -/
def answerOf (x : AnswerRole) : Answer := { kind := 0x81, status := .done, index := 0, payload := .empty, role := x }

/-- Ramp 1's records moved to the cabinet port, and the corridor record to the service port. -/
def benchHeld : State := (bench.setHolder 1 (some .cabinet)).setHolder 0 (some .service)

theorem test_readyHeld (p : Port) : benchHeld.ready p := by cases p <;> exact ⟨rfl, rfl, rfl, by decide +kernel, rfl⟩

theorem test_meets_StepTakesTheFront : (bench.setPending [.scrubRead]).pending = [.scrubRead] ∧ bench.pending = [] := by decide
theorem test_meets_StoppedPartIgnoresCommands :
    (bench.setPower .unpowered).supply.power ≠ .running ∧ Instr.actsStopped .periodClose = false := by decide +kernel
theorem test_meets_StepKeepsListsOrdered : let s := State.reset.setPending [.scrubRead]
    s.listsOrdered ∧ ∃ t, step s = .next t := ⟨fun r => by revert r; decide +kernel, _, rfl⟩
theorem test_meets_StepKeepsLampsDisciplined : let s := State.reset.setPending [.scrubRead]
    s.lampsDisciplined ∧ ∃ t, step s = .next t := ⟨fun r => by revert r; decide +kernel, _, rfl⟩
theorem test_no_shifts : ∀ i, State.reset.memory.shifts.get i = none := by decide +kernel
theorem test_meets_StepKeepsCalendar : let s := State.reset.setPending [.clockAdvance]
    s.calendarSound ∧ ∃ t, step s = .next t :=
  ⟨⟨by decide +kernel, fun i x h => by
    have e : State.reset.memory.shifts.get i = some x := h
    rw [test_no_shifts] at e; cases e⟩, _, rfl⟩
theorem test_meets_LockedSafetyTableStands :
    let s := { bench with memory := { bench.memory with safetyLock := true } }
    Instr.isCold .scrubRead = false ∧ s.memory.safetyLock = true ∧ ∃ t, exec .scrubRead s = .next t := ⟨rfl, rfl, _, rfl⟩
theorem test_meets_RequestsDecode : Req.wf (.claim 6) ∧ Req.wf (.write .corridorSettings 0 (.fields corridorBytes))
    ∧ Req.wf (.read .rampHistory 19 6) ∧ Req.wf (.write .plan 32 .clear) := by decide +kernel
theorem test_meets_FramesCarryTheirRequests : Req.wf (.write .corridorSettings 0 (.fields corridorBytes))
    ∧ ([0x82, Status.code .busy, 0] : List Byte).length ≤ 124
    ∧ ((0x82 : Byte) :: Status.code .done :: 0 :: Payload.encode (fun _ => []) (.bytes (List.replicate 121 0))).length ≤ 124
    ∧ ((benchPort .centre fun x => { x with answers := [answerOf .busy] }).port .centre).answers = [answerOf .busy] := by
  decide +kernel
theorem test_meets_BytesOfAFrameDoItsRow : Instr.request (.claim .centre 6) = some (.centre, .claim 6) ∧ Req.wf (.claim 6)
    ∧ bench.running ∧ (bench.port .centre).receiver = .hunting := by decide +kernel
/-- A LOOP record with each field at an end of its range. -/
def edgeLoop : LoopRec :=
  { ident := { role := .queueEnd, ramp := some 5, lane := some 5 }, stuckOnTime := 900, silenceTime := 60, chatterLimit := 20 }
theorem test_loop_range : edgeLoop.inRange ∧ (encodeLoop edgeLoop) = [6, 6, 5, 3, 132, 60, 20] :=
  ⟨⟨fun n h => by cases h; decide, by decide⟩, by decide⟩
theorem test_loop_out_of_range : decodeLoop [6, 6, 5, 3, 133, 60, 20] = none ∧ decodeLoop [6, 6, 5, 3, 132, 60, 21] = none
    ∧ decodeLoop [7, 6, 5, 3, 132, 60, 20] = none ∧ decodeLoop [6, 0, 5, 3, 132, 60, 20] = none
    ∧ decodeLoop [6, 6, 6, 3, 132, 60, 20] = none := by decide +kernel
/-- No LOOP record in range carries a Chatter Limit of 21. -/
theorem test_loop_carries_no_record (x : LoopRec) (h : x.inRange) : encodeLoop x ≠ [6, 6, 5, 3, 132, 60, 21] := by
  intro heq
  have hb : (encodeLoop x).getD 6 0 = 21 := by rw [heq]; rfl
  have hn : x.chatterLimit % 256 = 21 := congrArg BitVec.toNat hb
  have := h.2.2.2.2.2.2
  omega
theorem test_meets_RecordsKeepTheirBytes :
    loopBytes.length = 7 ∧ (decodeLoop loopBytes).isSome ∧ planBytes.length = 22 ∧ (decodePlan planBytes).isSome
    ∧ scheduleBytes.length = 5 ∧ (decodeSchedule scheduleBytes).isSome ∧ shiftBytes.length = 6 ∧ (decodeShift shiftBytes).isSome
    ∧ safetyBytes.length = 9 ∧ (decodeSafety safetyBytes).isSome ∧ corridorBytes.length = 50
    ∧ (decodeCorridor corridorBytes).isSome := by decide +kernel
theorem test_meets_RecordRanges : edgeLoop.inRange ∧ plan8.inRange
    ∧ ({ dayMask := 64, hour := 23, minute := 59, rampMask := 32, action := .off } : ScheduleRec).inRange
    ∧ ({ month := 12, week := .nth 4, weekday := 7, hour := 22, direction := .back, appliedYear := some 99 } : ShiftRec).inRange
    ∧ SafetyRec.builtin.inRange ∧ State.reset.memory.corridor.inRange :=
  ⟨test_loop_range.1, by unfold Plan.inRange; decide +kernel, by unfold ScheduleRec.inRange; decide,
    ⟨by decide, fun n h => by cases h; decide, by decide, by decide, fun n h => by cases h; decide⟩,
    by unfold SafetyRec.inRange; decide +kernel, by unfold CorridorRec.inRange; decide +kernel⟩

/-- The frame of CLAIM of record 6. -/
def claimFrame : List Byte := [0xA5, 3, 0x03, 0x00, 6, 0x26, 0x8A]
theorem test_claim_frame : (Req.claim 6).frame = claimFrame := by decide +kernel

theorem test_meets_RequestTakenAtOnce : Instr.request (.claim .centre 6) = some (.centre, .claim 6) ∧ bench.ready .centre
    ∧ (let x := (benchPort .centre fun x => { x with receiver := .receiving claimFrame 0 }).port .centre
       x.receiver = .receiving (0xA5 :: 3 :: [0x03, 0x00, 6, 0x26, 0x8A]) 0 ∧ 3 ≤ (3 : Byte).toNat ∧ (3 : Byte).toNat ≤ 124
       ∧ [0x03, 0x00, 6, 0x26, (0x8A : Byte)].length = (3 : Byte).toNat + 2 ∧ frameCrcOk claimFrame = true ∧ x.silent = false
       ∧ x.current = none ∧ x.answers.length < 16)
    ∧ (bench.port .centre).receiver = .hunting ∧ [(0xA5 : Byte)].length < 2
    ∧ (2 : Byte).toNat < 3 ∧ 124 < (125 : Byte).toNat ∧ (List.replicate 125 (0 : Byte)).length < (124 : Byte).toNat + 2
    ∧ frameAccepted 0x12 0 [] = false ∧ frameAccepted 0x11 0 [] = true := ⟨rfl, test_ready _, by decide +kernel⟩
/-- A frame of the request kind 0x12, which is none of the seventeen. -/
def badFrame : List Byte := frameOf [0x12, 0x00, 6]
theorem test_bad_frame_answered :
    let s := benchPort .centre fun x => { x with receiver := .receiving badFrame 0 }
    frameCrcOk badFrame = true ∧ ((run (.frameComplete .centre) s).port .centre).answers
      = [{ kind := 0x92, status := .badRequest, index := 6, payload := .empty, role := .current }] := by decide +kernel
theorem test_partial_frame_waits :
    let s := benchPort .centre fun x => { x with receiver := .receiving [0xA5, 4, 0x05, 0x00, 5, 8, 0x26] 0 }
    run (.frameComplete .centre) s = s := by decide +kernel
theorem test_frame_checks :
    frameAccepted 0x00 1 [] = false ∧ frameAccepted 0x01 0x00 [] = false ∧ frameAccepted 0x01 0x11 [] = false
    ∧ frameAccepted 0x02 0x01 [0x01] = false ∧ frameAccepted 0x02 0x0B [0x01] = false ∧ frameAccepted 0x02 0x05 [0x01, 0] = false
    ∧ frameAccepted 0x02 0x05 (0x02 :: loopBytes) = false ∧ frameAccepted 0x02 0x05 (0x00 :: loopBytes) = true
    ∧ frameAccepted 0x02 0x09 [0x01] = true ∧ frameAccepted 0x01 0x02 [] = false ∧ frameAccepted 0x0E 0x11 [1] = false := by
  decide +kernel
theorem test_meets_RequestsWaitOrAreBusy : Instr.request (.claim .centre 6) = some (.centre, .claim 6) ∧ bench.running
    ∧ (benchPort .centre fun x => { x with receiver := .receiving claimFrame 0 }).frameWaits .centre = true
    ∧ bench.frameWaits .centre = false
    ∧ (let x := (benchPort .centre fun x => { x with answers := List.replicate 15 (answerOf .current), current := some deviceRead }).port .centre
       x.silent = false ∧ x.answers.length < 16 ∧ x.current = some deviceRead ∧ x.waiting = none)
    ∧ (let x := (benchPort .centre fun x => { x with current := some deviceRead, waiting := some deviceRead }).port .centre
       x.silent = false ∧ x.answers.length < 16 ∧ x.current = some deviceRead ∧ x.waiting ≠ none)
    ∧ (let x := (benchPort .centre fun x => { x with answers := List.replicate 16 (answerOf .current) }).port .centre
       x.silent = false ∧ 16 ≤ x.answers.length) := by decide +kernel
theorem test_meets_SilentPortReturns :
    let s := benchPort .cabinet fun x => { x with silent := true }
    let busy := benchPort .cabinet fun x => { x with silent := true, current := some deviceRead, waiting := some deviceRead }
    Instr.request (.claim .cabinet 0) = some (.cabinet, .claim 0) ∧ s.running ∧ (s.port .cabinet).silent = true
    ∧ (s.port .cabinet).answers.length < 16 ∧ s.frameWaits .cabinet = false ∧ (s.port .cabinet).current = none
    ∧ busy.running ∧ (busy.port .cabinet).silent = true ∧ busy.frameWaits .cabinet = false
    ∧ (busy.port .cabinet).current = some deviceRead ∧ (busy.port .cabinet).waiting = some deviceRead
    ∧ (s.port .cabinet).waiting = none ∧ s.lapsesStand :=
  ⟨rfl, rfl, rfl, by decide +kernel, rfl, rfl, rfl, rfl, rfl, rfl, rfl, rfl, fun p => by cases p <;> decide +kernel⟩
theorem test_meets_ReceiverFollowsFraming : bench.running ∧ (bench.port .centre).receiver = .hunting
    ∧ (let x := (benchPort .centre fun x => { x with receiver := .receiving [0xA5, 3] 4 }).port .centre
       x.receiver = .receiving [0xA5, 3] 4)
    ∧ (let x := (benchPort .centre fun x => { x with receiver := .receiving [0xA5] 5 }).port .centre
       x.receiver = .receiving [0xA5] 5)
    ∧ (3 ≤ (3 : Byte).toNat ∧ (3 : Byte).toNat ≤ 124 ∧ [0xA5, (3 : Byte)].length < 3 + 4) ∧ (2 : Byte).toNat < 3
    ∧ 124 < (125 : Byte).toNat ∧ (124 : Byte).toNat ≤ 124 ∧ frameCrcOk [0xA5, 3, 3, 0, 0, 0, 0] = false
    ∧ 3 + 4 ≤ [0xA5, (3 : Byte), 3, 0, 0, 0, 0].length := by decide +kernel
theorem test_meets_AnswerEndTakesTheWaitingRequest : bench.running
    ∧ (∀ x ∈ [AnswerRole.current, .warmRestart, .busy],
        ((benchPort .centre fun y => { y with answers := [answerOf x] }).port .centre).answers = [answerOf x] ∧ (answerOf x).role = x)
    ∧ (bench.port .centre).waiting = none
    ∧ ((benchPort .centre fun y => { y with answers := [answerOf .current], waiting := some deviceRead }).port .centre).waiting
        = some deviceRead := by decide +kernel
theorem test_meets_EventsFollowTheirRoutes : EventClass.loopFault ≠ .authority ∧ EventClass.period ≠ .authority := by decide
theorem test_meets_DeliveryFillsThePendingSet : EventClass.loopFault ≠ .period
    ∧ classIn .restart (State.reset.port .centre).pending = true := by decide +kernel
theorem test_meets_TakeEventsEmptiesThePendingSet : bench.ready .service
    ∧ (let s := benchPort .service fun x => { x with current := some deviceRead, waiting := some deviceRead }
       s.running ∧ (s.port .service).silent = false ∧ (s.port .service).answers.length < 16
       ∧ (s.port .service).current = some deviceRead ∧ (s.port .service).waiting = some deviceRead) :=
  ⟨test_ready _, by decide +kernel⟩
theorem test_meets_WatchReplacesTheWatchSet : bench.ready .centre ∧ Port.centre ≠ .service ∧ bench.ready .service ∧ (0x0FEF#16).getLsbD 4 = false ∧ (0x0FEF#16).toNat < 4096
    ∧ (0x0010#16).getLsbD 4 = true ∧ 4096 ≤ (0x1000#16).toNat := ⟨test_ready _, by decide, test_ready _, by decide⟩
theorem test_meets_RequestsKeepToTheirPorts : bench.ready .centre ∧ bench.ready .cabinet ∧ Port.cabinet ≠ .service
    ∧ WriteData.wf .safety .clear = true := ⟨test_ready _, test_ready _, by decide, by decide⟩
theorem test_meets_RequestsNeedTheirAuthority : benchHeld.ready .centre ∧ (1 : Byte).toNat = (0 : Ramp).val + 1
    ∧ benchHeld.holder (rampRecord 0) ≠ some .centre ∧ benchHeld.holder corridorRecord ≠ some .centre
    ∧ bench.ready .service ∧ bench.holder corridorRecord ≠ some .service ∧ benchHeld.ready .service
    ∧ benchHeld.holder (rampRecord 0) ≠ some .service ∧ Port.service ≠ .centre ∧ WriteData.wf .plan .clear = true :=
  ⟨test_readyHeld _, rfl, by decide +kernel, by decide +kernel, test_ready _, by decide +kernel, test_readyHeld _, by decide +kernel,
   by decide, rfl⟩
/-- The cabinet port SILENT, and one record with NONE. -/
def benchSilent : State := (benchPort .cabinet fun x => { x with silent := true }).setHolder 5 none
theorem test_meets_ClaimsGoByPriority : benchHeld.ready .cabinet ∧ (0 : Byte).toNat = (0 : Fin 7).val ∧ (6 : Byte).toNat = (6 : Fin 7).val
    ∧ benchHeld.holder 1 = some .cabinet ∧ (benchHeld.setHolder 2 none).holder 2 = none
    ∧ benchHeld.holder 3 = some .centre ∧ priority .centre < priority .cabinet
    ∧ benchHeld.holder 0 = some .service ∧ priority .cabinet < priority .service ∧ 7 ≤ (7 : Byte).toNat
    ∧ (benchSilent.port .cabinet).silent = true ∧ benchSilent.holder 6 = some .centre ∧ benchSilent.holder 5 = none
    ∧ benchSilent.lapsesStand :=
  ⟨test_readyHeld _, by decide +kernel, by decide +kernel, by decide +kernel, by decide +kernel, by decide +kernel, by decide +kernel,
   by decide, by decide +kernel, by decide, by decide +kernel, by decide +kernel, by decide +kernel,
   fun p => by cases p <;> decide +kernel⟩

/-- A CLAIM that waited until its port was SILENT: the records it wins go on to their Default Holder, with AUTHORITY for both losers. -/
theorem test_silent_claim : let t := benchSilent.takeRequest .cabinet (.claim 6)
    t.holder 6 = some .centre ∧ t.authorityPending .cabinet = true ∧ t.authorityPending .centre = true := by decide +kernel
theorem test_meets_YieldGivesARecordUp : benchHeld.ready .cabinet ∧ (1 : Byte).toNat = (1 : Fin 7).val
    ∧ benchHeld.holder 1 = some .cabinet ∧ benchHeld.holder 2 ≠ some .cabinet ∧ benchHeld.lapsesStand ∧ 7 ≤ (7 : Byte).toNat :=
  ⟨test_readyHeld _, rfl, by decide +kernel, by decide +kernel, fun p => by cases p <;> decide +kernel, by decide⟩
theorem test_meets_LapsedPortGivesItsRecordsUp :
    let s := benchPort .cabinet fun x => { x with silenceSeconds := 30 }
    s.running ∧ (s.port .cabinet).silent = false ∧ (s.port .cabinet).spared = false
    ∧ (s.port .cabinet).lapseTime ≤ (s.port .cabinet).silenceSeconds ∧ s.lapsesStand
    ∧ (bench.port .cabinet).silenceSeconds < (bench.port .cabinet).lapseTime ∧ (benchSilent.port .cabinet).silent = true
    ∧ ((benchPort .cabinet fun x => { x with spared := true }).port .cabinet).spared = true :=
  ⟨rfl, rfl, rfl, by decide +kernel, fun p => by cases p <;> decide +kernel, by decide +kernel, by decide +kernel, by decide +kernel⟩

theorem test_meets_UnitReadsShowTheirItems : bench.ready .centre ∧ ((3 : Byte) = 3 ∧ Port.service = .service)
    ∧ ((0 : Byte) = 0 ∨ 4 ≤ (0 : Byte).toNat) ∧ 4 ≤ (4 : Byte).toNat := ⟨test_ready _, by decide⟩

/-- A ramp history record, and a part whose ramp 1 and corridor hold records. -/
def emptyHistory : RampHistory :=
  { period := 4, stamp := none, state := .off, plan := none, origin := none, merge := none, arrivals := none, departures := 0,
    queueEnd := none, queueEstimate := 0, localRate := none, queueRate := none, lowLimit := none, highLimit := none,
    desiredRate := none, floor := none, finalRate := none, greens := [3],
    flags := ⟨true, false, true, false, false, false, false, false⟩ }
def corridorRecordOf (n : Nat) : CorridorHistory :=
  { period := n, bottleneck := none, allowance := 20000, sumDesired := none, excess := none, heldCount := 1, allowanceHeld := true,
    coordinationSuspended := false, allowanceNotMet := false }
def benchHistory : State :=
  { bench.setMeas 0 { bench.meas 0 with history := [emptyHistory, { emptyHistory with period := 5 }] } with
    corridorMeasure := { bench.corridorMeasure with history := List.replicate 20 (corridorRecordOf 1) } }

/-- The 41 bytes of that record (R194). -/
theorem test_history_bytes : encodeHistory emptyHistory
    = [0, 4, 0xFF, 0xFF, 0xFF, 0xFF, 0xFF, 0xFF, 1, 0xFF, 0xFF, 0xFF, 0xFF, 0xFF, 0xFF, 0, 0, 0xFF, 0xFF, 0, 0x80, 0, 0, 0,
       0xFF, 0xFF, 0xFF, 0xFF, 0xFF, 0xFF, 0xFF, 0xFF, 0xFF, 0xFF, 0xFF, 0xFF, 0xFF, 0xFF, 3, 0xFF, 0x05] := by decide +kernel

theorem test_meets_RampReadsShowTheRamp : benchHistory.ready .centre
    ∧ ((1 : Byte).toNat = (0 : Ramp).val + 1 ∧ (6 : Byte).toNat = (5 : Ramp).val + 1 ∧ (19 : Byte).toNat < 20
      ∧ (bench.meas 0).history.length ≤ (0 : Byte).toNat ∧ (bench.seq 5).state = .unconfigured
      ∧ (benchHistory.seq 0).state ≠ .unconfigured
      ∧ (benchHistory.meas 0).history = [] ++ emptyHistory :: [{ emptyHistory with period := 5 }]
      ∧ [{ emptyHistory with period := 5 }].length = (1 : Byte).toNat
      ∧ ((0 : Byte) = 0 ∨ 7 ≤ (0 : Byte).toNat) ∧ 7 ≤ (7 : Byte).toNat ∧ 20 ≤ (20 : Byte).toNat
      ∧ bench.corridorMeasure.history.length ≤ (0 : Byte).toNat
      ∧ benchHistory.corridorMeasure.history = [] ++ corridorRecordOf 1 :: List.replicate 19 (corridorRecordOf 1)) :=
  ⟨⟨rfl, rfl, rfl, by decide +kernel, rfl⟩, by decide +kernel⟩
theorem test_meets_ReadsOfStoredRecords : bench.ready .centre ∧ (32 : Byte).toNat = (31 : PlanSlot).val + 1 ∧ 33 ≤ (33 : Byte).toNat
    ∧ (48 : Byte).toNat = (47 : ScheduleSlot).val + 1 ∧ 49 ≤ (49 : Byte).toNat ∧ (2 : Byte).toNat = (1 : ShiftSlot).val + 1
    ∧ 3 ≤ (3 : Byte).toNat ∧ (1 : Byte).toNat = (0 : LoopNo).val + 1
    ∧ ((bench.addError (.loop 0)).addError (.loop 0)).damaged (.loop 0) = true := ⟨test_ready _, by decide +kernel⟩

theorem test_meets_SlotWritesStoreTheirRecord : bench.ready .centre ∧ bench.holder corridorRecord = some .centre
    ∧ (32 : Byte).toNat = (31 : PlanSlot).val + 1 ∧ planBytes.length = 22 ∧ decodePlan planBytes = some plan8
    ∧ (48 : Byte).toNat = (47 : ScheduleSlot).val + 1 ∧ scheduleBytes.length = 5 ∧ (decodeSchedule scheduleBytes).isSome
    ∧ (2 : Byte).toNat = (1 : ShiftSlot).val + 1 ∧ shiftBytes.length = 6 ∧ (decodeShift shiftBytes).isSome
    ∧ decodePlan (List.replicate 22 0xFF) = none ∧ 33 ≤ (33 : Byte).toNat ∧ decodeSchedule [0x80, 6, 30, 1, 8] = none
    ∧ 49 ≤ (49 : Byte).toNat ∧ decodeShift [0, 5, 7, 2, 0, 0xFF] = none ∧ 3 ≤ (3 : Byte).toNat := ⟨test_ready _, by decide +kernel⟩
theorem test_meets_SafetyTableIsWrittenUntilLocked : benchHeld.ready .service ∧ benchHeld.holder corridorRecord = some .service
    ∧ benchHeld.memory.safetyLock = false ∧ safetyBytes.length = 9 ∧ decodeSafety safetyBytes = some SafetyRec.builtin
    ∧ decodeSafety (List.replicate 9 0) = none
    ∧ (let s := { benchHeld with memory := { benchHeld.memory with safetyLock := true } }
       s.memory.safetyLock = true ∧ s.holder corridorRecord = some .service ∧ s.supply.power = .running)
    ∧ WriteData.wf .safety (.fields safetyBytes) = true := ⟨test_readyHeld _, by decide +kernel⟩
theorem test_meets_LoopWritesCheckAndStore : bench.ready .centre ∧ bench.holder corridorRecord = some .centre
    ∧ loopBytes.length = 7 ∧ ((0 : Byte) = 0 ∨ 49 ≤ (0 : Byte).toNat) ∧ 49 ≤ (49 : Byte).toNat
    ∧ decodeLoop [9, 0xFF, 0xFF, 0, 240, 20, 8] = none
    ∧ (∃ x, decodeLoop loopBytes = some x ∧ x.ident.wellFormed = true ∧ x.ident.role = .passage ∧ x.ident.ramp = some 0
        ∧ x.ident.lane = some 1 ∧ 1 ≤ bench.corridorInUse.laneCount.get 0 ∧ State.reset.corridorInUse.laneCount.get 0 < 1
        ∧ withinLimits [x.ident] = true)
    ∧ withinLimits (List.replicate 48 { role := .bottleneck, ramp := none, lane := none }) = false
    ∧ (48 : Byte).toNat = (47 : LoopNo).val + 1 :=
  ⟨test_ready _, by decide +kernel, by decide +kernel, by decide, by decide, by decide +kernel,
   ⟨{ LoopRec.delivered with ident := { role := .passage, ramp := some 0, lane := some 1 } }, by decide +kernel⟩, by decide +kernel, rfl⟩
/-- The cabinet port's timer at 40 s, its Lapse Time in force 50 s, and it holds a record. -/
def lateBench : State :=
  ((benchPort .cabinet fun x => { x with silenceSeconds := 40, lapseTime := 50 }).setHolder 1 (some .cabinet)).setHolder 3 none
theorem test_meets_CorridorWritesTakeEffect : bench.ready .centre ∧ bench.holder corridorRecord = some .centre
    ∧ corridorBytes.length = 50 ∧ decodeCorridor corridorBytes = some CorridorRec.delivered
    ∧ decodeCorridor (List.replicate 50 0xFF) = none
    ∧ (metering.seq 0).state = .metering ∧ CorridorRec.delivered.laneCount.get 0 ≠ (metering.seq 0).laneCount
    ∧ (∀ r, (bench.seq r).state = .off ∨ (bench.seq r).state = .unconfigured)
    ∧ corridor12.laneCount.get 0 ≠ 0 ∧ CorridorRec.delivered.laneCount.get 0 = 0
    ∧ (let s := lateBench; (s.port .cabinet).silent = false ∧ CorridorRec.delivered.lapseTime.get 1 ≠ (s.port .cabinet).lapseTime
       ∧ CorridorRec.delivered.lapseTime.get 1 ≤ (s.port .cabinet).silenceSeconds ∧ s.holder 1 = some .cabinet ∧ s.holder 2 = some .centre
       ∧ s.holder 3 = none) := ⟨test_ready _, by decide +kernel⟩

/-- A WRITE that waited does not make its sender SILENT, whose lapse then waits for its timer's next count; another port it does. -/
theorem test_waited_write : let w := Req.write .corridorSettings 0 (.fields corridorBytes)
    (let t := (lateBench.setHolder 0 (some .cabinet)).takeRequest .cabinet w
     (t.port .cabinet).silent = false ∧ (t.port .cabinet).spared = true ∧ t.holder 1 = some .cabinet
     ∧ (t.portLapse .cabinet) = t)
    ∧ (let t := lateBench.takeRequest .centre w
       (t.port .cabinet).silent = true ∧ t.holder 1 = some .centre ∧ t.authorityPending .cabinet = true) := by decide +kernel

theorem test_meets_UseCorrectsOrDiscovers : bench.memory.holds (.plan 0) = false ∧ bench.memory.holds .safety = true
    ∧ (bench.health .safety).check = .good ∧ ((bench.addError .safety).health .safety).check = .oneError
    ∧ (let h := ((bench.addError .safety).addError .safety).health .safety
       h.check = .twoErrors ∧ h.damagedMark = false)
    ∧ (let h := (((bench.addError .safety).addError .safety).useRecord .safety).health .safety
       h.check = .twoErrors ∧ h.damagedMark = true) := by decide +kernel
theorem test_meets_ErrorsWorsenTheCheckState : bench.ready .service ∧ State.recIdOf .plan 8 = some (.plan 7)
    ∧ bench.memory.holds (.plan 7) = true ∧ State.recIdOf .plan 32 = some (.plan 31) ∧ bench.memory.holds (.plan 31) = false
    ∧ State.recIdOf .device 0 = none ∧ State.recIdOf .plan 33 = none ∧ State.recIdOf .plan 0 = none
    ∧ State.recIdOf .loop 48 = some (.loop 47) ∧ State.recIdOf .shift 2 = some (.shift 1) ∧ State.recIdOf .safety 9 = some .safety ∧ ((0 : Byte) ≠ 1 ∧ (0 : Byte) ≠ 2) ∧ (3 : Byte) ≠ 2 :=
  ⟨test_ready _, by decide +kernel⟩
/-- Ramp 1 metering with its lane RED, the corridor settings damaged, and their scrub read due. -/
def scrubDamaged : State :=
  let s := (metering.addError .corridorSettings).addError .corridorSettings
  { s with timer := { s.timer with scrubCount := 400 }, memory := { s.memory with scrubPosition := .corridorSettings } }
theorem test_meets_ScrubReadsEveryRecordInTurn : bench.running ∧ bench.timer.scrubCount < 400
    ∧ (let s := { bench with timer := { bench.timer with scrubCount := 400 } }
       s.running ∧ 400 ≤ s.timer.scrubCount)
    ∧ scrubDamaged.timer.scrubCount = 400 ∧ scrubDamaged.memory.scrubPosition = .corridorSettings
    ∧ State.reportTurns scrubDamaged.corridorInUse scrubDamaged 0 = true := by decide +kernel

/-- The scrub read that finds the settings damaged ends the metering of ramp 1, under a Pending Lane Count of 0 (R104). -/
theorem test_damaged_settings_end_metering : let t := run .scrubRead scrubDamaged
    (t.seq 0).state = .ending ∧ (t.seq 0).pendingCount = some 0 ∧ (t.seq 0).laneCount = 1
      ∧ (t.seq 0).clearanceTimer = some 6000 := by decide +kernel

/-- A loop that qualifies, its runs at the times of the delivered record. -/
def stuckLoop : Loop := { Loop.afresh .ok (some plainIdent) with stuckRun := 24000, silenceRun := 120000 }

theorem test_meets_LoopConditionsFollowTheirRuns :
    (let s := bench.setLoop 0 stuckLoop
     s.running ∧ (s.loop 0).qualifies = true ∧ (s.loop 0).stuckOn = false ∧ (s.loop 0).silence = false
     ∧ (s.memory.loops.get 0).stuckOnTime * 100 ≤ (s.loop 0).stuckRun ∧ (s.memory.loops.get 0).silenceTime * 6000 ≤ (s.loop 0).silenceRun)
    ∧ (let s := bench.setLoop 0 { stuckLoop with state := .stuckOn, stuckOn := true, clearRun := 200 }
       (s.loop 0).qualifies = true ∧ (s.loop 0).stuckOn = true ∧ 200 ≤ (s.loop 0).clearRun)
    ∧ (bench.loop 0).qualifies = false ∧ { stuckLoop with stuckOn := true, clearRun := 199 }.clearRun < 200
    ∧ (Loop.afresh .ok (some plainIdent)).stuckRun < (bench.memory.loops.get 0).stuckOnTime * 100
    ∧ (Loop.afresh .ok (some plainIdent)).silenceRun < (bench.memory.loops.get 0).silenceTime * 6000 := by decide +kernel
theorem test_meets_SecondJudgesChatterOfEveryLoop : bench.running ∧ bench.timer.secondDue = false
    ∧ (let s := { bench.setLoop 0 { stuckLoop with edges := 9 } with timer := { bench.timer with secondDue := true } }
       s.timer.secondDue = true ∧ (s.loop 0).qualifies = true ∧ (s.memory.loops.get 0).chatterLimit < (s.loop 0).edges)
    ∧ (let s := bench.setLoop 0 { stuckLoop with chatter := true, state := .chatter, edges := 8, quietRun := 29 }
       (s.loop 0).qualifies = true ∧ (s.loop 0).edges ≤ (s.memory.loops.get 0).chatterLimit ∧ (s.loop 0).chatter = true
       ∧ 29 ≤ (s.loop 0).quietRun)
    ∧ ((bench.setLoop 0 { stuckLoop with chatter := true, state := .chatter, quietRun := 28 }).loop 0).quietRun < 29
    ∧ stuckLoop.chatter = false ∧ (bench.loop 0).qualifies = false
    ∧ { stuckLoop with stuckRun := 0 }.stuckAfter LoopRec.delivered = false := by decide +kernel
theorem test_meets_TestPresenceRunsItsTime : bench.ready .service ∧ (48 : Byte).toNat = (47 : LoopNo).val + 1
    ∧ (1 ≤ (1 : Byte).toNat ∧ (100 : Byte).toNat ≤ 100) ∧ 101 ≤ (101 : Byte).toNat ∧ 49 ≤ (49 : Byte).toNat ∧ bench.running
    ∧ (let s := bench.setLoop 0 { stuckLoop with testActive := true }
       (s.loop 0).testActive = true ∧ (s.loop 0).testTimer = 0) ∧ (bench.loop 0).testActive = false := ⟨test_ready _, by decide +kernel⟩
theorem test_meets_SampleTakesEveryInput : bench.running ∧ (bench.loop 0).state = .unused
    ∧ ((bench.setLoop 0 stuckLoop).loop 0).state ≠ .unused ∧ ((bench.setLoop 0 stuckLoop).loop 0).qualifies = true
    ∧ (bench.loop 0).qualifies = false ∧ (bench.seq 5).state = .unconfigured ∧ (bench.seq 0).state ≠ .unconfigured
    ∧ conditionHolds .redOut .red (sensedAt ⟨0, 0, 0, 0, false⟩ 0 0) = true
    ∧ conditionHolds .strayGreen .none (sensedAt ⟨0, 0, 0, 0, false⟩ 0 0) = false ∧ IncidentKind.redOut ≠ .test
    ∧ (metering.commanded 0 0 ≠ bench.commanded 0 0 ∧ bench.commanded 0 0 = bench.commanded 0 0)
    ∧ (let pressedFor (n : Nat) (x : Press) : Button := { Button.start with latest := some true, press := x, run := n }
       (pressedFor 399 .judged).run = 399 ∧ (pressedFor 5 .judged).run ≠ 399 ∧ (pressedFor 5 .ignored).press = .ignored
       ∧ (pressedFor 0 .none).latest ≠ some false ∧ Button.start.latest ≠ some false ∧ Button.start.press = .none
       ∧ ({ Button.start with latest := some false } : Button).latest = some false) := by
  decide +kernel

theorem test_meets_PeriodCloseSettlesThePeriod : bench.running ∧ bench.timer.samples < 3000
    ∧ 3000 ≤ ({ bench with timer := { bench.timer with samples := 3000 } } : State).timer.samples
    ∧ (let v (n : Nat) (ok : Bool) : PeriodValue := { ident := none, onSamples := n, count := 7, valid := ok, testSeen := false }
       meanOccupancy [v 751 true, v 1204 true, v 9 false] = some 326 ∧ maxOccupancy [v 751 true, v 9 false] = some 250
       ∧ sumCounts [v 1 true, v 2 true] = some 14 ∧ sumCounts [v 1 true, v 9 false] = none ∧ meanOccupancy [v 9 false] = none)
    ∧ bench.corridorInUse.laneCount.get 2 = 0 ∧ bench.corridorInUse.laneCount.get 0 ≠ 0 ∧ (bench.seq 0).state = .off
    ∧ (metering.seq 0).state = .metering ∧ (metering.seq 0).laneCount = metering.corridorInUse.laneCount.get 0
    ∧ ({ corridor12 with routes := { corridor12.routes with period := .both } } : CorridorRec).routes.period = .both
    ∧ bench.closeLanes 2 = 0 ∧ bench.closeLanes 0 ≠ 0 ∧ (bench.planList 0).governingPlan = none
    ∧ (metering.planList 0).governingPlan = some 7 ∧ (metering.settleLoops.closeLoops.useCorridor.seq 0).state = .metering := by
  decide +kernel

/-- Ramp 1 metering at the end of a period. -/
def atClose : State := { metering with timer := { metering.timer with samples := 3000 } }

/-- A close without a merge loop puts the built-in plan above a FEEDBACK plan, and hands its timing over (R43, R44, R59). -/
theorem test_close_falls_back : let t := run .periodClose atClose
    (t.planList 0).fallback = some .builtin ∧ (t.rate 0).lastFinal = some 900
      ∧ (t.seq 0).pendingTiming = some { slotInterval := 40, greenTime := 10, vehiclesPerGreen := 1 }
      ∧ t.corridorRate.heldCount = 1 ∧ classIn .fallback (t.port .centre).pending = true := by decide +kernel

/-- A stage with margin 100 over its floor. -/
def stageOf100 (coordinated : Bool) : Stage5 :=
  { coordinated, limits := limitsOf SafetyRec.builtin plan8 1, localRate := 500, queueRate := none, desired := 500, floor := 400,
    limited := false, clamped := false }
/-- Two coordinated ramps and one that is not. -/
def stages : Stage5s := ⟨[some (stageOf100 true), some (stageOf100 true), some (stageOf100 false), none, none, none], rfl⟩

theorem test_meets_RatesStayWithinTheirLimits : stages.get 0 = some (stageOf100 true)
    ∧ (∀ r, ∀ y ∈ stages.get r, y.floor ≤ y.desired) ∧ 0 < 900 ∧ 900 ≤ timingCap 1 35
    ∧ plan8.mode = .feedback ∧ { plan8 with mode := .fixed }.mode = .fixed ∧ 0 < plan8.flushPeriods
    ∧ (let t := run .periodClose atClose
       atClose.running ∧ 3000 ≤ atClose.timer.samples
       ∧ ((State.closeStages atClose.settleLoops.closeLoops.useCorridor t).get 0).isSome
       ∧ (State.closeStages atClose.settleLoops.closeLoops.useCorridor t).get 1 = none) := by decide +kernel
/-- An excess of 51 over two margins of 100: 25 each, and the remainder of 1 from ramp 1 (R58). -/
theorem test_share_of_51 : finalRateOf true 949 stages 0 (stageOf100 true) = 474 ∧ sumDesired stages = 1000 := by decide +kernel
theorem test_meets_CoordinationSharesTheExcess : (∀ r, ∀ y ∈ stages.get r, y.floor ≤ y.desired)
    ∧ (stageOf100 false).coordinated = false ∧ sumDesired stages ≤ 1000
    ∧ (850 < sumDesired stages ∧ sumDesired stages < 850 + sumMargins stages)
    ∧ (800 < sumDesired stages ∧ 800 + sumMargins stages ≤ sumDesired stages)
    ∧ atClose.running ∧ 3000 ≤ atClose.timer.samples ∧ (bottleneckResult (atClose.loops.map Loop.value)).occupancy = none
    ∧ (bottleneckResult ((atClose.loops.map Loop.value).set 0
        { ident := some { role := .bottleneck, ramp := none, lane := some 1 }, onSamples := 300, count := 9, valid := true
          testSeen := false })).occupancy = some 100
    ∧ corridor12.coordinationEnable = false ∧ { corridor12 with coordinationEnable := true }.coordinationEnable = true := by
  decide +kernel

theorem test_meets_CalendarCountsSeconds : DateTime.epoch.wf = true ∧ (DateTime.wf ⟨99, 12, 31, 23, 59, 59⟩) = true
    ∧ DateTime.epoch.instant = DateTime.epoch.instant := by decide +kernel

/-- The last Sunday of March 2001, one second before 02:00. -/
def eve : DateTime := { year := 1, month := 3, day := 25, hour := 1, minute := 59, second := 59 }
def shiftRec : ShiftRec := { month := 3, week := .last, weekday := 7, hour := 2, direction := .forward, appliedYear := none }
def sixThirty : ScheduleRec := { dayMask := 0x7F, hour := 6, minute := 30, rampMask := 1, action := .plan 7 }
def benchClock (c : DateTime) (valid : Bool) : State :=
  { bench with retained := { bench.retained with clock := c, clockValid := valid, phase := 100 }
               memory := { bench.memory with shifts := ⟨[some shiftRec, none], rfl⟩
                                             schedule := bench.memory.schedule.set 47 (some sixThirty) } }

theorem test_meets_ClockAdvanceFollowsTheSchedule : bench.running ∧ bench.retained.phase < 100
    ∧ 100 ≤ (benchClock eve false).retained.phase ∧ (benchClock eve false).retained.clockValid = false
    ∧ DateTime.epoch.nextSecond.second ≠ 0 ∧ (benchClock eve true).retained.clockValid = true
    ∧ (let n := eve.nextSecond
       n.second = 0 ∧ n.minute = 0 ∧ (benchClock eve true).readableShift 0 = some shiftRec ∧ shiftRec.applies n = true)
    ∧ (let n := DateTime.nextSecond ⟨1, 1, 1, 6, 29, 59⟩
       n.second = 0 ∧ n.minute ≠ 0 ∧ (benchClock eve true).readableSchedule 47 = some sixThirty ∧ sixThirty.names 0 = true
       ∧ sixThirty.matchesMinute n = true)
    ∧ (benchClock eve true).memory.shifts.get 0 ≠ none := by decide +kernel
theorem test_meets_SetClockCatchesUp : bench.ready .centre ∧ bench.holder corridorRecord = some .centre
    ∧ DateTime.wf ⟨0, 2, 30, 0, 0, 0⟩ = false ∧ DateTime.wf ⟨99, 12, 31, 23, 59, 59⟩ = true
    ∧ (benchClock eve true).readableSchedule 47 = some sixThirty ∧ sixThirty.names 0 = true ∧ sixThirty.names 1 = false
    ∧ (sixThirty.age (DateTime.minuteOfWeek ⟨99, 12, 31, 23, 59, 59⟩)).isSome
    ∧ (ScheduleRec.age { sixThirty with dayMask := 0 } 0) = none := ⟨test_ready _, by decide +kernel⟩

theorem test_demands_slot : (warned.planList 0).demanded = some (.slot 7) ∧ warned.readablePlan 7 = some plan8 := by decide +kernel

theorem test_meets_MeteringStartsAtTheWarningsEnd : warned.running ∧ (warned.seq 0).state = .warning
    ∧ (warned.seq 0).warningTimer = some 0 ∧ (warned.seq 0).laneCount ≠ 0
    ∧ warned.corridorInUse.laneCount.get 0 = (warned.seq 0).laneCount ∧ (warned.planList 0).demanded = some (.slot 7)
    ∧ warned.readablePlan 7 = some plan8 ∧ (bench.seq 0).state ≠ .warning
    ∧ (let s := warned.setList 0 { hold := false, fallback := some .builtin, command := none, schedule := some (.plan 7) }
       (s.planList 0).demanded = some .builtin) := by decide +kernel
theorem test_meets_ClearancesGreensAndSignsEnd : cleared.running ∧ (bench.seq 0).state ≠ .ending
    ∧ ((cleared.seq 0).state = .ending ∧ (cleared.seq 0).clearanceTimer = some 0 ∧ (cleared.seq 0).pendingCount = none
      ∧ (cleared.seq 0).laneCount ≠ 0 ∧ (cleared.planList 0).demanded = none)
    ∧ (let s := cleared.setList 0 (warned.planList 0)
       (s.planList 0).demanded ≠ none ∧ (s.seq 0).supplyHold = false ∧ s.corridorInUse.laneCount.get 0 = (s.seq 0).laneCount)
    ∧ (bench.seq 0).state ≠ .metering
    ∧ ((greenDone.seq 0).state = .metering ∧ (greenDone.seq 0).lanes.get 0 = .green 0 ∧ (greenDone.seq 0).stopping = false
      ∧ (greenDone.seq 0).heldSlot = false)
    ∧ (let s := greenDone.modSeq 0 fun q => { q with stopping := true }
       (s.seq 0).stopping = true ∧ (s.seq 0).lanes.get 0 = .green 0 ∧ s.corridorInUse.laneCount.get 0 = (s.seq 0).laneCount)
    ∧ ((benchWith 0 fun q => { q with sign := .flashing true 50 }).seq 0).sign = .flashing true 50
    ∧ (bench.seq 0).sign = .off
    ∧ ((benchWith 0 fun q => { q with sign := .flashing false 49 }).seq 0).sign = .flashing false 49 := by decide +kernel

/-- Ramp 2 metering with both lanes served, the slot due. -/
def twoLanes : State := benchWith 1 fun q =>
  { q with state := .metering, lanes := ⟨[.red 200, .red 200], rfl⟩, slotTimer := some 0, redMinimum := some 20
           timing := some { slotInterval := 65, greenTime := 15, vehiclesPerGreen := 1 }
           checkIn := ⟨[some .present, some .unsupervised], rfl⟩, lastLane := some 0 }

/-- Both lanes served, a slot held because no vehicle was present. -/
def absentHeld : State := twoLanes.modSeq 1 fun q =>
  { q with slotTimer := none, heldSlot := true, lastLane := some 1, checkIn := ⟨[some .absent, some .absent], rfl⟩ }

theorem test_meets_SlotsGoToTheNextEligibleLane : twoLanes.running ∧ (twoLanes.seq 1).state = .metering
    ∧ (twoLanes.seq 1).eligible 1 = true ∧ (twoLanes.seq 1).eligible 0 = true ∧ (twoLanes.seq 1).lastLane = some 0
    ∧ (twoLanes.seq 1).pendingTiming = none ∧ (twoLanes.seq 1).timing.isSome ∧ (twoLanes.seq 1).slotTimer = some 0
    ∧ (metering.seq 0).eligible 0 = true ∧ (metering.seq 0).eligible 1 = false ∧ (metering.seq 0).lastLane = none
    ∧ (let q := { twoLanes.seq 1 with heldSlot := true, slotTimer := none }
       q.heldSlot = true ∧ q.redServed 1 = true ∧ q.slotTimer ≠ some 0)
    ∧ (let q := { twoLanes.seq 1 with lanes := ⟨[.green 0, .red 200], rfl⟩, heldSlot := true }
       q.lanes.get 0 = .green 0 ∧ q.stopping = false ∧ ({ q with lanes := q.lanes.set 0 (.red 0) } : Sequencer).eligible 1 = true)
    ∧ (let q := { twoLanes.seq 1 with lanes := ⟨[.red 199, .red 199], rfl⟩ }
       q.eligible 0 = false ∧ q.eligible 1 = false ∧ q.redServed 0 = false)
    ∧ (let q := { twoLanes.seq 1 with lanes := ⟨[.green 0, .red 100], rfl⟩, heldSlot := true }
       q.lanes.get 0 = .green 0 ∧ q.stopping = false ∧ ({ q with lanes := q.lanes.set 0 (.red 0) } : Sequencer).eligible 0 = false
       ∧ ({ q with lanes := q.lanes.set 0 (.red 0) } : Sequencer).eligible 1 = false)
    ∧ (let t := run (.sample dark []) bench
       t.checkInAt 0 0 = .unsupervised ∧ (bench.seq 0).state ≠ .metering)
    ∧ (let s := absentHeld
       let t := run (.sample dark []) s
       let u := (s.settle dark).tick
       s.running ∧ (u.seq 1).state = .metering ∧ (u.seq 1).heldSlot = true ∧ (u.seq 1).checkIn ≠ ⟨[some .unsupervised, some .unsupervised], rfl⟩
       ∧ t.checkInAt 1 0 = .unsupervised ∧ t.checkInAt 1 1 = .unsupervised
       ∧ (t.seq 1).lanes.get 0 = .green 150 ∧ (t.seq 1).heldSlot = false) := by decide +kernel
theorem test_meets_DemandIsFollowedInEveryState : (bench.seq 5).state = .unconfigured ∧ (bench.seq 0).laneCount ≠ 0
    ∧ (let q := { greenDone.seq 0 with pendingCount := some 2 }
       q.state = .metering ∧ q.pendingCount ≠ none ∧ (q.lanes.get 0).isGreen = true)
    ∧ (let q := { cleared.seq 0 with pendingCount := some 2 }
       q.state = .ending ∧ q.pendingCount ≠ none)
    ∧ bench.corridorInUse.laneCount.get 0 = (bench.seq 0).laneCount ∧ (bench.seq 0).pendingCount = none
    ∧ (bench.planList 0).demanded = none ∧ (bench.seq 0).state = .off ∧ (bench.seq 0).supplyHold = false
    ∧ ((benchWith 0 fun q => { q with state := .darkFault }).seq 0).state = .darkFault
    ∧ ((benchWith 0 fun q => { q with state := .warning }).planList 0).demanded = none
    ∧ ((benchWith 0 fun q => { q with state := .metering, lanes := ⟨[.green 9, .dark], rfl⟩ }).seq 0).lanes.get 0 = .green 9
    ∧ ((benchWith 0 fun q => { q with state := .metering, lanes := ⟨[.red 9, .dark], rfl⟩ }).seq 0).lanes.get 0 = .red 9
    ∧ (let s := bench.setList 0 (warned.planList 0)
       (s.planList 0).demanded = some (.slot 7) ∧ s.readablePlan 7 = some plan8 ∧ (s.seq 0).state = .off)
    ∧ (warned.seq 0).pendingCount = none ∧ (metering.seq 0).heldSlot = false ∧ (metering.seq 0).pendingCount = none
    ∧ (let s := cleared.setList 0 (warned.planList 0)
       (s.seq 0).state = .ending ∧ (s.seq 0).pendingCount = none ∧ s.readablePlan 7 = some plan8) := by decide +kernel
theorem test_meets_ListCommandsChangeTheirList : bench.ready .centre ∧ (1 : Byte).toNat = (0 : Ramp).val + 1
    ∧ bench.holder (rampRecord 0) = some .centre ∧ 7 ≤ (7 : Byte).toNat ∧ (33 ≤ (33 : Byte).toNat ∧ (33 : Byte) ≠ 0xFF)
    ∧ (bench.seq 0).state ≠ .unconfigured ∧ (bench.seq 5).state = .unconfigured ∧ (6 : Byte).toNat = (5 : Ramp).val + 1
    ∧ bench.holder (rampRecord 5) = some .centre ∧ (8 : Byte).toNat = (7 : PlanSlot).val + 1 ∧ bench.memory.plans.get 7 ≠ none
    ∧ bench.memory.plans.get 0 = none ∧ benchHeld.holder (rampRecord 0) = some .cabinet ∧ Port.cabinet ≠ .centre
    ∧ (warned.planList 0).governing ≠ (bench.planList 0).governing
    ∧ (PlanList.mk true none none none).governingPlan = none
    ∧ (let l : PlanList := { hold := false, fallback := none, command := some (.plan 7, .panel), schedule := none }
       l.governing ≠ (bench.planList 0).governing ∧ l.governingPlan = some 7 ∧ bench.readablePlan 7 ≠ none
       ∧ ({ l with fallback := none } : PlanList).demanded ≠ (bench.planList 0).demanded)
    ∧ (let l : PlanList := { hold := false, fallback := none, command := some (.plan 0, .panel), schedule := none }
       l.governing ≠ (bench.planList 0).governing ∧ l.governingPlan = some 0 ∧ bench.readablePlan 0 = none
       ∧ ({ l with fallback := some .builtin } : PlanList).demanded ≠ (bench.planList 0).demanded)
    ∧ (let l : PlanList := { hold := false, fallback := none, command := some (.off, .panel), schedule := none }
       l.governing ≠ (bench.planList 0).governing ∧ l.governingPlan = none ∧ l.demanded = (bench.planList 0).demanded) :=
  ⟨test_ready _, by decide +kernel⟩

/-- A SELECT of a damaged plan places FALLBACK 0 above it and the ramp warns under plan 0; WITHDRAW removes both (R74, R76, R77). -/
theorem test_select_damaged :
    let s := (bench.addError (.plan 7)).addError (.plan 7)
    let t := run (.select .centre 1 8) s
    let free := t.modPort .centre fun x => { x with current := none, answers := [] }
    (t.planList 0).fallback = some .builtin ∧ (t.seq 0).state = .warning ∧ t.memory.damagedList = [.plan 7]
      ∧ (run (.withdraw .centre 1) free).planList 0 = { hold := false, fallback := none, command := none, schedule := none } := by
  decide +kernel
theorem test_meets_PanelPressesActOnTheirRamp : bench.running ∧ (bench.button 0).shortDue = false ∧ (bench.button 0).holdDue = false
    ∧ ((bench.setButton 0 { Button.start with shortDue := true }).button 0).shortDue = true
    ∧ ((bench.setButton 5 { Button.start with holdDue := true }).button 5).holdDue = true ∧ (bench.seq 5).state = .unconfigured
    ∧ (metering.seq 0).state = .metering ∧ (metering.seq 0).pendingCount = none ∧ (metering.seq 0).laneCount ≠ 0
    ∧ (bench.seq 0).state = .off := by decide +kernel

/-- An incident that waits, and two incident records. -/
def waiting : Qualified := { ramp := 0, lane := 1, kind := .greenOut, commanded := .green, sensed := .none }
def recordOfRank (k : Rank) : IncidentRec :=
  { kind := .test, rank := k, ramp := 0, lane := 1, stamp := none, commanded := .none, sensed := .none, later := 255 }

theorem test_meets_IncidentsDarkenTheirRamp : (recordOfRank .low).rank = .low ∧ (recordOfRank .high).rank = .high
    ∧ ([waiting].find? (fun q => q.ramp = 0 && q.lane = 1 && q.kind = .greenOut)) = some waiting ∧ bench.ready .service
    ∧ (bench.seq 0).state ≠ .unconfigured ∧ (2 : Byte).toNat = (1 : LaneNo).val + 1 ∧ bench.qualified = []
    ∧ (bench.seq 0).state = .off ∧ (bench.seq 5).state = .unconfigured ∧ (bench.seq 0).supplyHold = false
    ∧ 7 ≤ (7 : Byte).toNat ∧ 3 ≤ (3 : Byte).toNat ∧ 2 ≤ (2 : Byte).toNat ∧ bench.holder corridorRecord = some .centre
    ∧ bench.holder (rampRecord 0) = some .centre
    ∧ (let s := (benchWith 0 fun q => { q with state := .darkFault }).setLamp 0 1 (LaneMonitor.afresh .both)
       (s.seq 0).state = .darkFault ∧ (s.lamp 0 1).sensed = .both)
    ∧ (let s := benchWith 0 fun q => { q with state := .darkFault }
       (s.lamp 0 0).sensed = .none ∧ (s.lamp 0 1).sensed = .none ∧ (s.seq 0).pendingCount = none ∧ (s.seq 0).laneCount ≠ 0
       ∧ (s.planList 0).demanded = none)
    ∧ (let s := (benchWith 0 fun q => { q with state := .darkFault }).setList 0 (warned.planList 0)
       (s.planList 0).demanded ≠ none ∧ (s.seq 0).supplyHold = false ∧ s.corridorInUse.laneCount.get 0 = (s.seq 0).laneCount)
    ∧ ((benchWith 0 fun q => { q with state := .darkFault, laneCount := 0 }).seq 0).laneCount = 0 := by
  refine ⟨rfl, rfl, by decide, test_ready _, ?_⟩
  decide +kernel

theorem test_meets_SupplyFailHoldsEveryRamp : bench.running ∧ bench.supply.sampled = false
    ∧ (let s := { metering with supply := { metering.supply with sampled := true } }
       s.running ∧ s.supply.sampled = true ∧ s.supply.input = false ∧ (s.seq 0).state = .metering ∧ (s.seq 0).pendingCount = none
       ∧ (s.seq 0).laneCount ≠ 0 ∧ (s.seq 1).state = .off ∧ (s.seq 5).state = .unconfigured) := by decide +kernel
theorem test_meets_SupplyRestartRebuilds : bench.running ∧ bench.supply.input = false
    ∧ (let s := { bench with supply := { bench.supply with input := true } }
       s.running ∧ s.supply.sampled = false ∧ s.supply.input = true ∧ s.retained.clockValid = false
       ∧ s.retained.faultDark.get 0 = false)
    ∧ (bench.setFaultDark 0 true).retained.faultDark.get 0 = true := by decide +kernel
theorem test_meets_ColdRestartsStartEveryBlock : bench.supply.power ≠ .unpowered ∧ bench.supply.power ≠ .heldAtReset
    ∧ (let s := (bench.setPower .unpowered).setResetLine true
       s.supply.power = .unpowered ∧ s.supply.resetLine = true)
    ∧ (let s := bench.setPower .unpowered
       s.supply.power = .unpowered ∧ s.supply.resetLine = false ∧ s.retained.valid = true)
    ∧ (bench.setPower .heldAtReset).supply.power = .heldAtReset ∧ (bench.setPower .unpowered).batterySupplyLow.retained.valid = false
    ∧ (∀ i, (bench.memory.health.get i).check = .good)
    ∧ (∀ i : Fin 3, 0 < bench.memory.corridor.lapseTime.get i) := by decide +kernel
theorem test_meets_WarmRestartKeepsItsState : bench.ready .centre ∧ bench.holder corridorRecord = some .centre ∧ bench.running
    ∧ bench.supply.warmDue = false ∧ (run (.answerSent .centre) (run (.warmRestart .centre) bench)).supply.warmDue = true
    ∧ bench.retained.faultDark.get 0 = false ∧ bench.corridorInUse.laneCount.get 0 ≠ 0 ∧ bench.corridorInUse.laneCount.get 5 = 0
    ∧ (∀ i : Fin 3, 0 < bench.corridorInUse.lapseTime.get i) ∧ bench.retained.clockValid = false
    ∧ (bench.setFaultDark 0 true).retained.faultDark.get 0 = true := ⟨test_ready _, by decide +kernel⟩
theorem test_meets_StoppingLeavesTheRetainedStore : bench.supply.power = .running ∧ (bench.setPower .unpowered).supply.power ≠ .running
    ∧ (bench.setPower .unpowered).supply.power = .unpowered ∧ bench.supply.power ≠ .unpowered := by decide +kernel

end Sys2Proof.Tests
end

section
/-! SUPPORT. What the requests and events of a link port do to its Pending Set and to the Watch Set: the class sets, the answers that
leave them alone, and a port whose places for requests are both taken (R184, R188 to R191). -/

namespace Sys2Proof.Machine

/-! ### Class sets (R189, R194) -/

theorem EventClass.place_lt (c : EventClass) : c.place < 12 := by cases c <;> decide

/-- Every bit of a class set is the place of a class (R194). -/
theorem EventClass.exists_place {i : Nat} (h : i < 12) : ∃ c : EventClass, c.place = i := by
  have all : ∀ j : Fin 12, ∃ c ∈ [EventClass.loopFault, .stationData, .rampState, .fallback, .authority, .incident, .allowance,
      .queue, .memory, .schedule, .restart, .period], c.place = j.val := by decide
  obtain ⟨c, -, hc⟩ := all ⟨i, h⟩
  exact ⟨c, hc⟩

/-- A class set is empty exactly when it holds no class. -/
theorem classSet_ne_zero_iff (cs : ClassSet) : cs ≠ 0 ↔ ∃ c, classIn c cs = true := by
  constructor
  · intro h
    by_contra none
    push Not at none
    refine h (BitVec.eq_of_getLsbD_eq fun i hi => ?_)
    obtain ⟨c, rfl⟩ := EventClass.exists_place hi
    simpa [classIn] using none c
  · rintro ⟨c, hc⟩ rfl
    simp [classIn] at hc

/-- A class already present stays present once (R189). -/
theorem addClass_of_classIn {c : EventClass} {cs : ClassSet} (h : classIn c cs = true) : addClass c cs = cs := by
  refine BitVec.eq_of_getLsbD_eq fun i hi => ?_
  obtain ⟨d, rfl⟩ := EventClass.exists_place hi
  change classIn d (addClass c cs) = classIn d cs
  rw [State.classIn_addClass]
  by_cases e : d = c
  · subst e; simp [h]
  · simp [e]

/-- The first class to join an emptied set stands there alone. -/
theorem addClass_zero (c : EventClass) : addClass c 0 = BitVec.twoPow 12 c.place := BitVec.zero_or

/-- The twelve low bits of a WATCH payload are the classes it names. -/
theorem classIn_setWidth (c : EventClass) (cs : BitVec 16) : classIn c (cs.setWidth 12) = cs.getLsbD c.place := by
  simp [classIn, c.place_lt]

/-- The upper four bits of a WATCH payload are clear exactly when it is below 4096. -/
theorem toNat_lt_iff_upper_clear (cs : BitVec 16) : cs.toNat < 4096 ↔ ∀ i, 12 ≤ i → cs.getLsbD i = false := by
  constructor
  · intro h i hi
    exact Nat.testBit_lt_two_pow (h.trans_le (Nat.pow_le_pow_right (by decide) hi : 2 ^ 12 ≤ 2 ^ i))
  · intro h
    exact Nat.lt_pow_two_of_testBit (n := 12) cs.toNat h

/-- The mask of WATCH finds AUTHORITY and the upper four bits, and nothing else (R191, R194). -/
theorem watchMask_eq_zero_iff (cs : BitVec 16) : cs &&& 0xF010 = 0 ↔ cs.getLsbD 4 = false ∧ cs.toNat < 4096 := by
  have mask : ∀ i < 16, (0xF010 : BitVec 16).getLsbD i = decide (i = 4 ∨ 12 ≤ i) := by decide
  rw [toNat_lt_iff_upper_clear]
  constructor
  · intro h
    have bit (i : Nat) (hi : i < 16) (hm : i = 4 ∨ 12 ≤ i) : cs.getLsbD i = false := by
      have e : (cs &&& 0xF010).getLsbD i = false := by rw [h]; simp
      rwa [BitVec.getLsbD_and, mask i hi, decide_eq_true hm, Bool.and_true] at e
    refine ⟨bit 4 (by decide) (.inl rfl), fun i hi => ?_⟩
    by_cases lt : i < 16
    · exact bit i lt (.inr hi)
    · exact BitVec.getLsbD_of_ge cs i (by omega)
  · rintro ⟨h4, hu⟩
    refine BitVec.eq_of_getLsbD_eq fun i hi => ?_
    rw [BitVec.getLsbD_and, mask i hi]
    by_cases hm : i = 4 ∨ 12 ≤ i
    · have clear : cs.getLsbD i = false := hm.elim (fun e => e ▸ h4) (hu i)
      rw [clear]; simp
    · simp [hm]

namespace State

variable (s : State)

/-! ### Delivery and the Attention Line (R189) -/

theorem pending_deliver_self (c : EventClass) (p : Port) :
    ((s.deliver c p).port p).pending = addClass c (s.port p).pending := by
  rw [deliver, port_modPort_self]

theorem answers_deliver_self (c : EventClass) (p : Port) : ((s.deliver c p).port p).answers = (s.port p).answers := by
  rw [deliver, port_modPort_self]

theorem attention_iff (p : Port) : s.attention p = true ↔ ∃ c, classIn c (s.port p).pending = true := by
  rw [← classSet_ne_zero_iff]
  simp [attention]

theorem attention_deliver (c : EventClass) (p : Port) : (s.deliver c p).attention p = true :=
  (attention_iff _ p).2 ⟨c, by simp [pending_deliver]⟩

/-- A class that is pending is not delivered a second time. -/
theorem deliver_of_pending {c : EventClass} {p : Port} (h : classIn c (s.port p).pending = true) : s.deliver c p = s :=
  modPort_same s p _ (by rw [addClass_of_classIn h])

/-! ### Arrivals and answers leave the Pending Set alone (R184) -/

theorem pending_arrived (p : Port) (q : Req) : ((s.arrived p q).port p).pending = (s.port p).pending := by
  rw [arrived, port_modPort_self]

theorem pending_answered (p : Port) (q : Req) (st : Status) (payload : Payload) :
    ((s.answered p q st payload).port p).pending = (s.port p).pending := by
  rw [answered, port_modPort_self]

/-! ### TAKE_EVENTS and WATCH at their block (R190, R191) -/

theorem takeRequest_takeEvents (p : Port) (i : Byte) : s.takeRequest p (.takeEvents i)
    = (s.modPort p fun x => { x with pending := 0 }).answered p (.takeEvents i) .done
        (.bytes (classBytes (s.port p).pending)) :=
  takeRequest_reply (x := s.takeEvents p) (perform_owner rfl rfl rfl) nofun

theorem watch_accepted {cs : BitVec 16} (h : cs.getLsbD 4 = false ∧ cs.toNat < 4096) :
    s.watch cs = .done { s with router := { s.router with watch := cs.setWidth 12 } } := by
  rw [watch, if_neg (not_not.2 ((watchMask_eq_zero_iff cs).2 h))]

theorem watch_refused {cs : BitVec 16} (h : cs.getLsbD 4 = true ∨ 4096 ≤ cs.toNat) : s.watch cs = .refuse .badValue s := by
  have out : ¬ (cs.getLsbD 4 = false ∧ cs.toNat < 4096) := by
    rintro ⟨h4, hu⟩
    obtain h | h := h
    · rw [h4] at h; cases h
    · omega
  rw [watch, if_pos (mt (watchMask_eq_zero_iff cs).1 out)]

/-- The service port's WATCH reaches the Event Router: it needs no authority (R148, R191). -/
theorem perform_watch_service (cs : BitVec 16) : s.perform .service (.watch 0 cs) = s.watch cs := perform_owner rfl rfl rfl

/-- A request that its kind keeps from this port is refused before its block sees it (R148). -/
theorem perform_notOnPort {p : Port} {q : Req} (hw : q.wf = true) (hp : portAllows p q = false) :
    s.perform p q = .refuse .notOnPort s := by
  simp [perform, hw, hp]

/-- A refused request changes nothing but its port's own items. -/
theorem exec_ready_refuse {s : State} {c : Instr} {p : Port} {q : Req} (hc : c.request = some (p, q)) (h : s.ready p)
    (hw : q ≠ .warmRestart q.indexByte) {st : Status} (hx : (s.arrived p q).perform p q = .refuse st (s.arrived p q)) :
    exec c s = s.refusal p q st := exec_ready_reply hc h hw hx

/-! ### A port whose places are both taken (R184) -/

/-- The port is ACTIVE and has a Current and a Waiting Request, so that it answers a further one BUSY; `cs` is pending there. -/
structure Occupied (q r : Req) (cs : ClassSet) (x : LinkPort) : Prop where
  active : x.silent = false
  current : x.current = some q
  waiting : x.waiting = some r
  pending : x.pending = cs

variable {s} {p : Port} {q r : Req} {cs : ClassSet}

/-- A valid frame at an ACTIVE port restarts its Silence Timer and nothing else (R145). -/
theorem heard_active (h : (s.port p).silent = false) :
    s.heard p = s.modPort p fun x => { x with silenceSeconds := 0, silencePart := 0 } := by
  simp [heard, h]

theorem place_busy (h : Occupied q r cs (s.port p)) (q' : Req) :
    s.place p q' = s.pushAnswer p (answerTo q' .busy .empty .busy) := by
  simp only [place, h.current, h.waiting]

theorem Occupied.modPort (h : Occupied q r cs (s.port p)) {f : LinkPort → LinkPort}
    (hf : ∀ x, Occupied q r cs x → Occupied q r cs (f x)) : Occupied q r cs ((s.modPort p f).port p) := by
  rw [port_modPort_self]; exact hf _ h

theorem Occupied.setReceiver (h : Occupied q r cs (s.port p)) (x : Receiver) :
    Occupied q r cs ((s.setReceiver p x).port p) :=
  h.modPort fun _ o => ⟨o.active, o.current, o.waiting, o.pending⟩

/-- A further request is answered BUSY, or its frame discarded with a full Answer Queue; neither takes anything (R183, R184). -/
theorem Occupied.submit (h : Occupied q r cs (s.port p)) (q' : Req) : Occupied q r cs ((s.submit p q').port p) := by
  have hunting : Occupied q r cs ((s.setReceiver p .hunting).port p) := h.setReceiver _
  change Occupied q r cs (State.port (if _ then s.setReceiver p .hunting else ((s.setReceiver p .hunting).heard p).place p q') p)
  split
  · exact hunting
  · have heard : Occupied q r cs (((s.setReceiver p .hunting).heard p).port p) := by
      rw [heard_active hunting.active]
      exact hunting.modPort fun _ o => ⟨o.active, o.current, o.waiting, o.pending⟩
    rw [place_busy heard]
    exact heard.modPort fun _ o => ⟨o.active, o.current, o.waiting, o.pending⟩

theorem Occupied.badLength (h : Occupied q r cs (s.port p)) : Occupied q r cs ((s.badLength p).port p) := by
  unfold State.badLength
  split
  · split
    · exact h.setReceiver _
    · exact h
  · exact h

theorem Occupied.frameComplete (h : Occupied q r cs (s.port p)) : Occupied q r cs ((s.frameComplete p).port p) := by
  unfold State.frameComplete
  split
  · split
    · split
      · exact h.submit _
      · exact h.setReceiver _
    · exact h
  · exact h

theorem Occupied.interByteTimeout (h : Occupied q r cs (s.port p)) : Occupied q r cs ((s.interByteTimeout p).port p) := by
  unfold State.interByteTimeout
  split
  · split
    · exact h.setReceiver _
    · exact h
  · exact h

/-- A request row at such a port, with whatever frame waits there before it. -/
theorem Occupied.requestRow (h : Occupied q r cs (s.port p)) (q' : Req) : Occupied q r cs ((s.requestRow p q').port p) :=
  (h.badLength.frameComplete.interByteTimeout).submit q'

end State
end Sys2Proof.Machine
end

section
/-! PROOFS. The statements about link ports and event notices (R189 to R191). -/

namespace Sys2Proof.Machine

open State

/-- Settles O19: R189, from what delivery does to the membership of each class. -/
theorem deliveryFillsThePendingSet : Obligations.DeliveryFillsThePendingSet := by
  intro c p s
  refine ⟨rfl, ?_, fun d hd => ?_, s.deliver_of_pending, s.attention_deliver c p, s.attention_iff p⟩
  · simp [pending_deliver]
  · simp [pending_deliver, hd]

/-- TAKE_EVENTS at a port that takes it at once, and the events that follow it (R190). -/
theorem takeEvents_ready {p : Port} {s : State} (h : s.ready p) : ∃ t, exec (.takeEvents p) s = .next t
    ∧ t = ((s.arrived p (.takeEvents 0)).modPort p fun x => { x with pending := 0 }).answered p (.takeEvents 0) .done
        (.bytes (classBytes (s.port p).pending))
    ∧ t.attention p = false
    ∧ ∀ c, ((t.deliver c p).port p).pending = BitVec.twoPow 12 c.place ∧ (t.deliver c p).attention p = true
        ∧ ((t.deliver c p).port p).answers = (t.port p).answers := by
  refine ⟨_, by rw [exec_ready rfl h, takeRequest_takeEvents, pending_arrived], rfl, ?_, fun c => ⟨?_, attention_deliver _ c p,
    answers_deliver_self _ c p⟩⟩
  · simp [attention, pending_answered]
  · rw [pending_deliver_self, pending_answered, port_modPort_self, addClass_zero]

/-- TAKE_EVENTS answered BUSY leaves the Pending Set as it is (R190). -/
theorem takeEvents_busy {p : Port} {s : State} {q r : Req} (hr : s.running) (ha : (s.port p).silent = false)
    (hc : (s.port p).current = some q) (hw : (s.port p).waiting = some r) :
    ∃ t, exec (.takeEvents p) s = .next t ∧ (t.port p).pending = (s.port p).pending := by
  have occupied : Occupied q r (s.port p).pending (s.port p) := ⟨ha, hc, hw, rfl⟩
  exact ⟨_, by rw [exec_request rfl, whenRunning_runs hr], (occupied.requestRow _).pending⟩

/-- Settles O20: R190, the taking and the BUSY answer each by its own lemma. -/
theorem takeEventsEmptiesThePendingSet : Obligations.TakeEventsEmptiesThePendingSet := fun p s =>
  ⟨fun i => s.takeRequest_takeEvents p i, takeEvents_ready, fun _ _ hr ha _ hc hw => takeEvents_busy hr ha hc hw⟩

/-- An accepted WATCH: the Watch Set is replaced, and nothing pending is lost (R191). -/
theorem watch_service_accepted {cs : BitVec 16} {s : State} (h : s.ready .service)
    (hcs : cs.getLsbD 4 = false ∧ cs.toNat < 4096) : ∃ t, exec (.watch .service cs) s = .next t
    ∧ t = { s.arrived .service (.watch 0 cs) with router := { s.router with watch := cs.setWidth 12 } }.answered
        .service (.watch 0 cs) .done .empty
    ∧ (t.port .service).pending = (s.port .service).pending
    ∧ ∀ c, t.delivers c .service = cs.getLsbD c.place := by
  have reply := (perform_watch_service (s.arrived .service (.watch 0 cs)) cs).trans (watch_accepted _ hcs)
  refine ⟨_, exec_ready_reply rfl h (by nofun) reply, rfl, ?_, fun c => ?_⟩
  · rw [pending_answered]
    exact pending_arrived s .service _
  · exact classIn_setWidth c cs

/-- Settles O21: R191, by the port check of R148 and then by the mask of WATCH. -/
theorem watchReplacesTheWatchSet : Obligations.WatchReplacesTheWatchSet := by
  intro cs s
  refine ⟨fun p hp h => ?_, fun h => ⟨fun h4 hu => watch_service_accepted h ⟨h4, hu⟩, fun hbad => ?_⟩⟩
  · exact exec_ready_refuse rfl h (by nofun) (perform_notOnPort _ rfl (by simp [portAllows, hp]))
  · exact exec_ready_refuse rfl h (by nofun) ((perform_watch_service _ cs).trans (watch_refused _ hbad))

end Sys2Proof.Machine
end

section
/-! PROOFS. The statements about every step: the queue, the part that does not run, the three invariants and the locked safety table
(R72, R84, R102, R117, R126, R167, R175). Each follows from one lemma, what any command carries over. -/

namespace Sys2Proof.Machine

open State

/-- What every command carries over, a COLD restart's release of the Safety Lock left out (R170). -/
structure CarriesOver (s t : State) : Prop where
  lists : s.listsOrdered → t.listsOrdered
  lamps : s.lampsDisciplined → t.lampsDisciplined
  calendar : s.calendarSound → t.calendarSound
  queue : t.pending = s.pending

theorem State.Carries.weaken {s t : State} (h : s.Carries t) : CarriesOver s t := ⟨h.lists, h.lamps, h.calendar, h.queue⟩

theorem coldRestart_over (k : RestartKind) (inp : Inputs) (straps : Straps) (off : Nat) (s : State) :
    CarriesOver s (s.coldRestart k inp straps off) :=
  have h := cold_carries (s := s) k inp straps off
  ⟨h.1, h.2.1, h.2.2.1, h.2.2.2⟩

theorem coldPower_over (inp : Inputs) (straps : Straps) (off : Nat) (s : State) : CarriesOver s (s.coldPower inp straps off) := by
  unfold coldPower
  split
  · split
    · exact ((carries_clockRan off).trans (carries_setPower .heldAtReset)).weaken
    · exact coldRestart_over _ _ _ _ _
  · exact (Carries.refl s).weaken

theorem coldLine_over (inp : Inputs) (straps : Straps) (off : Nat) (s : State) : CarriesOver s (s.coldLine inp straps off) := by
  unfold coldLine
  split
  · exact coldRestart_over _ _ _ _ _
  · exact (carries_setResetLine false).weaken

/-- A command whose effect is held back while the part does not run. -/
theorem carried_whenRunning {f : State → State} {s : State} (h : s.Carries (f s)) :
    ∃ t, Host.Outcome.next (φ := Fault) (ρ := Refusal) (s.whenRunning f) = .next t ∧ s.Carries t :=
  ⟨_, rfl, carries_whenRunning h⟩

/-- Every command but a COLD restart answers a next state, to which the three invariants, the queue and a locked safety table are
carried over. -/
theorem exec_carries (c : Instr) (s : State) (h : c.isCold = false) : ∃ t, exec c s = .next t ∧ s.Carries t := by
  cases hq : c.request with
  | some pq => exact ⟨_, exec_request hq s, carries_whenRunning (carries_requestRow _ _)⟩
  | none =>
    cases c with
    | sample inp first => exact carried_whenRunning (carries_sample inp first)
    | stuckOnEntry l => exact carried_whenRunning (s.carries_stuckOnEntry l)
    | stuckOnClear l => exact carried_whenRunning (s.carries_stuckOnClear l)
    | silenceEntry l => exact carried_whenRunning (s.carries_silenceEntry l)
    | chatterSecondJudgement => exact carried_whenRunning s.carries_chatterSecondJudgement
    | testPresenceEnd l => exact carried_whenRunning (s.carries_testPresenceEnd l)
    | periodClose => exact carried_whenRunning carries_periodClose
    | scrubRead => exact carried_whenRunning s.carries_scrubRead
    | storageFault id => exact ⟨_, rfl, s.carries_addError id⟩
    | clockAdvance => exact carried_whenRunning carries_clockAdvance
    | warningTimerExpiry r => exact carried_whenRunning (s.carries_warningTimerExpiry r)
    | clearanceTimerExpiry r => exact carried_whenRunning (s.carries_clearanceTimerExpiry r)
    | slotExpiry r => exact carried_whenRunning (s.carries_slotExpiry r)
    | greenEnd r ln => exact carried_whenRunning (s.carries_greenEnd r ln)
    | redMinimumReached r ln => exact carried_whenRunning (s.carries_redMinimumReached r ln)
    | signPhaseChange r => exact carried_whenRunning (s.carries_signPhaseChange r)
    | incidentQualifies r ln k => exact carried_whenRunning (s.carries_incidentQualifies r ln k)
    | panelShortPress r => exact carried_whenRunning (s.carries_panelShortPress r)
    | panelLongHold r => exact carried_whenRunning (s.carries_panelLongHold r)
    | supplyFailAsserted => exact carried_whenRunning carries_supplyFailAsserted
    | supplyRestart => exact carried_whenRunning carries_supplyRestart
    | resetLineAsserted => exact ⟨_, rfl, carries_resetLineAsserted⟩
    | warmRestartTaken inp => exact carried_whenRunning (carries_warmRestartTaken inp)
    | portLapse p => exact carried_whenRunning (carries_portLapse p)
    | badLength p => exact carried_whenRunning (carries_badLength p)
    | interByteTimeout p => exact carried_whenRunning (carries_interByteTimeout p)
    | frameComplete p => exact carried_whenRunning (carries_frameComplete p)
    | answerSent p => exact carried_whenRunning (carries_answerSent p)
    | byteReceived p b => exact carried_whenRunning (carries_byteReceived p b)
    | mainSupplyLost => exact ⟨_, rfl, carries_mainSupplyLost⟩
    | batterySupplyLow => exact ⟨_, rfl, carries_batterySupplyLow⟩
    | _ => cases hq <;> cases h

/-- What every command does, the COLD restarts included. -/
theorem exec_over (c : Instr) (s : State) : ∃ t, exec c s = .next t ∧ CarriesOver s t := by
  cases h : c.isCold with
  | false => exact (exec_carries c s h).imp fun _ ⟨e, carried⟩ => ⟨e, carried.weaken⟩
  | true =>
    cases c with
    | coldPower inp straps off => exact ⟨_, rfl, coldPower_over inp straps off s⟩
    | coldLine inp straps off => exact ⟨_, rfl, coldLine_over inp straps off s⟩
    | _ => cases h

/-- A step is the command at the front, on the state without it, or nothing. -/
theorem step_cases {s t : State} (h : step s = .next t) :
    t = s ∨ ∃ c rest, s.pending = c :: rest ∧ exec c { s with pending := rest } = .next t := by
  unfold step at h
  split at h
  next => exact .inl (Host.Outcome.next.inj h).symm
  next c rest e => exact .inr ⟨c, rest, e, h⟩

/-- A predicate that every command carries over, and that does not look at the queue, is kept by every step. -/
theorem step_keeps {P : State → Prop} (carried : ∀ s t, CarriesOver s t → P s → P t) {s t : State}
    (blind : ∀ q, P s → P { s with pending := q }) (hs : P s) (h : step s = .next t) : P t := by
  obtain rfl | ⟨c, rest, -, e⟩ := step_cases h
  · exact hs
  · obtain ⟨u, eu, hu⟩ := exec_over c { s with pending := rest }
    obtain rfl := Host.Outcome.next.inj (e.symm.trans eu)
    exact carried _ _ hu (blind rest hs)

/-- Settles O4: a step lemma; every command carries the order of R72 over. -/
theorem stepKeepsListsOrdered : Obligations.StepKeepsListsOrdered := fun _ _ hs h =>
  step_keeps (P := State.listsOrdered) (fun _ _ h => h.lists) (fun _ h => h) hs h

/-- Settles O5: a step lemma for R102 and R117; the outputs by cases of the lane state (R126). -/
theorem stepKeepsLampsDisciplined : Obligations.StepKeepsLampsDisciplined := by
  refine ⟨fun s t hs h => step_keeps (P := State.lampsDisciplined) (fun _ _ h => h.lamps) (fun _ h => h) hs h, fun s r ln => ?_⟩
  unfold commanded
  cases (s.seq r).lanes.get ln <;> exact ⟨rfl, rfl⟩

/-- Settles O6: a step lemma; every command carries the calendar of R84 and R85 over. -/
theorem stepKeepsCalendar : Obligations.StepKeepsCalendar := fun _ _ hs h =>
  step_keeps (P := State.calendarSound) (fun _ _ h => h.calendar) (fun _ h => h) hs h

/-- Settles O2: every command carries the queue over. -/
theorem commandsCompleteAndKeepTheQueue : Obligations.CommandsCompleteAndKeepTheQueue := fun c s =>
  (exec_over c s).imp fun _ ⟨e, h⟩ => ⟨e, h.queue⟩

/-- Settles O8: every command but a COLD restart carries a locked safety table over (R167). -/
theorem lockedSafetyTableStands : Obligations.LockedSafetyTableStands := by
  intro c s t hc hl h
  obtain ⟨u, e, carried⟩ := exec_carries c s hc
  obtain rfl := Host.Outcome.next.inj (h.symm.trans e)
  exact carried.lock hl

/-- A command other than those of `actsStopped` is a change that only a running part makes. -/
theorem exec_whenRunning {c : Instr} (h : c.actsStopped = false) : ∃ f : State → State, ∀ s, exec c s = .next (s.whenRunning f) := by
  cases c <;> cases h <;> exact ⟨_, fun _ => rfl⟩

/-- Settles O3: on a part that does not run such a command's change is not made (R175). -/
theorem stoppedPartIgnoresCommands : Obligations.StoppedPartIgnoresCommands := by
  intro c s hs hc
  obtain ⟨f, hf⟩ := exec_whenRunning hc
  rw [hf, whenRunning, if_neg hs]

/-- Settles O1: by the two cases of the queue. -/
theorem stepTakesTheFront : Obligations.StepTakesTheFront := by
  refine ⟨fun c rest s h => ?_, fun s h => ?_⟩
  · simp only [step, h, setPending]
  · simp only [step, h]

end Sys2Proof.Machine
end

section
/-! PROOFS. The statements about frames and encodings (R182, R185, R194). -/

namespace Sys2Proof

/-! ### Codes and payloads (R194) -/

@[simp] theorem ObjectKind.ofCode_code (o : ObjectKind) : ObjectKind.ofCode o.code = some o := by cases o <;> rfl

@[simp] theorem RecKind.recKind_object (k : RecKind) : k.object.recKind = some k := by cases k <;> rfl

/-- The two bytes of a class set spell it. -/
theorem append_bytes (x : BitVec 16) : x.extractLsb' 8 8 ++ x.extractLsb' 0 8 = x := by
  refine BitVec.eq_of_getLsbD_eq fun i hi => ?_
  rw [BitVec.getLsbD_append]
  by_cases h : i < 8
  · simp [h]
  · simp [h, show i - 8 < 8 by omega, show 8 + (i - 8) = i by omega]

/-- The payload of a WRITE is read back (R185, R194). -/
theorem decodeWrite_payload {k : RecKind} {w : WriteData} (h : w.wf k = true) (index : Byte) :
    decodeWrite k (Req.write k index w).payloadBytes = some w := by
  cases w with
  | clear => rfl
  | fields bytes =>
    have hl : bytes.length = k.fieldBytes := by simpa [WriteData.wf] using h
    simp [Req.payloadBytes, decodeWrite, hl]

/-- A READ is read back: only that of RAMP_HISTORY carries a payload. -/
theorem decode_read {o : ObjectKind} {index ramp : Byte} (h : (Req.read o index ramp).wf = true) :
    decodeRequest 0x01 o.code index (Req.read o index ramp).payloadBytes = .read o index ramp := by
  cases o with
  | rampHistory => rfl
  | _ =>
    obtain rfl : ramp = 0 := by simpa [Req.wf] using h
    rfl

theorem decodeRequest_write (k : RecKind) (index : Byte) (payload : List Byte) :
    decodeRequest 0x02 k.object.code index payload
      = match decodeWrite k payload with | some w => .write k index w | none => .bad 0x02 index := by
  cases k <;> rfl

theorem decodeRequest_insertError (obj index errors : Byte) : decodeRequest 0x0E obj index [errors]
    = match ObjectKind.ofCode obj with | some o => .insertError o index errors | none => .bad 0x0E index := rfl

/-- Settles O9: by cases of the request. -/
theorem requestsDecode : Obligations.RequestsDecode := by
  intro q hq
  cases q with
  | read o index ramp => exact decode_read hq
  | write k index w => exact (decodeRequest_write k index _).trans (by rw [decodeWrite_payload hq])
  | insertError o index errors => exact (decodeRequest_insertError o.code index errors).trans (by rw [ObjectKind.ofCode_code])
  | watch index classes => exact congrArg (Req.watch index) (append_bytes classes)
  | bad kind index => cases hq
  | _ => rfl

/-! ### Frames (R182) -/

/-- The length byte of a body that fits. -/
theorem length_byte {body : List Byte} (h : body.length ≤ 124) : (BitVec.ofNat 8 body.length).toNat = body.length := by
  rw [BitVec.toNat_ofNat, Nat.mod_eq_of_lt]; omega

/-- A frame's body, and the CRC after it. -/
theorem frameOf_eq (body : List Byte) : ∃ crc : BitVec 16,
    frameOf body = 0xA5 :: BitVec.ofNat 8 body.length :: body ++ [crc.extractLsb' 8 8, crc.extractLsb' 0 8] := ⟨_, rfl⟩

theorem frameCrcOk_frameOf {body : List Byte} (h : body.length ≤ 124) : frameCrcOk (frameOf body) = true := by
  simp [frameOf, frameCrcOk, length_byte h]

/-- What a frame's body carries is its request kind, object kind, index and payload. -/
theorem frameRequest_frameOf {kind obj index : Byte} {payload : List Byte} (h : payload.length ≤ 121) :
    frameRequest (frameOf (kind :: obj :: index :: payload)) = decodeRequest kind obj index payload := by
  have hl := length_byte (body := kind :: obj :: index :: payload) (by simp only [List.length_cons]; omega)
  simp only [List.length_cons] at hl
  simp [frameOf, frameRequest, hl]

theorem payload_length {q : Req} (h : q.wf = true) : q.payloadBytes.length ≤ 121 := by
  cases q with
  | read o index ramp => cases o <;> simp [Req.payloadBytes]
  | write k index w =>
    cases w with
    | clear => simp [Req.payloadBytes]
    | fields bytes =>
      have hl : bytes.length = k.fieldBytes := by simpa [Req.wf, WriteData.wf] using h
      have hk : k.fieldBytes ≤ 50 := by cases k <;> decide
      simp only [Req.payloadBytes, List.length_cons]
      omega
  | _ => simp [Req.payloadBytes]

/-- The frame of a well-formed request has a body of 3 to 124 bytes. -/
theorem body_length {q : Req} (h : q.wf = true) :
    3 ≤ (q.kindByte :: q.objectByte :: q.indexByte :: q.payloadBytes).length
      ∧ (q.kindByte :: q.objectByte :: q.indexByte :: q.payloadBytes).length ≤ 124 := by
  have := payload_length h
  simp only [List.length_cons]
  omega

/-- A request's frame: the marker, a length byte of 3 to 124, and as many bytes with the two of the CRC. -/
theorem frame_shape {q : Req} (h : q.wf = true) : ∃ n rest, q.frame = 0xA5 :: n :: rest ∧ 3 ≤ n.toNat ∧ n.toNat ≤ 124
    ∧ rest.length = n.toNat + 2 := by
  obtain ⟨hlow, hhigh⟩ := body_length h
  refine ⟨_, _, rfl, ?_, ?_, ?_⟩ <;> rw [length_byte hhigh]
  · exact hlow
  · exact hhigh
  · simp

theorem frameRequest_frame {q : Req} (h : q.wf = true) : frameRequest q.frame = q :=
  (frameRequest_frameOf (payload_length h)).trans (requestsDecode q h)

open Machine in
/-- Settles O10: the frames of requests and of answers are both `frameOf` of a body. -/
theorem framesCarryTheirRequests : Obligations.FramesCarryTheirRequests := by
  refine ⟨fun q hq => ⟨?_, frameCrcOk_frameOf (body_length hq).2, frameRequest_frame hq⟩, fun layout a body hb hl => ?_,
    fun layout bs => ⟨rfl, rfl⟩, rfl⟩
  · obtain ⟨crc, e⟩ := frameOf_eq (q.kindByte :: q.objectByte :: q.indexByte :: q.payloadBytes)
    exact ⟨_, crc, e, body_length hq⟩
  · have e : a.frame layout = frameOf body := by rw [hb]; rfl
    refine ⟨e ▸ frameOf_eq body, e ▸ frameCrcOk_frameOf hl, fun p rest s hs => ?_⟩
    simp only [State.sending, hs]

namespace Machine.State

variable {s : State} {p : Port}

/-! ### The receiver, byte by byte (R182, R183) -/

/-- A frame in progress: its length byte, where it has come, is one of a frame, and not all its bytes have come. -/
def InProgress (buffer : List Byte) : Prop :=
  ∀ m n rest, buffer = m :: n :: rest → 3 ≤ n.toNat ∧ n.toNat ≤ 124 ∧ buffer.length < n.toNat + 4

theorem lengthBad_iff (m n : Byte) (rest : List Byte) : lengthBad (m :: n :: rest) = true ↔ n.toNat < 3 ∨ 124 < n.toNat := by
  simp [lengthBad, frameLength]

theorem frameFull_iff (m n : Byte) (rest : List Byte) :
    frameFull (m :: n :: rest) = true ↔ 3 ≤ n.toNat ∧ n.toNat ≤ 124 ∧ n.toNat ≤ rest.length - 2 ∧ 2 ≤ rest.length := by
  simp [frameFull, frameLength, lengthBad, Config.lengthMin, Config.lengthMax]
  omega

/-- The two tests of a Frame Buffer fail while its frame is in progress. -/
theorem InProgress.tests {buffer : List Byte} (h : InProgress buffer) : lengthBad buffer = false ∧ frameFull buffer = false := by
  match buffer with
  | [] => exact ⟨rfl, rfl⟩
  | [m] => exact ⟨rfl, rfl⟩
  | m :: n :: rest =>
    obtain ⟨h3, h124, hl⟩ := h m n rest rfl
    simp only [List.length_cons] at hl
    refine ⟨Bool.eq_false_iff.2 fun e => ?_, Bool.eq_false_iff.2 fun e => ?_⟩
    · have := (lengthBad_iff m n rest).1 e; omega
    · have := (frameFull_iff m n rest).1 e; omega

/-- Nothing is due at a port whose frame is in progress and whose last byte is not yet five samples old. -/
theorem settleFrame_inProgress {buffer : List Byte} {idle : Nat} (hr : (s.port p).receiver = .receiving buffer idle)
    (h : InProgress buffer) (hi : idle < 5) : s.settleFrame p = s := by
  have hr : s.receiver p = .receiving buffer idle := hr
  have hi : ¬ Config.interByteLimit ≤ idle := by simp only [Config.interByteLimit]; omega
  obtain ⟨hb, hf⟩ := h.tests
  simp [settleFrame, badLength, frameComplete, interByteTimeout, hr, hb, hf, hi]

theorem settleFrame_hunting (hr : (s.port p).receiver = .hunting) : s.settleFrame p = s := by
  have hr : s.receiver p = .hunting := hr
  simp only [settleFrame, badLength, frameComplete, interByteTimeout, hr]

theorem exec_byteReceived (b : Byte) (hs : s.running) : exec (.byteReceived p b) s = .next (s.byteReceived p b) :=
  congrArg Host.Outcome.next (whenRunning_runs hs _)

theorem exec_frameComplete (hs : s.running) : exec (.frameComplete p) s = .next (s.frameComplete p) :=
  congrArg Host.Outcome.next (whenRunning_runs hs _)

/-- A byte joins the Frame Buffer of a frame in progress. -/
theorem byteReceived_inProgress {buffer : List Byte} {idle : Nat} (hr : (s.port p).receiver = .receiving buffer idle)
    (h : InProgress buffer) (hi : idle < 5) (b : Byte) :
    s.byteReceived p b = s.modPort p fun x => { x with receiver := .receiving (buffer ++ [b]) 0 } := by
  have e : s.receiver p = .receiving buffer idle := hr
  simp only [byteReceived, settleFrame_inProgress hr h hi, e, setReceiver]

/-- At a hunting port a start marker begins a frame, and every other byte is passed over. -/
theorem byteReceived_hunting (hr : (s.port p).receiver = .hunting) (b : Byte) :
    s.byteReceived p b = if b = 0xA5 then s.modPort p fun x => { x with receiver := .receiving [0xA5] 0 } else s := by
  have e : s.receiver p = .hunting := hr
  simp only [byteReceived, settleFrame_hunting hr, e, setReceiver]
  split
  next h => subst h; rfl
  next => rfl

/-- The rest of a frame, received byte by byte, fills the Frame Buffer. -/
theorem feed_rest {n : Byte} {rest : List Byte} (h3 : 3 ≤ n.toNat) (h124 : n.toNat ≤ 124) (hl : rest.length = n.toNat + 2)
    (hs : s.running) (bs : List Byte) : ∀ pre : List Byte, pre ≠ [] → pre ++ bs = 0xA5 :: n :: rest →
      (s.modPort p fun x => { x with receiver := .receiving pre 0 }).feed p bs
        = .next (s.modPort p fun x => { x with receiver := .receiving (0xA5 :: n :: rest) 0 }) := by
  induction bs with
  | nil =>
    intro pre _ e
    rw [← e, List.append_nil]
    rfl
  | cons b bs ih =>
    intro pre hne e
    have progress : InProgress pre := by
      rintro m n' tail rfl
      obtain ⟨-, rfl, ht⟩ : m = 0xA5 ∧ n' = n ∧ tail ++ b :: bs = rest := by simpa using e
      have : tail.length + (bs.length + 1) = rest.length := by rw [← ht]; simp
      simp only [List.length_cons]
      omega
    have hrun : (s.modPort p fun x => { x with receiver := .receiving pre 0 }).running := hs
    have step := byteReceived_inProgress (s := s.modPort p fun x => { x with receiver := .receiving pre 0 }) (p := p)
      (buffer := pre) (idle := 0) (by simp) progress (by omega) b
    rw [feed, exec_byteReceived b hrun, step, modPort_modPort]
    exact ih (pre ++ [b]) (by simp) (by simpa using e)

/-- A whole frame, received byte by byte at a hunting port, stands in its Frame Buffer. -/
theorem feed_frame {n : Byte} {rest : List Byte} (h3 : 3 ≤ n.toNat) (h124 : n.toNat ≤ 124) (hl : rest.length = n.toNat + 2)
    (hs : s.running) (hr : (s.port p).receiver = .hunting) :
    s.feed p (0xA5 :: n :: rest) = .next (s.modPort p fun x => { x with receiver := .receiving (0xA5 :: n :: rest) 0 }) := by
  rw [feed, exec_byteReceived _ hs, byteReceived_hunting hr, if_pos rfl]
  exact feed_rest h3 h124 hl hs _ [0xA5] (by simp) rfl

/-- FRAME_COMPLETE hands on a full frame whose CRC matches, whatever the receiver held besides. -/
theorem frameComplete_full {buffer : List Byte} {idle : Nat} (hr : (s.port p).receiver = .receiving buffer idle)
    (hf : frameFull buffer = true) (hc : frameCrcOk buffer = true) : s.frameComplete p = s.submit p (frameRequest buffer) := by
  have hr : s.receiver p = .receiving buffer idle := hr
  simp only [frameComplete, hr, hf, hc, if_true]

end Machine.State

open Machine State in
/-- Settles O11: the bytes leave the frame in the Frame Buffer, and both sides are the completion of that frame (R182, log 4). -/
theorem bytesOfAFrameDoItsRow : Obligations.BytesOfAFrameDoItsRow := by
  intro c p q s hc hq hs hr
  obtain ⟨n, rest, e, h3, h124, hl⟩ := frame_shape hq
  have hcrc : frameCrcOk q.frame = true := frameCrcOk_frameOf (body_length hq).2
  have hreq := frameRequest_frame hq
  rw [e] at hcrc hreq ⊢
  have hfull : frameFull (0xA5 :: n :: rest) = true := (frameFull_iff _ _ _).2 (by omega)
  refine ⟨_, feed_frame h3 h124 hl hs hr, ?_⟩
  rw [exec_frameComplete (s := modPort _ _ _) hs, frameComplete_full (by rw [port_modPort_self]) hfull hcrc, hreq, submit_receiver,
    exec_request hc, whenRunning_runs hs, requestRow_eq (frameWaits_hunting hr)]

end Sys2Proof
end

section
/-! PROOFS. The statements about requests at a link port, the receiver and the end of an answer (R182 to R185, R147). -/

namespace Sys2Proof

open Machine

/-! ### The checks of a frame's request (R185, R194) -/

/-- What the first four checks of R185 and the decoder say of a frame's request: one that fails them is bad, and one that passes them
carries a well-formed request of its kind, object, index and payload. -/
structure Decodes (kind obj index : Byte) (payload : List Byte) : Prop where
  bad : frameAccepted kind obj payload = false → decodeRequest kind obj index payload = .bad kind index
  good : frameAccepted kind obj payload = true → ∀ q, q = decodeRequest kind obj index payload →
    q.wf = true ∧ q.kindByte = kind ∧ q.indexByte = index ∧ q.payloadBytes = payload
      ∧ (kind = 0x01 ∨ kind = 0x02 ∨ kind = 0x0E → q.objectByte = obj)

variable {kind obj index : Byte} {payload : List Byte}

theorem Decodes.of_refused (h : frameAccepted kind obj payload = false)
    (e : decodeRequest kind obj index payload = .bad kind index) : Decodes kind obj index payload :=
  ⟨fun _ => e, fun a => absurd (h.symm.trans a) (by decide)⟩

theorem Decodes.of_request {q : Req} (h : frameAccepted kind obj payload = true)
    (e : decodeRequest kind obj index payload = q)
    (hq : q.wf = true ∧ q.kindByte = kind ∧ q.indexByte = index ∧ q.payloadBytes = payload)
    (ho : kind = 0x01 ∨ kind = 0x02 ∨ kind = 0x0E → q.objectByte = obj) : Decodes kind obj index payload :=
  ⟨fun a => absurd (h.symm.trans a) (by decide), fun _ _ e' => e'.trans e ▸ ⟨hq.1, hq.2.1, hq.2.2.1, hq.2.2.2, ho⟩⟩

/-- The request kinds that do not use the object byte. -/
theorem Decodes.of_plain {q : Req} (hk : ¬ (kind = 0x01 ∨ kind = 0x02 ∨ kind = 0x0E)) (h : frameAccepted kind obj payload = true)
    (e : decodeRequest kind obj index payload = q)
    (hq : q.wf = true ∧ q.kindByte = kind ∧ q.indexByte = index ∧ q.payloadBytes = payload) : Decodes kind obj index payload :=
  .of_request h e hq fun a => absurd a hk

theorem decodes_empty (h : kind ∈ ([0x03, 0x04, 0x06, 0x07, 0x08, 0x09, 0x0C, 0x10, 0x11] : List Byte)) :
    Decodes kind obj index payload := by
  simp only [List.mem_cons, List.not_mem_nil, or_false] at h
  rcases h with rfl | rfl | rfl | rfl | rfl | rfl | rfl | rfl | rfl <;>
    (cases payload with
     | nil => exact .of_plain (by decide) rfl rfl ⟨rfl, rfl, rfl, rfl⟩
     | cons => exact .of_refused rfl rfl)

theorem decodes_one (h : kind = 0x05 ∨ kind = 0x0D) : Decodes kind obj index payload := by
  rcases h with rfl | rfl <;>
    (match payload with
     | [] => exact .of_refused rfl rfl
     | [_] => exact .of_plain (by decide) rfl rfl ⟨rfl, rfl, rfl, rfl⟩
     | _ :: _ :: _ => exact .of_refused rfl rfl)

theorem decodes_testIncident : Decodes 0x0A obj index payload := by
  match payload with
  | [] => exact .of_refused rfl rfl
  | [_] => exact .of_refused rfl rfl
  | [_, _] => exact .of_plain (by decide) rfl rfl ⟨rfl, rfl, rfl, rfl⟩
  | _ :: _ :: _ :: _ => exact .of_refused rfl rfl

theorem decodes_setClock : Decodes 0x0B obj index payload := by
  match payload with
  | [] | [_] | [_, _] | [_, _, _] | [_, _, _, _] | [_, _, _, _, _] => exact .of_refused rfl rfl
  | [_, _, _, _, _, _] => exact .of_plain (by decide) rfl rfl ⟨rfl, rfl, rfl, rfl⟩
  | _ :: _ :: _ :: _ :: _ :: _ :: _ :: _ => exact .of_refused rfl rfl

/-- The two bytes of a class set are read from the set they spell. -/
theorem bytes_append (hi lo : Byte) : (hi ++ lo : BitVec 16).extractLsb' 8 8 = hi ∧ (hi ++ lo : BitVec 16).extractLsb' 0 8 = lo :=
  ⟨BitVec.extractLsb'_append_eq_left, BitVec.extractLsb'_append_eq_right⟩

theorem decodes_watch : Decodes 0x0F obj index payload := by
  match payload with
  | [] => exact .of_refused rfl rfl
  | [_] => exact .of_refused rfl rfl
  | [hi, lo] =>
    refine .of_plain (q := .watch index (hi ++ lo)) (by decide) rfl rfl ⟨rfl, rfl, rfl, ?_⟩
    exact congrArg₂ (fun a b => [a, b]) (bytes_append hi lo).1 (bytes_append hi lo).2
  | _ :: _ :: _ :: _ => exact .of_refused rfl rfl

theorem decodes_unknown (h : kind = 0 ∨ 0x12 ≤ kind.toNat) : Decodes kind obj index payload := by
  rcases h with rfl | h
  · exact .of_refused rfl rfl
  · obtain ⟨m, hm⟩ := Nat.exists_eq_add_of_le' h
    refine .of_refused ?_ ?_
    · unfold frameAccepted
      rw [hm]
      simp
    · unfold decodeRequest
      rw [hm]
      rfl

/-- The object kinds of R194 have the codes 1 to 16. -/
theorem ofCode_isSome (obj : Byte) : (ObjectKind.ofCode obj).isSome = (decide (1 ≤ obj.toNat) && decide (obj.toNat ≤ 0x10)) := by
  unfold ObjectKind.ofCode
  split <;> simp_all
  omega

theorem code_of_ofCode {o : ObjectKind} (h : ObjectKind.ofCode obj = some o) : o.code = obj := by
  unfold ObjectKind.ofCode at h
  split at h <;> cases h <;> exact BitVec.eq_of_toNat_eq (Eq.symm ‹_›)

theorem decodes_insertError : Decodes 0x0E obj index payload := by
  match payload with
  | [] => exact .of_refused (by simp [frameAccepted]) rfl
  | _ :: _ :: _ => exact .of_refused (by simp [frameAccepted]) rfl
  | [e] =>
    have acc : frameAccepted 0x0E obj [e] = (ObjectKind.ofCode obj).isSome := by rw [ofCode_isSome]; simp [frameAccepted]
    have dec : decodeRequest 0x0E obj index [e]
      = match ObjectKind.ofCode obj with | some o => .insertError o index e | none => .bad 0x0E index := rfl
    cases ho : ObjectKind.ofCode obj with
    | none => exact .of_refused (by rw [acc, ho]; rfl) (by rw [dec, ho])
    | some o => exact .of_request (q := .insertError o index e) (by rw [acc, ho]; rfl) (by rw [dec, ho]) ⟨rfl, rfl, rfl, rfl⟩ fun _ => code_of_ofCode ho

theorem decodes_read : Decodes 0x01 obj index payload := by
  cases ho : ObjectKind.ofCode obj with
  | none =>
    have hn : (decide (1 ≤ obj.toNat) && decide (obj.toNat ≤ 0x10)) = false := by rw [← ofCode_isSome, ho]; rfl
    refine .of_refused ?_ ?_
    · change (decide (1 ≤ obj.toNat) && decide (obj.toNat ≤ 0x10) && _) = false
      rw [hn]; rfl
    · change (match ObjectKind.ofCode obj, payload with
        | some .rampHistory, [ramp] => Req.read .rampHistory index ramp
        | some .rampHistory, _ => .bad 0x01 index
        | some o, [] => .read o index 0
        | _, _ => .bad 0x01 index) = _
      rw [ho]
  | some o =>
    obtain rfl := code_of_ofCode ho
    cases o with
    | rampHistory =>
      match payload with
      | [] => exact .of_refused rfl rfl
      | [_] => exact .of_request rfl rfl ⟨rfl, rfl, rfl, rfl⟩ fun _ => rfl
      | _ :: _ :: _ => exact .of_refused rfl rfl
    | _ =>
      cases payload with
      | nil => exact .of_request rfl rfl ⟨rfl, rfl, rfl, rfl⟩ fun _ => rfl
      | cons => exact .of_refused rfl rfl

/-- The rows of R194 for a WRITE: the length and the clear mark of a stored record's payload. -/
theorem frameAccepted_write (k : RecKind) (payload : List Byte) : frameAccepted 0x02 k.object.code payload = true
    ↔ payload = [0x01] ∨ payload.length = k.fieldBytes + 1 ∧ payload.head? = some 0x00 := by
  cases k <;> simp [frameAccepted, RecKind.object, ObjectKind.code, RecKind.fieldBytes]

/-- The objects that are no stored records have no row. -/
theorem frameAccepted_notStored (h : (ObjectKind.ofCode obj).bind ObjectKind.recKind = none) (payload : List Byte) :
    frameAccepted 0x02 obj payload = false := by
  have none : ∀ k : RecKind, obj.toNat ≠ k.object.code.toNat := by
    intro k e
    rw [BitVec.eq_of_toNat_eq e, ObjectKind.ofCode_code, Option.bind_some, RecKind.recKind_object] at h
    cases h
  have h5 : obj.toNat ≠ 5 := none .loop
  have h6 : obj.toNat ≠ 6 := none .plan
  have h7 : obj.toNat ≠ 7 := none .schedule
  have h8 : obj.toNat ≠ 8 := none .shift
  have h9 : obj.toNat ≠ 9 := none .safety
  have hA : obj.toNat ≠ 10 := none .corridorSettings
  simp [frameAccepted, h5, h6, h7, h8, h9, hA]

/-- A WRITE's payload decodes exactly where its length and clear mark are right. -/
theorem decodeWrite_cases (k : RecKind) (payload : List Byte) :
    (payload = [0x01] ∧ decodeWrite k payload = some .clear)
    ∨ (∃ bytes, payload = 0x00 :: bytes ∧ bytes.length = k.fieldBytes ∧ decodeWrite k payload = some (.fields bytes))
    ∨ (payload ≠ [0x01] ∧ (payload.length = k.fieldBytes + 1 → payload.head? ≠ some 0x00) ∧ decodeWrite k payload = none) := by
  cases payload with
  | nil => exact .inr (.inr ⟨by simp, by simp, rfl⟩)
  | cons mark bytes =>
    by_cases h1 : mark = 0x01
    · subst h1
      cases bytes with
      | nil => exact .inl ⟨rfl, rfl⟩
      | cons => exact .inr (.inr ⟨by simp, by simp, rfl⟩)
    · by_cases h0 : mark = 0x00
      · subst h0
        by_cases hl : bytes.length = k.fieldBytes
        · exact .inr (.inl ⟨bytes, rfl, hl, by simp [decodeWrite, hl]⟩)
        · exact .inr (.inr ⟨by simp, by simp [hl], by simp [decodeWrite, hl]⟩)
      · exact .inr (.inr ⟨fun e => h1 (List.cons.inj e).1, fun _ e => h0 (Option.some.inj e),
          by rw [decodeWrite, if_neg h1, if_neg h0]⟩)

theorem object_of_recKind {o : ObjectKind} {k : RecKind} (h : o.recKind = some k) : k.object = o := by
  cases o <;> cases h <;> rfl

theorem decodes_write : Decodes 0x02 obj index payload := by
  have dec : decodeRequest 0x02 obj index payload = match (ObjectKind.ofCode obj).bind ObjectKind.recKind with
      | none => .bad 0x02 index
      | some k => match decodeWrite k payload with | some w => .write k index w | none => .bad 0x02 index := rfl
  cases hk : (ObjectKind.ofCode obj).bind ObjectKind.recKind with
  | none => exact .of_refused (frameAccepted_notStored hk payload) (by rw [dec, hk])
  | some k =>
    have ho : k.object.code = obj := by
      obtain ⟨o, ho, hok⟩ := Option.bind_eq_some_iff.1 hk
      rw [object_of_recKind hok, code_of_ofCode ho]
    have acc := ho ▸ frameAccepted_write k payload
    rw [hk] at dec
    obtain ⟨rfl, e⟩ | ⟨bytes, rfl, hl, e⟩ | ⟨h1, h0, e⟩ := decodeWrite_cases k payload <;> simp only [e] at dec
    · exact .of_request (acc.2 (.inl rfl)) dec ⟨rfl, rfl, rfl, rfl⟩ fun _ => ho
    · exact .of_request (acc.2 (.inr ⟨congrArg (· + 1) hl, rfl⟩)) dec ⟨by simp [Req.wf, WriteData.wf, hl], rfl, rfl, rfl⟩
        fun _ => ho
    · exact .of_refused (Bool.eq_false_iff.2 fun a => (acc.1 a).elim h1 fun h => h0 h.1 h.2) dec

theorem decodes (kind obj index : Byte) (payload : List Byte) : Decodes kind obj index payload := by
  by_cases h : kind = 0 ∨ 0x12 ≤ kind.toNat
  · exact decodes_unknown h
  · obtain ⟨n, hn, rfl⟩ : ∃ n : Nat, n < 0x12 ∧ kind = BitVec.ofNat 8 n := ⟨kind.toNat, by omega, by simp⟩
    interval_cases n
    · exact absurd (.inl rfl) h
    · exact decodes_read
    · exact decodes_write
    · exact decodes_empty (by decide)
    · exact decodes_empty (by decide)
    · exact decodes_one (by decide)
    · exact decodes_empty (by decide)
    · exact decodes_empty (by decide)
    · exact decodes_empty (by decide)
    · exact decodes_empty (by decide)
    · exact decodes_testIncident
    · exact decodes_setClock
    · exact decodes_empty (by decide)
    · exact decodes_one (by decide)
    · exact decodes_insertError
    · exact decodes_watch
    · exact decodes_empty (by decide)
    · exact decodes_empty (by decide)

namespace Machine

open State

variable {s : State} {p : Port}

/-! ### Requests taken at once (R184) -/

/-- The taking of a request, in the statement's own words. -/
theorem takeRequest_arrived (p : Port) (q : Req) (s : State) : (s.arrived p q).takeRequest p q = s.takenAtOnce p q := rfl

theorem perform_bad (p : Port) (kind index : Byte) (s : State) : s.perform p (.bad kind index) = .refuse .badRequest s := rfl

/-- A request that passed no check of R185 is answered BAD_REQUEST. -/
theorem takeRequest_bad (p : Port) (kind index : Byte) (s : State) :
    s.takeRequest p (.bad kind index) = s.answered p (.bad kind index) .badRequest .empty :=
  takeRequest_reply (perform_bad p kind index s) (by nofun)

/-- Whatever the receiver holds, a port that is ACTIVE and free, with room for an answer, takes the request of a complete frame at
once. -/
theorem submit_free (hs : s.running) (ha : (s.port p).silent = false) (hf : (s.port p).current = none)
    (hr : (s.port p).answers.length < 16) (q : Req) : s.submit p q = s.takenAtOnce p q := by
  have ready : (s.modPort p fun x => { x with receiver := .hunting }).ready p :=
    ⟨hs, by simp [ha], by simp [hf], by simpa using hr, frameWaits_hunting (by simp)⟩
  rw [← submit_receiver s p q .hunting, submit_ready ready, ← takeRequest_arrived]
  unfold arrived
  rw [modPort_modPort]

/-- FRAME_COMPLETE changes nothing while no full frame stands in the Frame Buffer (R182). -/
theorem frameComplete_notFull {buffer : List Byte} {idle : Nat} (hr : (s.port p).receiver = .receiving buffer idle)
    (hf : frameFull buffer = false) : s.frameComplete p = s := by
  have hr : s.receiver p = .receiving buffer idle := hr
  simp [frameComplete, hr, hf]

theorem frameFull_short {buffer : List Byte} (h : buffer.length < 2) : frameFull buffer = false := by
  match buffer with
  | [] => rfl
  | [_] => rfl
  | _ :: _ :: _ => simp at h

/-- The body of a complete frame carries the request that its first bytes decode to. -/
theorem frameRequest_body {m n kind obj index : Byte} {payload crc : List Byte} (hc : crc.length = 2)
    (hl : (kind :: obj :: index :: (payload ++ crc)).length = n.toNat + 2) :
    frameRequest (m :: n :: kind :: obj :: index :: (payload ++ crc)) = decodeRequest kind obj index payload := by
  have hn : n.toNat - 3 = payload.length := by simp [hc] at hl; omega
  simp [frameRequest, hn]

/-- FRAME_COMPLETE at a port whose Frame Buffer holds a full frame of the right CRC, and which takes it at once. -/
theorem exec_frameComplete_full (hs : s.running) {m n : Byte} {body : List Byte} {idle : Nat}
    (hr : (s.port p).receiver = .receiving (m :: n :: body) idle) (h3 : 3 ≤ n.toNat) (h124 : n.toNat ≤ 124)
    (hl : body.length = n.toNat + 2) (hc : frameCrcOk (m :: n :: body) = true) (ha : (s.port p).silent = false)
    (hf : (s.port p).current = none) (hq : (s.port p).answers.length < 16) :
    exec (.frameComplete p) s = .next (s.takenAtOnce p (frameRequest (m :: n :: body))) := by
  have full : frameFull (m :: n :: body) = true := (frameFull_iff m n body).2 (by omega)
  rw [exec_frameComplete hs, frameComplete_full hr full hc, submit_free hs ha hf hq]

/-- Settles O13: the request rows, FRAME_COMPLETE by what the Frame Buffer holds, and the checks of R185 by the request kind. -/
theorem requestTakenAtOnce : Obligations.RequestTakenAtOnce := by
  refine ⟨fun c p q s hc h => exec_ready hc h, fun p s hs => ⟨?_, fun hr => ?_, fun buffer idle hr hb => ?_, ?_⟩,
    fun p kind index s => takeRequest_bad p kind index s,
    fun kind obj index payload => ⟨(decodes kind obj index payload).bad, (decodes kind obj index payload).good⟩⟩
  · intro m n body idle hr h3 h124 hl hc ha hf hq
    have taken := exec_frameComplete_full hs hr h3 h124 hl hc ha hf hq
    refine ⟨taken, fun kind obj index payload crc hb hcrc hbad => ?_⟩
    subst hb
    rw [taken, frameRequest_body hcrc hl, (decodes kind obj index payload).bad hbad, ← takeRequest_arrived, takeRequest_bad]
    rfl
  · have hr : s.receiver p = .hunting := hr
    rw [exec_frameComplete hs, State.frameComplete, hr]
  · rw [exec_frameComplete hs, frameComplete_notFull hr (frameFull_short hb)]
  · intro m n body idle hr h
    have notFull : frameFull (m :: n :: body) = false :=
      Bool.eq_false_iff.2 fun e => by have := (frameFull_iff m n body).1 e; omega
    rw [exec_frameComplete hs, frameComplete_notFull hr notFull]

/-! ### Requests that wait, are BUSY or are dropped (R183, R184) -/

/-- The completion of a frame does not depend on an unfinished frame's timeout. -/
theorem submit_interByteTimeout (p : Port) (q : Req) (s : State) : (s.interByteTimeout p).submit p q = s.submit p q := by
  unfold interByteTimeout
  split
  · split
    · exact submit_receiver s p q .hunting
    · rfl
  · rfl

/-- Where a complete frame waits at the port, a request row takes it first (log 4). -/
theorem requestRow_waiting (h : s.frameWaits p = true) (q : Req) : s.requestRow p q = (s.frameComplete p).submit p q := by
  have same : s.badLength p = s := by
    unfold badLength
    unfold frameWaits at h
    split
    next buffer _ e =>
      rw [e] at h
      have full : frameFull buffer = true := (Bool.and_eq_true_iff.1 h).1
      have notBad : lengthBad buffer = false := by
        unfold frameFull at full
        split at full
        · simpa using (Bool.and_eq_true_iff.1 full).1
        · cases full
      rw [notBad]; rfl
    next => rfl
  rw [requestRow, settleFrame, same, submit_interByteTimeout]

/-- The completion of a frame at an ACTIVE port with room in its Answer Queue: the Silence Timer starts again, and the request is
placed. -/
theorem submit_active (ha : (s.port p).silent = false) (hr : (s.port p).answers.length < 16) (q : Req) :
    s.submit p q = (s.modPort p fun x => { x with receiver := .hunting, silenceSeconds := 0, silencePart := 0 }).place p q := by
  have hr : ¬ Config.answerCapacity ≤ (s.port p).answers.length := by simp only [Config.answerCapacity]; omega
  have ha : ((s.modPort p fun x => { x with receiver := .hunting }).port p).silent = false := by simp [ha]
  simp only [submit, port_modPort_self, if_neg hr, heard_active ha, modPort_modPort]

theorem place_waits {q r : Req} (hc : (s.port p).current = some r) (hw : (s.port p).waiting = none) :
    s.place p q = s.modPort p fun x => { x with waiting := some q } := by
  simp only [place, hc, hw]

theorem place_answersBusy {q r w : Req} (hc : (s.port p).current = some r) (hw : (s.port p).waiting = some w) :
    s.place p q = s.pushAnswer p (answerTo q .busy .empty .busy) := by
  simp only [place, hc, hw]

/-- Settles O14: a waiting frame first; else by the places of the port that are taken. -/
theorem requestsWaitOrAreBusy : Obligations.RequestsWaitOrAreBusy := by
  refine ⟨fun c p q s hc hs hw => ⟨_, exec_frameComplete hs, ?_⟩, fun c p q r s hc hs ha hw => ⟨fun hr hcur hwait => ?_,
    fun hr hcur hwait => ?_, fun hfull => ?_⟩⟩
  · rw [exec_request hc, whenRunning_runs hs, requestRow_waiting hw]
  all_goals rw [exec_request hc, whenRunning_runs hs, requestRow_eq hw]
  · rw [submit_active ha hr, place_waits (by simpa using hcur) (by simpa using hwait), modPort_modPort]
  · obtain ⟨w, hwait⟩ := Option.ne_none_iff_exists'.1 hwait
    rw [submit_active ha hr, place_answersBusy (by simpa using hcur) (by simpa using hwait), pushAnswer, modPort_modPort]
    rfl
  · simp only [submit, port_modPort_self, Config.answerCapacity, if_pos hfull]

/-! ### The receiver (R182, R183) -/

theorem badLength_bad {buffer : List Byte} {idle : Nat} (hr : (s.port p).receiver = .receiving buffer idle)
    (h : lengthBad buffer = true) : s.badLength p = s.modPort p fun x => { x with receiver := .hunting } := by
  have hr : s.receiver p = .receiving buffer idle := hr
  simp only [badLength, hr, h, if_true, setReceiver]

/-- A frame in progress is dropped five samples after its last byte, and not before (R183, log 26). -/
theorem interByteTimeout_inProgress {buffer : List Byte} {idle : Nat} (hr : (s.port p).receiver = .receiving buffer idle)
    (h : InProgress buffer) :
    s.interByteTimeout p = if 5 ≤ idle then s.modPort p fun x => { x with receiver := .hunting } else s := by
  have hr : s.receiver p = .receiving buffer idle := hr
  obtain ⟨hb, hf⟩ := h.tests
  simp only [interByteTimeout, hr, hb, hf, Config.interByteLimit, Bool.not_false, Bool.true_and, decide_eq_true_eq, setReceiver]

theorem frameComplete_badCrc {buffer : List Byte} {idle : Nat} (hr : (s.port p).receiver = .receiving buffer idle)
    (hf : frameFull buffer = true) (hc : frameCrcOk buffer = false) :
    s.frameComplete p = s.modPort p fun x => { x with receiver := .hunting } := by
  have hr : s.receiver p = .receiving buffer idle := hr
  simp only [frameComplete, hr, hf, hc, if_true, Bool.false_eq_true, if_false, setReceiver]

theorem exec_interByteTimeout (hs : s.running) : exec (.interByteTimeout p) s = .next (s.interByteTimeout p) :=
  congrArg Host.Outcome.next (whenRunning_runs hs _)

theorem exec_badLength (hs : s.running) : exec (.badLength p) s = .next (s.badLength p) :=
  congrArg Host.Outcome.next (whenRunning_runs hs _)

theorem inProgress_single (m : Byte) : InProgress [m] := fun _ _ _ e => by cases e

theorem inProgress_cons {m n : Byte} {rest : List Byte} (h3 : 3 ≤ n.toNat) (h124 : n.toNat ≤ 124)
    (hl : (m :: n :: rest).length < n.toNat + 4) : InProgress (m :: n :: rest) := by
  rintro _ _ _ ⟨⟩
  exact ⟨h3, h124, hl⟩

/-- Settles O16: by the state of the receiver, and the bytes its Frame Buffer holds. -/
theorem receiverFollowsFraming : Obligations.ReceiverFollowsFraming := by
  refine fun p b s hs => ⟨fun hr => ?_, fun buffer idle hr => ⟨fun progress hi => ?_, fun m hm => ?_, fun m n rest hb => ?_⟩⟩
  · rw [exec_byteReceived b hs, byteReceived_hunting hr]
  · rw [exec_byteReceived b hs, byteReceived_inProgress hr progress hi]
  · subst hm
    rw [exec_interByteTimeout hs, interByteTimeout_inProgress hr (inProgress_single m)]
    exact ⟨fun h => by rw [if_pos h], fun h => by rw [if_neg (by omega)]⟩
  · subst hb
    refine ⟨fun h => ?_, fun h3 h124 hl hi => ?_, fun h3 h124 hl hc => ?_⟩
    · rw [exec_badLength hs, badLength_bad hr ((lengthBad_iff m n rest).2 h)]
    · rw [exec_interByteTimeout hs, interByteTimeout_inProgress hr (inProgress_cons h3 h124 hl), if_pos hi]
    · have full := (frameFull_iff m n rest).2 (by simp only [List.length_cons] at hl; omega)
      rw [exec_frameComplete hs, frameComplete_badCrc hr full hc]

/-! ### The end of an answer (R184) -/

/-- Settles O17: by the role of the answer that has been sent. -/
theorem answerEndTakesTheWaitingRequest : Obligations.AnswerEndTakesTheWaitingRequest := by
  intro p a rest s hs ha
  have run : exec (.answerSent p) s = .next (s.answerSent p) := congrArg Host.Outcome.next (whenRunning_runs hs _)
  rw [run]
  unfold answerSent
  rw [ha]
  dsimp only
  refine ⟨fun h => ?_, fun h => ?_, fun h hw => ?_, fun q h hw => ?_⟩ <;> rw [h]
  · rfl
  · simp only [port_modPort_self, hw, modPort_modPort]
  · simp only [port_modPort_self, hw, modPort_modPort, beginRequest]

/-! ### A SILENT port returns (R147) -/

/-- The port as its frame's completion leaves it: ACTIVE, its timer at 0, the receiver hunting. -/
def returned (p : Port) (s : State) : State :=
  s.modPort p fun x => { x with receiver := .hunting, silenceSeconds := 0, silencePart := 0, silent := false }

/-- The state of a SILENT port's return: the settings are read, the records regained, the Lane Counts reported. -/
def returnState (p : Port) (s : State) : State := ((returned p s).takeCorridor.each recordNos (regain p)).reports

theorem submit_silent (ha : (s.port p).silent = true) (hr : (s.port p).answers.length < 16) (q : Req) :
    s.submit p q = (returnState p s).place p q := by
  have hr : ¬ Config.answerCapacity ≤ (s.port p).answers.length := by simp only [Config.answerCapacity]; omega
  simp only [submit, port_modPort_self, if_neg hr, heard, modPort_modPort, ha, if_true, returnToActive, returnState, returned]

theorem lapsesStand_returned (h : s.lapsesStand) : (returned p s).lapsesStand := by
  intro q
  by_cases hq : q = p
  · subst hq
    exact (h q).trans (by simp [returned])
  · exact (h q).trans (congrArg LinkPort.lapseTime (port_modPort_ne s hq _)).symm

theorem port_of_ports {s t : State} (h : t.ports = s.ports) (q : Port) : t.port q = s.port q := by
  rw [State.port, h, State.port]

theorem authorityPending_of_port {s t : State} {q : Port} (h : (t.port q).pending = (s.port q).pending) :
    t.authorityPending q = s.authorityPending q := by
  rw [authorityPending, h, authorityPending]

theorem authorityPending_returned (q : Port) : (returned p s).authorityPending q = s.authorityPending q := by
  apply authorityPending_of_port
  by_cases hq : q = p
  · subst hq; rw [returned, port_modPort_self]
  · rw [returned, port_modPort_ne _ hq]

theorem kept_returned : (returned p s).kept = s.kept := kept_modPort s p _

/-- What the return leaves of the port and of the authority records. -/
theorem returnState_spec (h : s.lapsesStand) :
    (((returnState p s).port p).settled = ((returned p s).port p).settled)
      ∧ (∀ i, (returnState p s).holder i
          = if s.holder i = none ∧ s.corridorInUse.defaultHolder.get i = some p then some p else s.holder i)
      ∧ (∀ q, (returnState p s).authorityPending q = s.authorityPending q) ∧ (returnState p s).kept = s.kept := by
  have l := lapsesStand_returned (p := p) h
  have read := calm_takeCorridor l
  have defaults := defaults_takeCorridor l
  have own : ∀ i, (returned p s).holder i = s.holder i := fun _ => rfl
  have corridor : (returned p s).corridorInUse = s.corridorInUse := rfl
  have pend := authorityPending_returned (p := p) (s := s)
  have kept := kept_returned (p := p) (s := s)
  unfold returnState
  generalize returned p s = a at *
  generalize a.takeCorridor = b at *
  obtain ⟨holders, ports, -⟩ := each_regain p recordNos b
  have sameKept : (b.each recordNos (regain p)).kept = b.kept := each_proj State.kept _ _ _ fun i t => kept_regain t p i
  generalize b.each recordNos (regain p) = c at *
  have reports := calm_reports c
  have all : ∀ i : Fin 7, i ∈ recordNos := by decide
  refine ⟨?_, fun i => ?_, fun q => ?_, ?_⟩
  · rw [reports.port, port_of_ports ports, read.port]
  · rw [reports.holder, holders, read.holder, defaults, own, corridor]
    simp only [all, true_and]
  · rw [reports.authorityPending, authorityPending_of_port (congrArg LinkPort.pending (port_of_ports ports q)),
      read.authorityPending, pend]
  · rw [reports.kept, sameKept, read.kept, kept]

/-- Settles O15: the completion of the frame is the return, then the placing of the request. -/
theorem silentPortReturns : Obligations.SilentPortReturns := by
  intro c p q s hc hs ha hr hw l
  obtain ⟨port, holders, authority, kept⟩ := returnState_spec (p := p) l
  have run : exec c s = .next ((returnState p s).place p q) := by
    rw [exec_request hc, whenRunning_runs hs, requestRow_eq hw, submit_silent ha hr]
  have item {α : Type} (f : LinkPort → α) (hf : ∀ x : LinkPort, f x.settled = f x) :
      f ((returnState p s).port p) = f ((returned p s).port p) := by rw [← hf, port, hf]
  have current := item LinkPort.current fun _ => rfl
  have waiting := item LinkPort.waiting fun _ => rfl
  simp only [returned, port_modPort_self] at current waiting
  refine ⟨returnState p s, ?_, ?_, ?_, current, waiting, ?_, holders, authority, kept, fun h => ?_, fun r hcur hwait => ?_,
    fun r w hcur hwait => ?_⟩
  · exact (item LinkPort.silent fun _ => rfl).trans (by simp [returned])
  · exact (item LinkPort.silenceSeconds fun _ => rfl).trans (by simp [returned])
  · exact (item LinkPort.receiver fun _ => rfl).trans (by simp [returned])
  · exact (item LinkPort.answers fun _ => rfl).trans (by simp [returned])
  all_goals rw [run]
  · simp only [place, current.trans h, beginRequest]
  · rw [place_waits (current.trans hcur) (waiting.trans hwait)]
  · rw [place_answersBusy (current.trans hcur) (waiting.trans hwait)]
    rfl

end Machine
end Sys2Proof
end

section
/-! PROOFS. Where events go (R188), and the requests of the authority records (8.1 to 8.4). -/

namespace Sys2Proof.Machine

open State

/-! ### The routes of an event (R188) -/

theorem port_deliver (s : State) (c : EventClass) (p q : Port) :
    (s.deliver c p).port q = if q = p then { s.port q with pending := addClass c (s.port q).pending } else s.port q := by
  by_cases h : q = p
  · subst h; rw [if_pos rfl, deliver, port_modPort_self]
  · rw [if_neg h, deliver, port_modPort_ne _ h]

theorem port_raise (s : State) (c : EventClass) (q : Port) :
    (s.raise c).port q
      = if s.delivers c q then { s.port q with pending := addClass c (s.port q).pending } else s.port q := by
  have turn (u : State) (p q : Port) : (if s.delivers c p then u.deliver c p else u).port q
      = if q = p ∧ s.delivers c p then { u.port q with pending := addClass c (u.port q).pending } else u.port q := by
    split
    · next h => rw [port_deliver]; simp only [h, and_true]
    · next h => rw [if_neg fun x => h x.2]
  simp only [raise, ports3, State.each, List.foldl_cons, List.foldl_nil, turn]
  cases q <;> simp

/-- Settles O18: the port of each link by its own rule of R188. -/
theorem eventsFollowTheirRoutes : Obligations.EventsFollowTheirRoutes := by
  intro c s _
  refine ⟨?_, ?_, ?_, ?_⟩
  · exact (congrArg (fun t : State => { t with ports := s.ports }) (s.raise_ports_only c)).trans rfl
  all_goals simp only [port_raise, delivers, Bool.or_eq_true, Bool.and_eq_true, decide_eq_true_eq, or_assoc]
  all_goals rfl

/-! ### A request at a port that takes it at once (R148, R185) -/

section Taken

variable {s : State} {c : Instr} {p : Port} {q : Req}

/-- A refused request changes nothing but its port's own items. -/
theorem exec_refused (hc : c.request = some (p, q)) (h : s.ready p) {st : Status} (hst : st ≠ .done)
    (hx : (s.arrived p q).perform p q = .refuse st (s.arrived p q)) : exec c s = s.refusal p q st := by
  have role : answerRole q st = .current := by
    cases q with
    | warmRestart _ => cases st with
      | done => exact absurd rfl hst
      | _ => rfl
    | _ => rfl
  rw [exec_ready hc h, takeRequest, hx]
  simp only [Reply.refuse, role]
  rfl

theorem exec_notOnPort (hc : c.request = some (p, q)) (h : s.ready p) (hw : q.wf = true) (hp : portAllows p q = false) :
    exec c s = s.refusal p q .notOnPort :=
  exec_refused hc h (by decide) (perform_notOnPort _ hw hp)

theorem holder_arrived (i : Fin 7) : (s.arrived p q).holder i = s.holder i := rfl

theorem exec_notHeld (hc : c.request = some (p, q)) (h : s.ready p) (hw : q.wf = true) (hp : portAllows p q = true)
    {i : Fin 7} (need : authorityNeeded p q = some i) (hi : s.holder i ≠ some p) : exec c s = s.refusal p q .notHeld := by
  refine exec_refused hc h (by decide) ?_
  simp [perform, hw, hp, authorized, need, holder_arrived, hi]

/-- Port `p` holds the record that the request needs, if it needs one. -/
def Authority (p : Port) (q : Req) (s : State) : Prop := ∀ i, authorityNeeded p q = some i → s.holder i = some p

theorem perform_checked (hw : q.wf = true) (hp : portAllows p q = true) (ha : Authority p q s) :
    s.perform p q = s.owner p q := by
  refine perform_owner hw hp ?_
  unfold authorized
  cases need : authorityNeeded p q with
  | none => rfl
  | some i => exact decide_eq_true (ha i need)

theorem authority_none (h : authorityNeeded p q = none) : Authority p q s := fun i e => by rw [h] at e; cases e

theorem authority_arrived (ha : Authority p q s) : Authority p q (s.arrived p q) := ha

theorem exec_checked (hc : c.request = some (p, q)) (h : s.ready p) (hr : q ≠ .warmRestart q.indexByte) (hw : q.wf = true)
    (hp : portAllows p q = true) (ha : Authority p q s) {x : Reply} (hx : (s.arrived p q).owner p q = x) :
    exec c s = .next (x.state.answered p q x.status x.payload) :=
  exec_ready_reply hc h hr ((perform_checked hw hp (authority_arrived ha)).trans hx)

end Taken

/-! ### The ports and the records that requests need (R148) -/

theorem rampOf_eq {b : Byte} {r : Ramp} (h : b.toNat = r.val + 1) : rampOf b = some r := by
  rw [rampOf, h, indexOf_number]

theorem rampOf_none {b : Byte} (h : b = 0 ∨ 7 ≤ b.toNat) : rampOf b = none := by
  rw [rampOf, indexOf, dif_neg]
  rcases h with rfl | h
  · decide
  · omega

/-- Settles O22: the port check fails before any other. -/
theorem requestsKeepToTheirPorts : Obligations.RequestsKeepToTheirPorts := by
  intro p s h
  refine ⟨fun hp => ⟨fun w hw => ?_, ?_, fun i d => ?_, fun o i e => ?_, fun i ln k => ?_, fun cs => ?_⟩, fun hp i => ?_⟩
  · exact exec_notOnPort rfl h hw (by simp [portAllows, hp])
  · exact exec_notOnPort rfl h rfl (by simp [portAllows, hp])
  · exact exec_notOnPort rfl h rfl (by simp [portAllows, hp])
  · exact exec_notOnPort rfl h rfl (by simp [portAllows, hp])
  · exact exec_notOnPort rfl h rfl (by simp [portAllows, hp])
  · exact exec_notOnPort rfl h rfl (by simp [portAllows, hp])
  · exact exec_notOnPort rfl h rfl (by simp [portAllows, hp])

/-- Settles O23: the port check passes, and the record that the request needs is held by another. -/
theorem requestsNeedTheirAuthority : Obligations.RequestsNeedTheirAuthority := by
  refine fun p s h => ⟨fun r b hb hr => ?_, fun hc => ?_⟩
  · have need : (rampOf b).map rampRecord = some (rampRecord r) := by rw [rampOf_eq hb]; rfl
    refine ⟨fun plan => ?_, ?_, ?_, fun hp => ?_⟩
    · exact exec_notHeld rfl h rfl rfl need hr
    · exact exec_notHeld rfl h rfl rfl need hr
    · exact exec_notHeld rfl h rfl rfl need hr
    · exact exec_notHeld rfl h rfl (by simp [portAllows, hp]) need hr
  · refine ⟨fun b w hw => ?_, fun b w hw => ?_, fun b w hw => ?_, fun b w hw => ?_, fun w hw => ?_, fun y mo d h' mi sec => ?_,
      ?_, fun hp => ?_, fun hp => ⟨?_, fun w hw => ?_⟩⟩
    · exact exec_notHeld rfl h hw rfl rfl hc
    · exact exec_notHeld rfl h hw rfl rfl hc
    · exact exec_notHeld rfl h hw rfl rfl hc
    · exact exec_notHeld rfl h hw rfl rfl hc
    · exact exec_notHeld rfl h hw rfl rfl hc
    · exact exec_notHeld rfl h rfl rfl rfl hc
    · exact exec_notHeld rfl h rfl rfl rfl hc
    · exact exec_notHeld rfl h rfl rfl (if_neg hp) hc
    · exact exec_notHeld rfl h rfl (by simp [portAllows, hp]) rfl hc
    · exact exec_notHeld rfl h hw (by simp [portAllows, hp]) rfl hc

/-! ### CLAIM and YIELD (R142 to R144) -/

theorem recordOf_eq {b : Byte} {i : Fin 7} (h : b.toNat = i.val) : recordOf b = some i := by
  rw [recordOf, dif_pos (by omega)]
  exact congrArg some (Fin.ext h)

theorem recordOf_none {b : Byte} (h : 7 ≤ b.toNat) : recordOf b = none := by rw [recordOf, dif_neg (by omega)]

section Records

variable {s : State} {p : Port} {b : Byte} {i : Fin 7}

theorem silent_arrived (q : Req) (p' : Port) : ((s.arrived p q).port p').silent = (s.port p').silent := by
  by_cases h : p' = p
  · subst h; rw [arrived, port_modPort_self]
  · rw [arrived, port_modPort_ne _ h]

theorem lapseTime_arrived (q : Req) (p' : Port) : ((s.arrived p q).port p').lapseTime = (s.port p').lapseTime := by
  by_cases h : p' = p
  · subst h; rw [arrived, port_modPort_self]
  · rw [arrived, port_modPort_ne _ h]

theorem silent_deliver (c : EventClass) (p p' : Port) : ((s.deliver c p).port p').silent = (s.port p').silent := by
  rw [port_deliver]; split <;> rfl

theorem claim_none (hb : b.toNat = i.val) (hi : s.holder i = none) :
    s.claim p b = .done ((s.setHolder i (some p)).passOn p i) := by
  simp only [claim, recordOf_eq hb, hi]

theorem claim_own (hb : b.toNat = i.val) (hi : s.holder i = some p) : s.claim p b = .done s := by
  simp only [claim, recordOf_eq hb, hi, if_true]

theorem claim_lower (hb : b.toNat = i.val) {h : Port} (hi : s.holder i = some h) (hp : priority h < priority p) :
    s.claim p b = .done (((s.setHolder i (some p)).deliver .authority h).passOn p i) := by
  have ne : h ≠ p := by rintro rfl; exact lt_irrefl _ hp
  simp only [claim, recordOf_eq hb, hi, if_neg ne, if_pos hp]

theorem claim_higher (hb : b.toNat = i.val) {h : Port} (hi : s.holder i = some h) (hp : priority p < priority h) :
    s.claim p b = { state := s, status := .heldElsewhere, payload := .bytes [holderByte (some h)] } := by
  have ne : h ≠ p := by rintro rfl; exact lt_irrefl _ hp
  simp only [claim, recordOf_eq hb, hi, if_neg ne, if_neg (Nat.lt_asymm hp)]

theorem exec_claim (h : s.ready p) {x : Reply} (hx : (s.arrived p (.claim b)).claim p b = x) :
    exec (.claim p b) s = .next (x.state.answered p (.claim b) x.status x.payload) :=
  exec_checked rfl h (by nofun) rfl rfl (authority_none rfl) hx

theorem lapsesStand_congr {s t : State} (hm : t.corridorInUse = s.corridorInUse)
    (hp : ∀ q, (t.port q).lapseTime = (s.port q).lapseTime) (l : s.lapsesStand) : t.lapsesStand := by
  intro q; rw [hm, hp]; exact l q

theorem lapseTime_deliver (c : EventClass) (p p' : Port) : ((s.deliver c p).port p').lapseTime = (s.port p').lapseTime := by
  rw [port_deliver]; split <;> rfl

theorem heir_congr {s t : State} (hm : t.corridorInUse = s.corridorInUse)
    (hp : ∀ q, (t.port q).silent = (s.port q).silent) (p : Port) (i : Fin 7) : t.heir p i = s.heir p i := by
  simp only [heir, hm, hp]

theorem authorityPending_deliver (s : State) (p q : Port) :
    (s.deliver .authority p).authorityPending q = true ↔ s.authorityPending q = true ∨ q = p := by
  rw [authorityPending, port_deliver]
  by_cases h : q = p
  · simp [h, classIn_addClass]
  · simp [h, authorityPending]

@[simp] theorem lists_passOn : (s.passOn p i).lists = s.lists := by
  unfold passOn
  split <;> simp

@[simp] theorem kept_passOn : (s.passOn p i).kept = s.kept := by
  unfold passOn
  split <;> simp

end Records

/-- Settles O24: by the Holder of the record, then, for a claim of a SILENT port, by what it passes on. -/
theorem claimsGoByPriority : Obligations.ClaimsGoByPriority := by
  refine ⟨by decide, fun p b s h => ⟨fun i hb => ⟨fun hi => ?_, fun hi => ?_, fun o hi hp => ?_, fun o hi hp => ?_⟩, fun hb => ?_⟩,
    fun p b i s hb ha l hi => ?_⟩
  · rw [exec_claim h (claim_own hb hi)]; rfl
  · have active : (((s.arrived p (.claim b)).setHolder i (some p)).port p).silent = false :=
      (silent_arrived (.claim b) p).trans h.active
    rw [exec_claim h (claim_none hb hi), passOn_active active]
    rfl
  · have active : ((((s.arrived p (.claim b)).setHolder i (some p)).deliver .authority o).port p).silent = false :=
      (silent_deliver .authority o p).trans ((silent_arrived (.claim b) p).trans h.active)
    rw [exec_claim h (claim_lower hb hi hp), passOn_active active]
    rfl
  · rw [exec_claim h (claim_higher hb hi hp)]
    cases o <;> rfl
  · refine exec_refused rfl h (by decide) ?_
    rw [perform_checked rfl rfl (authority_none rfl)]
    simp only [owner, claim, recordOf_none hb]
  · obtain ⟨v, hv, silent, lapse, mem, own, others, pend, lists, kept⟩ : ∃ v : State,
        s.claim p b = .done (v.passOn p i) ∧ (∀ q, (v.port q).silent = (s.port q).silent)
          ∧ (∀ q, (v.port q).lapseTime = (s.port q).lapseTime) ∧ v.memory = s.memory
          ∧ v.holder i = some p ∧ (∀ j, j ≠ i → v.holder j = s.holder j)
          ∧ (∀ q, v.authorityPending q = true ↔ s.authorityPending q = true ∨ s.holder i = some q)
          ∧ v.lists = s.lists ∧ v.kept = s.kept := by
      rcases hi with hi | ⟨o, hi, hp⟩
      · exact ⟨_, claim_none hb hi, fun _ => rfl, fun _ => rfl, rfl, holder_setHolder_self _ i _,
          fun j hj => holder_setHolder_ne _ hj _, fun q => by simp only [hi, reduceCtorEq, or_false]; rfl, rfl, rfl⟩
      · exact ⟨_, claim_lower hb hi hp, silent_deliver _ _, lapseTime_deliver _ _, rfl, holder_setHolder_self _ i _,
          fun j hj => holder_setHolder_ne _ hj _,
          fun q => by rw [authorityPending_deliver, hi, Option.some_inj, eq_comm (a := o)]; rfl, rfl, kept_modPort _ _ _⟩
    have corridor : v.corridorInUse = s.corridorInUse := by unfold corridorInUse damaged State.health; rw [mem]
    obtain ⟨hold, rest, authority, quiet, -⟩ := passOn_silent ((silent p).trans ha) (lapsesStand_congr corridor lapse l) own
    have run : s.perform p (.claim b) = .done (v.passOn p i) := (perform_checked rfl rfl (authority_none rfl)).trans hv
    refine ⟨v.passOn p i, takeRequest_reply run nofun, ?_, fun j hj => ?_, fun q => ?_,
      fun q => ?_, ?_, ?_⟩
    · rw [hold, heir_congr corridor silent]
    · rw [rest j hj, others j hj]
    · rw [authority, pend, or_assoc, or_comm (a := s.holder i = some q)]
    · rw [quiet, silent]
    · rw [lists_passOn, lists]
    · rw [kept_passOn, kept]

theorem yieldRecord_held {s : State} {p : Port} {b : Byte} {i : Fin 7} (hb : b.toNat = i.val) (hi : s.holder i = some p) :
    s.yieldRecord p b = .done ((s.takeCorridor.giveUp p i).reports) := by
  simp only [yieldRecord, recordOf_eq hb, hi, if_true]

theorem yieldRecord_notHeld {s : State} {p : Port} {b : Byte} {i : Fin 7} (hb : b.toNat = i.val) (hi : s.holder i ≠ some p) :
    s.yieldRecord p b = .refuse .notHeld s := by
  simp only [yieldRecord, recordOf_eq hb, if_neg hi]

/-- The record that its Holder gives up goes to its heir, and nothing else changes (R144). -/
theorem giveUp_takeCorridor {s : State} {p : Port} {i : Fin 7} (l : s.lapsesStand) (hi : s.holder i = some p) :
    s.takeCorridor.giveUp p i = s.takeCorridor.setHolder i (s.heir p i) := by
  rw [giveUp, if_pos (((calm_takeCorridor l).holder i).trans hi), successor_takeCorridor l]

theorem authorityPending_setHolder (s : State) (i : Fin 7) (h : Option Port) (p : Port) :
    (s.setHolder i h).authorityPending p = s.authorityPending p := rfl

/-- A record given up goes to its heir; no other record moves, and no AUTHORITY is raised (R144). -/
theorem yielded_spec {s : State} {p : Port} {i : Fin 7} (l : s.lapsesStand) (hi : s.holder i = some p) :
    let t := (s.takeCorridor.giveUp p i).reports
    t.holder i = s.heir p i ∧ (∀ j, j ≠ i → t.holder j = s.holder j) ∧ (∀ q, (t.port q).answers = (s.port q).answers)
      ∧ (∀ q, t.authorityPending q = s.authorityPending q) ∧ t.lists = s.lists ∧ t.kept = s.kept := by
  have up := giveUp_takeCorridor l hi
  have read := calm_takeCorridor l
  have lists := lists_takeCorridor s
  have kept := kept_takeCorridor s
  rw [up]
  generalize s.takeCorridor = u at read lists kept
  have after := calm_reports (u.setHolder i (s.heir p i))
  refine ⟨?_, fun j hj => ?_, fun q => ?_, fun q => ?_, ?_, ?_⟩
  · rw [after.holder, holder_setHolder_self]
  · rw [after.holder, holder_setHolder_ne _ hj, read.holder]
  · rw [after.answers, port_setHolder, read.answers]
  · rw [after.authorityPending, authorityPending_setHolder, read.authorityPending]
  · rw [lists_reports, setHolder_lists, lists]
  · rw [after.kept, kept_setHolder, kept]

theorem authorityPending_answered (s : State) (p q : Port) (r : Req) (st : Status) (x : Payload) :
    (s.answered p r st x).authorityPending q = s.authorityPending q := by
  apply authorityPending_of_port
  by_cases h : q = p
  · subst h; rw [answered, port_modPort_self]
  · rw [answered, port_modPort_ne _ h]

theorem authorityPending_arrived (s : State) (p q : Port) (r : Req) :
    (s.arrived p r).authorityPending q = s.authorityPending q := by
  apply authorityPending_of_port
  by_cases h : q = p
  · subst h; rw [arrived, port_modPort_self]
  · rw [arrived, port_modPort_ne _ h]

theorem lapsesStand_arrived {s : State} {p : Port} {q : Req} (l : s.lapsesStand) : (s.arrived p q).lapsesStand :=
  lapsesStand_congr (s := s) rfl (lapseTime_arrived _) l

/-- Settles O25: by the Holder of the record. -/
theorem yieldGivesARecordUp : Obligations.YieldGivesARecordUp := by
  refine fun p b s h => ⟨fun i hb => ⟨fun hi => ?_, fun hi l => ?_⟩, fun hb => ?_⟩
  · refine exec_refused rfl h (by decide) ((perform_checked rfl rfl (authority_none rfl)).trans ?_)
    exact yieldRecord_notHeld hb hi
  · have held : (s.arrived p (.yieldRecord b)).holder i = some p := hi
    have heir : (s.arrived p (.yieldRecord b)).heir p i = s.heir p i := heir_congr (s := s) (t := s.arrived p (.yieldRecord b)) rfl (silent_arrived _) p i
    have answers' : ((s.arrived p (.yieldRecord b)).port p).answers = (s.port p).answers := by rw [arrived, port_modPort_self]
    have pend' := fun q => authorityPending_arrived s p q (.yieldRecord b)
    have kept' : (s.arrived p (.yieldRecord b)).kept = s.kept := kept_modPort _ _ _
    have run : exec (.yieldRecord p b) s = _ :=
      exec_checked (q := .yieldRecord b) rfl h nofun rfl rfl (authority_none rfl) (yieldRecord_held hb held)
    obtain ⟨own, others, answers, pend, lists, kept⟩ := yielded_spec (lapsesStand_arrived l) held
    generalize ((s.arrived p (.yieldRecord b)).takeCorridor.giveUp p i).reports = u at *
    refine ⟨_, run, own.trans heir, others, ?_, fun q => ?_, lists, (kept_modPort _ _ _).trans (kept.trans kept')⟩
    · rw [answered, port_modPort_self]
      dsimp only [Reply.done]
      rw [answers, answers', show (Req.yieldRecord b).kindByte ||| 0x80 = 0x84 from by simp [Req.kindByte]]
      rfl
    · rw [authorityPending_answered]
      exact (pend q).trans (pend' q)
  · refine exec_refused rfl h (by decide) ((perform_checked rfl rfl (authority_none rfl)).trans ?_)
    simp only [owner, yieldRecord, recordOf_none hb]

/-! ### The lapse of a port (R146, R149) -/

theorem exec_portLapse {p : Port} {s : State} (h : s.running) : exec (.portLapse p) s = .next (s.portLapse p) :=
  congrArg Host.Outcome.next (whenRunning_runs h _)

theorem portLapse_due {p : Port} {s : State} (l : s.lapsesStand) (ha : (s.port p).silent = false)
    (hs : (s.port p).spared = false) (ht : (s.port p).lapseTime ≤ (s.port p).silenceSeconds) :
    s.portLapse p = (s.takeCorridor.becomeSilent p).reports := by
  have active := ((calm_takeCorridor l).silent p).trans ha
  simp only [portLapse, if_pos (And.intro ha (And.intro hs ht)), active, Bool.false_eq_true, if_false]

/-- Settles O26: the read of the settings, the silence of the port, then the reports of that read. -/
theorem lapsedPortGivesItsRecordsUp : Obligations.LapsedPortGivesItsRecordsUp := by
  refine fun p s run => ⟨fun ha hs ht l => ?_, fun h => ?_⟩
  · refine ⟨_, (exec_portLapse run).trans (congrArg Host.Outcome.next (portLapse_due l ha hs ht)), ?_⟩
    have read := calm_takeCorridor l
    have lists := lists_takeCorridor s
    have kept := kept_takeCorridor s
    have heir := fun i => successor_takeCorridor l p i
    generalize s.takeCorridor = u at read lists kept heir
    obtain ⟨silent, holders, pend, others, -⟩ := becomeSilent_spec u p
    have lists' := lists_becomeSilent u p
    have kept' := kept_becomeSilent u p
    generalize u.becomeSilent p = v at *
    have after := calm_reports v
    refine ⟨?_, fun i => ?_, ?_, fun q hq => ?_, ?_, ?_⟩
    · rw [after.silent, silent]
    · rw [after.holder, holders, read.holder, heir]
    · rw [after.authorityPending, pend, read.authorityPending]
      simp only [read.holder]
    · rw [after.authorityPending, authorityPending_of_port (congrArg LinkPort.pending (others q hq)), read.authorityPending]
    · rw [lists_reports, lists', lists]
    · rw [after.kept, kept', kept]
  · rw [exec_portLapse run, portLapse, if_neg]
    rintro ⟨ha, hs, ht⟩
    rcases h with h | h | h
    · simp [h] at ha
    · simp [h] at hs
    · omega

end Sys2Proof.Machine
end

section
/-! PROOFS. What the READs show, and the slot and safety WRITEs. -/

namespace Sys2Proof.Machine

open State

/-! ### The READs of the units -/

section Reads

variable {s : State} {p : Port}

/-- A READ, which needs no authority and comes from any port, is carried out by the block that owns its object (R148). -/
theorem perform_read {o : ObjectKind} {i ramp : Byte} (hw : (Req.read o i ramp).wf = true) :
    s.perform p (.read o i ramp) = s.ownerRead p o i ramp :=
  perform_checked hw rfl (authority_none rfl)

theorem exec_read {c : Instr} {o : ObjectKind} {i ramp : Byte} (hc : c.request = some (p, .read o i ramp)) (h : s.ready p)
    (hw : (Req.read o i ramp).wf = true) {x : Reply} (hx : (s.arrived p (.read o i ramp)).ownerRead p o i ramp = x) :
    exec c s = .next (x.state.answered p (.read o i ramp) x.status x.payload) :=
  exec_ready_reply hc h nofun ((perform_read hw).trans hx)

/-- The ports as READ AUTHORITY from port `p` shows them (R150). -/
def portsShown (p : Port) (s : State) : Tab 3 PortAuthority :=
  (s.ports.map portAuthority).set (portIdx p) { silent := false, silenceSeconds := 0, lapseTime := (s.port p).lapseTime }

/-- The buttons as READ AUTHORITY shows them (R150). -/
def buttonsShown (s : State) : Tab 6 ButtonShown :=
  s.buttons.map fun b => { pressed := b.latest = some true, run := b.run, holdReported := b.holdReported }

theorem portsShown_self : (portsShown p s).get (portIdx p)
    = { silent := false, silenceSeconds := 0, lapseTime := (s.port p).lapseTime } := by
  simp [portsShown]

theorem portsShown_ne {q : Port} (h : q ≠ p) : (portsShown p s).get (portIdx q)
    = { silent := (s.port q).silent, silenceSeconds := (s.port q).silenceSeconds, lapseTime := (s.port q).lapseTime } := by
  have ne : portIdx q ≠ portIdx p := fun e => h (portIdx_inj e)
  rw [portsShown, Tab.get_set_ne _ _ ne, Tab.get_map]
  rfl

theorem buttonsShown_get (r : Ramp) : (buttonsShown s).get r
    = { pressed := (s.button r).latest = some true, run := (s.button r).run, holdReported := (s.button r).holdReported } := by
  rw [buttonsShown, Tab.get_map]
  rfl

theorem takeRequest_readAuthority (v : State) (i : Byte) :
    v.takeRequest p (.read .authority i 0) = v.answered p (.read .authority i 0) .done
      (.authority v.arbiter.holders v.arbiter.defaults (portsShown p v) (buttonsShown v)) :=
  takeRequest_reply (perform_read rfl) nofun

theorem bne_eq {n : Nat} (a b : BitVec n) : (a != b) = !decide (a = b) := by
  by_cases h : a = b <;> simp [h]

theorem portShown_arrived (q : Port) (r : Req) : (s.arrived p r).portShown q =
    { receiving := q ≠ p ∧ (s.port q).receiver ≠ .hunting, current := q = p ∨ (s.port q).current.isSome,
      waiting := (s.port q).waiting.isSome, answers := (s.port q).answers.length, pending := (s.port q).pending,
      attention := (s.port q).pending ≠ 0, baud := (s.port q).baud,
      watch := if q = .service then some s.router.watch else none } := by
  unfold portShown attention
  by_cases hq : q = p
  · subst hq
    simp [arrived, bne_eq]
  · simp [arrived, port_modPort_ne _ hq, hq, bne_eq]

theorem portOf_eq {b : Byte} {q : Port} (h : b = 1 ∧ q = .centre ∨ b = 2 ∧ q = .cabinet ∨ b = 3 ∧ q = .service) :
    portOf b = some q := by
  rcases h with ⟨rfl, rfl⟩ | ⟨rfl, rfl⟩ | ⟨rfl, rfl⟩ <;> rfl

theorem portOf_none {b : Byte} (h : b = 0 ∨ 4 ≤ b.toNat) : portOf b = none := by
  rcases h with rfl | h
  · rfl
  · unfold portOf
    split
    · omega
    · omega
    · omega
    · rfl

end Reads

/-- Settles O27: each READ by the block that owns its object, on the state its arrival leaves. -/
theorem unitReadsShowTheirItems : Obligations.UnitReadsShowTheirItems := by
  refine fun p s h => ⟨?_, ?_, ?_, ?_, ?_, ⟨portsShown p (s.arrived p (.read .authority 0 0)), buttonsShown s, ?_, fun q => ?_,
    fun r => buttonsShown_get r⟩, fun v i => ⟨portsShown p v, buttonsShown v, takeRequest_readAuthority v i, portsShown_self,
    fun q hq => portsShown_ne hq, fun r => buttonsShown_get r⟩, fun b q hq => ?_, fun b hb => ?_⟩
  · exact exec_read rfl h rfl rfl
  · exact exec_read rfl h rfl rfl
  · exact exec_read rfl h rfl rfl
  · exact exec_read rfl h rfl rfl
  · exact exec_read rfl h rfl rfl
  · exact exec_read rfl h rfl rfl
  · by_cases hq : q = p
    · subst hq
      rw [portsShown_self, h.active, if_pos rfl, lapseTime_arrived]
    · rw [portsShown_ne hq, if_neg hq, lapseTime_arrived, silent_arrived, arrived, port_modPort_ne _ hq]
  · have shown : (s.arrived p (.read .port b 0)).readPort b
        = .shows (.port ((s.arrived p (.read .port b 0)).portShown q)) (s.arrived p (.read .port b 0)) := by
      rw [readPort, portOf_eq hq]
    rw [portShown_arrived] at shown
    exact exec_read (o := .port) rfl h rfl shown
  · exact exec_refused rfl h (by decide) ((perform_read rfl).trans (by rw [ownerRead, readPort, portOf_none hb]))

/-! ### WRITEs from the port that holds the corridor record -/

section Writes

variable {s : State} {p : Port} {k : RecKind} {i : Byte} {w : WriteData}

theorem authority_write (hh : s.holder corridorRecord = some p) : Authority p (.write k i w) s :=
  fun _ e => Option.some.inj e ▸ hh

theorem portAllows_write (hk : k = .safety → p = .service) : portAllows p (.write k i w) = true := by
  cases k with
  | safety => exact decide_eq_true (hk rfl)
  | _ => rfl

theorem perform_write (hk : k = .safety → p = .service) (hw : w.wf k = true) (hh : s.holder corridorRecord = some p) :
    s.perform p (.write k i w) = s.ownerWrite p k i w :=
  perform_checked hw (portAllows_write hk) (authority_write hh)

theorem exec_write {c : Instr} (hc : c.request = some (p, .write k i w)) (h : s.ready p) (hh : s.holder corridorRecord = some p)
    (hk : k = .safety → p = .service) (hw : w.wf k = true) {x : Reply}
    (hx : (s.arrived p (.write k i w)).ownerWrite p k i w = x) :
    exec c s = .next (x.state.answered p (.write k i w) x.status x.payload) :=
  exec_ready_reply hc h nofun ((perform_write (s := s.arrived p (.write k i w)) hk hw hh).trans hx)

theorem wf_fields {bytes : List Byte} (h : bytes.length = k.fieldBytes) : (WriteData.fields bytes).wf k = true :=
  beq_iff_eq.2 h

end Writes

theorem indexOf_eq {n : Nat} {b : Byte} {i : Fin n} (h : b.toNat = i.val + 1) : indexOf n b.toNat = some i := by
  rw [h, indexOf_number]

theorem indexOf_none {n : Nat} {b : Byte} (h : b = 0 ∨ n + 1 ≤ b.toNat) : indexOf n b.toNat = none := by
  rw [indexOf, dif_neg]
  rcases h with rfl | h
  · simp
  · omega

theorem storedAnew_eq (s : State) (id : RecId) : s.storedAnew id = { s with memory := ConfigMemory.stored id s.memory } := rfl

section SlotWrites

variable {s : State} {b : Byte} {bytes : List Byte}

theorem writePlan_fields {k : PlanSlot} {x : Plan} (hb : b.toNat = k.val + 1) (hx : decodePlan bytes = some x) :
    s.writePlan b (.fields bytes) = .done ((s.setPlan k (some x)).storedAnew (.plan k)) := by
  simp only [writePlan, indexOf_eq hb, hx]

theorem writePlan_clear {k : PlanSlot} (hb : b.toNat = k.val + 1) :
    s.writePlan b .clear = .done ((s.setPlan k none).storedAnew (.plan k)) := by
  simp only [writePlan, indexOf_eq hb]

theorem writePlan_index (hb : b = 0 ∨ 33 ≤ b.toNat) (w : WriteData) : s.writePlan b w = .refuse .badValue s := by
  simp only [writePlan, indexOf_none (n := 32) hb]

theorem writePlan_range (hx : decodePlan bytes = none) : s.writePlan b (.fields bytes) = .refuse .badValue s := by
  unfold writePlan
  cases indexOf 32 b.toNat <;> simp only [hx]

theorem writeSchedule_fields {i : ScheduleSlot} {x : ScheduleRec} (hb : b.toNat = i.val + 1)
    (hx : decodeSchedule bytes = some x) :
    s.writeScheduleSlot b (.fields bytes) = .done ((s.setScheduleRec i (some x)).storedAnew (.schedule i)) := by
  simp only [writeScheduleSlot, indexOf_eq hb, hx]

theorem writeSchedule_clear {i : ScheduleSlot} (hb : b.toNat = i.val + 1) :
    s.writeScheduleSlot b .clear = .done ((s.setScheduleRec i none).storedAnew (.schedule i)) := by
  simp only [writeScheduleSlot, indexOf_eq hb]

theorem writeSchedule_index (hb : b = 0 ∨ 49 ≤ b.toNat) (w : WriteData) :
    s.writeScheduleSlot b w = .refuse .badValue s := by
  simp only [writeScheduleSlot, indexOf_none (n := 48) hb]

theorem writeSchedule_range (hx : decodeSchedule bytes = none) :
    s.writeScheduleSlot b (.fields bytes) = .refuse .badValue s := by
  unfold writeScheduleSlot
  cases indexOf 48 b.toNat <;> simp only [hx]

theorem writeShift_fields {i : ShiftSlot} {x : ShiftRec} (hb : b.toNat = i.val + 1) (hx : decodeShift bytes = some x) :
    s.writeShiftSlot b (.fields bytes) = .done ((s.setShift i (some x)).storedAnew (.shift i)) := by
  simp only [writeShiftSlot, indexOf_eq hb, hx]

theorem writeShift_clear {i : ShiftSlot} (hb : b.toNat = i.val + 1) :
    s.writeShiftSlot b .clear = .done ((s.setShift i none).storedAnew (.shift i)) := by
  simp only [writeShiftSlot, indexOf_eq hb]

theorem writeShift_index (hb : b = 0 ∨ 3 ≤ b.toNat) (w : WriteData) : s.writeShiftSlot b w = .refuse .badValue s := by
  simp only [writeShiftSlot, indexOf_none (n := 2) hb]

theorem writeShift_range (hx : decodeShift bytes = none) : s.writeShiftSlot b (.fields bytes) = .refuse .badValue s := by
  unfold writeShiftSlot
  cases indexOf 2 b.toNat <;> simp only [hx]

end SlotWrites

/-- Settles O30: the three slot kinds, by the index and the fields. -/
theorem slotWritesStoreTheirRecord : Obligations.SlotWritesStoreTheirRecord := by
  intro p b s h hh
  refine ⟨fun k hb => ⟨fun bytes x hl hx => ?_, ?_⟩, fun i hb => ⟨fun bytes x hl hx => ?_, ?_⟩,
    fun i hb => ⟨fun bytes x hl hx => ?_, ?_⟩, fun bytes => ⟨fun hl hb => ?_, fun hl hb => ?_, fun hl hb => ?_⟩,
    fun hb => ?_, fun hb => ?_, fun hb => ?_⟩
  · exact exec_write (k := .plan) rfl h hh nofun (wf_fields hl) (writePlan_fields hb hx)
  · exact exec_write (k := .plan) rfl h hh nofun rfl (writePlan_clear hb)
  · exact exec_write (k := .schedule) rfl h hh nofun (wf_fields hl) (writeSchedule_fields hb hx)
  · exact exec_write (k := .schedule) rfl h hh nofun rfl (writeSchedule_clear hb)
  · exact exec_write (k := .shift) rfl h hh nofun (wf_fields hl) (writeShift_fields hb hx)
  · exact exec_write (k := .shift) rfl h hh nofun rfl (writeShift_clear hb)
  · exact exec_write (k := .plan) rfl h hh nofun (wf_fields hl) (hb.elim writePlan_range fun hb => writePlan_index hb _)
  · exact exec_write (k := .schedule) rfl h hh nofun (wf_fields hl)
      (hb.elim writeSchedule_range fun hb => writeSchedule_index hb _)
  · exact exec_write (k := .shift) rfl h hh nofun (wf_fields hl) (hb.elim writeShift_range fun hb => writeShift_index hb _)
  · exact exec_write (k := .plan) rfl h hh nofun rfl (writePlan_index hb _)
  · exact exec_write (k := .schedule) rfl h hh nofun rfl (writeSchedule_index hb _)
  · exact exec_write (k := .shift) rfl h hh nofun rfl (writeShift_index hb _)

theorem writeSafety_fields {s : State} {bytes : List Byte} {x : SafetyRec} (hl : s.memory.safetyLock = false)
    (hx : decodeSafety bytes = some x) : s.writeSafetyTable (.fields bytes) = .done ((s.setSafety x).storedAnew .safety) := by
  simp only [writeSafetyTable, hl, Bool.false_eq_true, if_false, hx]

theorem writeSafety_range {s : State} {bytes : List Byte} (hl : s.memory.safetyLock = false) (hx : decodeSafety bytes = none) :
    s.writeSafetyTable (.fields bytes) = .refuse .badValue s := by
  simp only [writeSafetyTable, hl, Bool.false_eq_true, if_false, hx]

theorem writeSafety_clear {s : State} (hl : s.memory.safetyLock = false) :
    s.writeSafetyTable .clear = .refuse .badValue s := by
  simp only [writeSafetyTable, hl, Bool.false_eq_true, if_false]

theorem writeSafety_locked {s : State} (hl : s.memory.safetyLock = true) (w : WriteData) :
    s.writeSafetyTable w = .refuse .locked s := if_pos hl

/-- Settles O31: by the Safety Lock, then by the fields. -/
theorem safetyTableIsWrittenUntilLocked : Obligations.SafetyTableIsWrittenUntilLocked := by
  refine fun s h hh => ⟨fun hl => ⟨fun bytes x hb hx => ?_, fun bytes hb hx => ?_, ?_⟩, fun hl w hw => ?_, ?_⟩
  · exact exec_write (k := .safety) rfl h hh (fun _ => rfl) (wf_fields hb) (writeSafety_fields hl hx)
  · exact exec_write (k := .safety) rfl h hh (fun _ => rfl) (wf_fields hb) (writeSafety_range hl hx)
  · exact exec_write (k := .safety) (i := 0) (w := .clear) rfl h hh (fun _ => rfl) rfl (writeSafety_clear hl)
  · have locked := writeSafety_locked (s := s.arrived .service (.write .safety 0 w)) hl w
    exact exec_write (k := .safety) (i := 0) rfl h hh (fun _ => rfl) hw locked
  · exact exec_checked (q := .lockSafety 0) rfl h nofun rfl rfl (fun _ e => Option.some.inj e ▸ hh) rfl

end Sys2Proof.Machine
end

section
/-! PROOFS. The Lane Count report of a ramp (R104): the sequencer it leaves, in one equation for every ramp state. -/

namespace Sys2Proof.Machine

open State

/-- What a Lane Count report reads besides its own sequencer. -/
def State.reportReads (s : State) : ConfigMemory × Tab 6 PlanList × Supply := (s.memory, s.lists, s.supply)

section Reports

variable {s t : State}

theorem reportReads_of (hf : t.fixtures = s.fixtures) (hl : t.lists = s.lists) (hk : t.kept = s.kept) :
    t.reportReads = s.reportReads := by
  have hm : t.memory = s.memory := congrArg (·.2.2) hf
  rw [reportReads, hm, hl, supply_of_kept hk, reportReads]

theorem corridorInUse_of_reads (h : t.reportReads = s.reportReads) : t.corridorInUse = s.corridorInUse :=
  corridorInUse_of_memory (congrArg (·.1) h)

theorem planList_of_reads (h : t.reportReads = s.reportReads) (r : Ramp) : t.planList r = s.planList r :=
  congrArg (fun x => x.2.1.get r) h

theorem supply_of_reads (h : t.reportReads = s.reportReads) : t.supply = s.supply := congrArg (·.2.2) h

variable (s)

theorem reportReads_setSeq (r : Ramp) (q : Sequencer) : (s.setSeq r q).reportReads = s.reportReads := rfl

theorem reportReads_setRampState (r : Ramp) (st : RampState) : (s.setRampState r st).reportReads = s.reportReads :=
  reportReads_of (fixtures_setRampState s r st) (lists_setRampState s r st) (kept_setRampState s r st)

theorem reportReads_goDark (r : Ramp) (st : RampState) : (s.goDark r st).reportReads = s.reportReads :=
  reportReads_of (fixtures_goDark s r st) (lists_goDark s r st) (kept_goDark s r st)

theorem reportReads_offSettled (r : Ramp) : (s.offSettled r).reportReads = s.reportReads :=
  reportReads_of (fixtures_offSettled s r) (lists_offSettled s r) (kept_offSettled s r)

theorem reportReads_report (r : Ramp) : (s.report r).reportReads = s.reportReads :=
  reportReads_of (fixtures_report s r) (lists_report s r) (kept_report s r)

theorem seq_setRampState (r : Ramp) (st : RampState) : (s.setRampState r st).seq r = { s.seq r with state := st } :=
  seq_of_sequencers s (sequencers_setRampState s r st)

theorem seq_goDark (r : Ramp) (st : RampState) :
    (s.goDark r st).seq r = { (s.seq r).discard with lanes := Tab.replicate 2 .dark, state := st } :=
  seq_of_sequencers s (sequencers_goDark s r st)

theorem seq_warningEntry (r : Ramp) : (s.warningEntry r).seq r = (s.seq r).warned s.corridorInUse := by
  rw [seq_of_sequencers s (sequencers_warningEntry s r), Sequencer.warned, lanesAt_ofFn]
  simp only [Sequencer.inForce, decide_eq_true_eq]

theorem seq_endingEntry (r : Ramp) : (s.endingEntry r).seq r = { (s.seq r).discard with
    state := .ending, clearanceTimer := some (s.corridorInUse.clearanceTime * 100)
    lanes := Tab.ofFn fun ln => if ln.val < (s.seq r).laneCount then .restGreen else .dark } := by
  rw [seq_of_sequencers s (sequencers_endingEntry s r), lanesAt_ofFn]
  simp only [Sequencer.inForce, decide_eq_true_eq]

variable {s}

/-- A ramp that has come to OFF with no Pending Lane Count follows its demanded plan (R105). -/
theorem seq_offFollowed {r : Ramp} (hs : (s.seq r).state = .off) (hp : (s.seq r).pendingCount = none)
    (hn : (s.seq r).laneCount ≠ 0) :
    (s.offFollowed r).seq r = (s.seq r).fromOff s.corridorInUse (s.planList r).demanded := by
  have warns : s.warns r = (!(s.seq r).supplyHold && (s.planList r).demanded.isSome) := by
    simp [State.warns, demandSeen, hs, hp]
  unfold offFollowed Sequencer.fromOff
  rw [if_neg hn, warns]
  by_cases h : (s.planList r).demanded = none ∨ (s.seq r).supplyHold = true
  · rw [if_pos h, if_neg]
    · rw [← hs]
    · rcases h with h | h <;> simp [h]
  · rw [if_neg h, if_pos, seq_warningEntry]
    obtain ⟨hd, hh⟩ := not_or.1 h
    simp [hh, Option.isSome_iff_ne_none.2 hd]

/-- A ramp that has come to OFF with a Pending Lane Count takes it, and then follows its demanded plan (R104, R105). -/
theorem seq_offFollowed_offSettled {r : Ramp} {n : Nat} (hs : (s.seq r).state = .off) (hp : (s.seq r).pendingCount = some n) :
    ((s.offSettled r).offFollowed r).seq r
      = ({ s.seq r with laneCount := n, pendingCount := none } : Sequencer).fromOff s.corridorInUse (s.planList r).demanded := by
  have settled : s.offSettled r = if n = 0
      then (s.setSeq r { s.seq r with laneCount := n, pendingCount := none }).setRampState r .unconfigured
      else s.setSeq r { s.seq r with laneCount := n, pendingCount := none } := by
    unfold offSettled
    simp only [hp, seq_setSeq_self]
  rw [settled]
  by_cases h : n = 0
  · rw [if_pos h, Sequencer.fromOff, if_pos h, offFollowed, if_neg, seq_setRampState, seq_setSeq_self]
    simp [warns, seq_setRampState]
  · have followed := seq_offFollowed (s := s.setSeq r { s.seq r with laneCount := n, pendingCount := none }) (r := r)
      (by simp [hs]) (by simp) (by simp [h])
    rw [if_neg h, followed, seq_setSeq_self]
    rfl

/-- The report to a ramp in UNCONFIGURED (R104). -/
theorem seq_configured {r : Ramp} {q : Sequencer} (hp : q.pendingCount = none) (hn : q.laneCount ≠ 0) :
    (((s.setSeq r q).setRampState r .off).offFollowed r).seq r = q.fromOff s.corridorInUse (s.planList r).demanded := by
  have reads : ((s.setSeq r q).setRampState r .off).reportReads = s.reportReads := reportReads_setRampState _ r .off
  have own : ((s.setSeq r q).setRampState r .off).seq r = { q with state := .off } := by
    rw [seq_setRampState, seq_setSeq_self]
  rw [seq_offFollowed (by rw [own]) (by rw [own]; exact hp) (by rw [own]; exact hn), own, corridorInUse_of_reads reads,
    planList_of_reads reads]
  rfl

/-- The report of another Lane Count to a ramp in WARNING (R104). -/
theorem seq_recounted {r : Ramp} {q : Sequencer} {n : Nat} (hp : q.pendingCount = some n) :
    ((((s.setSeq r q).goDark r .off).offSettled r).offFollowed r).seq r
      = ({ q.discard with laneCount := n, pendingCount := none, lanes := Tab.replicate 2 .dark } : Sequencer).fromOff
          s.corridorInUse (s.planList r).demanded := by
  have reads : ((s.setSeq r q).goDark r .off).reportReads = s.reportReads := reportReads_goDark _ r .off
  have own : ((s.setSeq r q).goDark r .off).seq r = { q.discard with lanes := Tab.replicate 2 .dark, state := .off } := by
    rw [seq_goDark, seq_setSeq_self]
  rw [seq_offFollowed_offSettled (n := n) (by rw [own]) (by rw [own]; exact hp), own, corridorInUse_of_reads reads,
    planList_of_reads reads]
  rfl

theorem anyGreen_eq (q : Sequencer) : q.anyGreen = ((q.lanes.get 0).isGreen || (q.lanes.get 1).isGreen) := by
  simp [Sequencer.anyGreen, laneNos]

/-- The sequencer that a Lane Count report leaves (R104). -/
theorem seq_report (r : Ramp) : (s.report r).seq r
    = (s.seq r).reported s.corridorInUse s.supply.input (s.planList r).demanded (s.corridorInUse.laneCount.get r) := by
  generalize hn : s.corridorInUse.laneCount.get r = n
  unfold report Sequencer.reported
  rw [hn]
  cases hs : (s.seq r).state with
  | off =>
    simp only [hs]
    by_cases h : n = 0
    · rw [if_pos h, if_pos h, seq_setRampState, seq_setSeq_self]
    · rw [if_neg h, if_neg h, seq_setSeq_self]
  | darkFault =>
    simp only [hs]
    exact seq_setSeq_self s r _
  | unconfigured =>
    simp only [hs]
    by_cases h : n = 0
    · rw [if_pos h, if_pos h]
    · rw [if_neg h, if_neg h, seq_configured rfl h]
  | warning =>
    simp only [hs]
    by_cases h : n = (s.seq r).laneCount
    · rw [if_pos h, if_pos h, seq_setSeq_self]
    · rw [if_neg h, if_neg h, seq_recounted rfl]
      rfl
  | metering =>
    simp only [hs]
    by_cases h : n = (s.seq r).laneCount
    · rw [if_pos h, if_pos h, seq_setSeq_self]
    · rw [if_neg h, if_neg h, anyGreen_eq]
      by_cases g : (((s.seq r).lanes.get 0).isGreen || ((s.seq r).lanes.get 1).isGreen) = true
      · rw [if_pos g, if_pos g, seq_setSeq_self]
      · rw [if_neg g, if_neg g, seq_endingEntry, seq_setSeq_self]
        rfl
  | ending =>
    simp only [hs]
    exact seq_setSeq_self s r _

/-- The sequencers after the Lane Count reports of one read (R104). -/
theorem seq_reports_reported (s : State) (r : Ramp) : s.reports.seq r
    = (s.seq r).reported s.corridorInUse s.supply.input (s.planList r).demanded (s.corridorInUse.laneCount.get r) := by
  obtain ⟨u, reads, own, e⟩ := each_turn State.seq State.reportReads report ramps ramps_nodup
    (fun i t => reportReads_report t i) (fun _ _ t h => seq_report_ne t h) s r (mem_ramps r)
  rw [show s.reports = s.each ramps report from rfl, e, seq_report, own, corridorInUse_of_reads reads, supply_of_reads reads,
    planList_of_reads reads]

end Reports

/-- The sequencers after a use of the corridor settings (R104). -/
theorem seq_useCorridor (s : State) (r : Ramp) : s.useCorridor.seq r
    = (s.seq r).reported s.corridorInUse s.supply.input (s.planList r).demanded (s.corridorInUse.laneCount.get r) := by
  have own : s.takeCorridor.seq r = s.seq r := congrArg (·.get r) (sequencers_takeCorridor s)
  have list : s.takeCorridor.planList r = s.planList r := congrArg (·.get r) (lists_takeCorridor s)
  rw [useCorridor, seq_reports_reported, own, list, corridorInUse_takeCorridor, supply_of_kept (kept_takeCorridor s)]

/-! ### The READs of the stored records (R18, R71, R89, R93, R166, R168) -/

section RecordReads

variable {s : State} {p : Port} {b : Byte}

theorem damaged_useRecord (s : State) (id j : RecId) : (s.useRecord id).damaged j = s.damaged j :=
  (calm_useRecord s id).damaged j

theorem schedule_of_kept {s t : State} (h : t.kept = s.kept) : t.memory.schedule = s.memory.schedule := by
  have := congrArg (fun x : State => x.memory.schedule) h
  exact this

theorem shifts_of_kept {s t : State} (h : t.kept = s.kept) : t.memory.shifts = s.memory.shifts := by
  have := congrArg (fun x : State => x.memory.shifts) h
  exact this

theorem loops_of_kept {s t : State} (h : t.kept = s.kept) : t.memory.loops = s.memory.loops := by
  have := congrArg (fun x : State => x.memory.loops) h
  exact this

theorem lock_of_kept {s t : State} (h : t.kept = s.kept) : t.memory.safetyLock = s.memory.safetyLock := by
  have := congrArg (fun x : State => x.memory.safetyLock) h
  exact this

theorem readPlan_zero : s.readPlan 0 = .shows (.bytes (0x00 :: encodePlan (planZero s.safetyInUse))) (s.useRecord .safety) := by
  rw [readPlan, if_pos rfl]
  simp only [(calm_useRecord s .safety).safetyInUse]

theorem readPlan_slot {k : PlanSlot} (hb : b.toNat = k.val + 1) : s.readPlan b
    = { state := s.useRecord (.plan k), status := if s.damaged (.plan k) then .damaged else .done
        payload := .bytes (recordPayload encodePlan (s.memory.plans.get k)) } := by
  have ne : b ≠ 0 := by rintro rfl; simp at hb
  rw [readPlan, if_neg ne]
  simp only [indexOf_eq hb, showRecord, damaged_useRecord, plans_of_kept (kept_useRecord s (.plan k))]

theorem readPlan_none (hb : 33 ≤ b.toNat) : s.readPlan b = .refuse .badValue s := by
  have ne : b ≠ 0 := by rintro rfl; simp at hb
  rw [readPlan, if_neg ne]
  simp only [indexOf_none (n := 32) (.inr hb)]

theorem readSchedule_slot {i : ScheduleSlot} (hb : b.toNat = i.val + 1) : s.readScheduleSlot b
    = { state := s.useRecord (.schedule i), status := if s.damaged (.schedule i) then .damaged else .done
        payload := .bytes (recordPayload encodeSchedule (s.memory.schedule.get i)) } := by
  simp only [readScheduleSlot, indexOf_eq hb, showRecord, damaged_useRecord,
    schedule_of_kept (kept_useRecord s (.schedule i))]

theorem readShift_slot {i : ShiftSlot} (hb : b.toNat = i.val + 1) : s.readShiftSlot b
    = { state := s.useRecord (.shift i), status := if s.damaged (.shift i) then .damaged else .done
        payload := .bytes (recordPayload encodeShift (s.memory.shifts.get i)) } := by
  simp only [readShiftSlot, indexOf_eq hb, showRecord, damaged_useRecord,
    shifts_of_kept (kept_useRecord s (.shift i))]

theorem readSchedule_none (hb : b = 0 ∨ 49 ≤ b.toNat) : s.readScheduleSlot b = .refuse .badValue s := by
  simp only [readScheduleSlot, indexOf_none (n := 48) hb]

theorem readShift_none (hb : b = 0 ∨ 3 ≤ b.toNat) : s.readShiftSlot b = .refuse .badValue s := by
  simp only [readShiftSlot, indexOf_none (n := 2) hb]

theorem readLoop_none (hb : b = 0 ∨ 49 ≤ b.toNat) : s.readLoop b = .refuse .badValue s := by
  simp only [readLoop, indexOf_none (n := 48) hb]

theorem readSafety_eq : s.readSafetyTable
    = { state := s.useRecord .safety, status := if s.damaged .safety then .damaged else .done
        payload := .safety (0x00 :: encodeSafety s.memory.safety) s.memory.safetyLock } := by
  simp only [readSafetyTable, showRecord, damaged_useRecord, safety_of_kept (kept_useRecord s .safety),
    lock_of_kept (kept_useRecord s .safety)]

theorem damaged_of_memory {s t : State} (h : t.memory = s.memory) (id : RecId) : t.damaged id = s.damaged id := by
  unfold damaged State.health; rw [h]

theorem memory_loseConfig (s : State) (i : LoopNo) : (s.loseConfig i).memory = s.memory := by
  unfold loseConfig; dsimp only
  split
  · rfl
  · exact memory_putLoop s i _

theorem memory_useLoop (s : State) (i : LoopNo) : (s.useLoop i).memory = (s.useRecord (.loop i)).memory := by
  unfold useLoop; dsimp only
  split
  · exact memory_loseConfig _ i
  · rfl

theorem damaged_useLoop (s : State) (i : LoopNo) (id : RecId) : (s.useLoop i).damaged id = s.damaged id :=
  (damaged_of_memory (memory_useLoop s i) id).trans (damaged_useRecord s _ id)

theorem loopRec_useLoop (s : State) (i j : LoopNo) : (s.useLoop i).loopRec j = s.loopRec j := by
  rw [loopRec, memory_useLoop, loops_of_kept (kept_useRecord s (.loop i)), loopRec]

theorem lastShown_eq : lastShown
    = fun v => { onSamples := v.onSamples, count := v.count, valid := v.valid, testSeen := v.testSeen } := rfl

theorem readLoop_slot {i : LoopNo} (hb : b.toNat = i.val + 1) : s.readLoop b
    = { state := s.settleLoops.useLoop i, status := if s.damaged (.loop i) then .damaged else .done
        payload := .loop (0x00 :: encodeLoop (s.memory.loops.get i)) ((s.settleLoops.useLoop i).loopShown i) } := by
  have damage : s.settleLoops.damaged (.loop i) = s.damaged (.loop i) := damaged_of_memory (memory_settleLoops s) _
  have content : s.settleLoops.loopRec i = s.memory.loops.get i := by rw [loopRec, memory_settleLoops]
  simp only [readLoop, indexOf_eq hb, showRecord, damaged_useLoop, loopRec_useLoop, damage, content]

theorem damaged_useCorridor (s : State) (id : RecId) : s.useCorridor.damaged id = s.damaged id := by
  have handed := (handCorridor_spec s none s.corridorInUse).2.2.1
  rw [useCorridor, damaged_of_memory (reports_fixtures _).2.2, takeCorridor, damaged_useRecord, damaged_of_memory handed]

theorem kept_useCorridor (s : State) : s.useCorridor.kept = s.kept := by rw [useCorridor, kept_reports, kept_takeCorridor]

theorem readCorridor_eq : s.readCorridorRecord
    = { state := s.useCorridor, status := if s.damaged .corridorSettings then .damaged else .done
        payload := .bytes (0x00 :: encodeCorridor s.memory.corridor) } := by
  simp only [readCorridorRecord, showRecord, damaged_useCorridor, corridor_of_kept (kept_useCorridor s)]

end RecordReads

section Arrived

variable (s : State) (p : Port) (q : Req)

theorem corridorInUse_arrived : (s.arrived p q).corridorInUse = s.corridorInUse := rfl
theorem damaged_arrived (id : RecId) : (s.arrived p q).damaged id = s.damaged id := rfl
theorem seq_arrived (r : Ramp) : (s.arrived p q).seq r = s.seq r := rfl
theorem planList_arrived (r : Ramp) : (s.arrived p q).planList r = s.planList r := rfl
theorem supply_arrived : (s.arrived p q).supply = s.supply := rfl
theorem memory_arrived : (s.arrived p q).memory = s.memory := rfl

end Arrived

/-- A READ of a stored record answers DONE, or DAMAGED where the record is damaged (R168, R185). -/
theorem exec_readRecord {s : State} {p : Port} {c : Instr} {o : ObjectKind} {i : Byte}
    (hc : c.request = some (p, .read o i 0)) (h : s.ready p) {id : RecId} {payload : Payload} {u : State}
    (hx : (s.arrived p (.read o i 0)).ownerRead p o i 0
      = { state := u, status := if s.damaged id then .damaged else .done, payload }) :
    exec c s = State.readsRecord p (.read o i 0) id payload s u :=
  exec_read hc h (by simp [Req.wf]) hx

/-- Settles O29: each READ by the block that owns its record. -/
theorem readsOfStoredRecords : Obligations.ReadsOfStoredRecords := by
  refine fun p s h => ⟨fun b hb => ?_, fun k b hb => ?_, fun b hb => ?_, fun i b hb => ?_, fun b hb => ⟨?_, ?_⟩, fun i b hb => ?_,
    fun b hb => ?_, ?_, fun i b hb u hu => ⟨?_, ?_, fun hd => ?_⟩, fun u hu => ⟨?_, ?_, ?_, ?_, ?_, fun r => ?_⟩⟩
  · subst hb
    exact exec_read (o := .plan) rfl h rfl readPlan_zero
  · refine (exec_readRecord (o := .plan) (payload := .bytes (recordPayload encodePlan (s.memory.plans.get k))) rfl h
      (readPlan_slot hb)).trans ?_
    cases s.memory.plans.get k <;> rfl
  · exact exec_read (o := .plan) (i := b) (ramp := 0) rfl h rfl (readPlan_none hb)
  · refine (exec_readRecord (o := .schedule) (payload := .bytes (recordPayload encodeSchedule (s.memory.schedule.get i))) rfl h
      (readSchedule_slot hb)).trans ?_
    cases s.memory.schedule.get i <;> rfl
  · exact exec_read (o := .schedule) (i := b) (ramp := 0) rfl h rfl (readSchedule_none hb)
  · exact exec_read (o := .loop) (i := b) (ramp := 0) rfl h rfl (readLoop_none hb)
  · refine (exec_readRecord (o := .shift) (payload := .bytes (recordPayload encodeShift (s.memory.shifts.get i))) rfl h
      (readShift_slot hb)).trans ?_
    cases s.memory.shifts.get i <;> rfl
  · exact exec_read (o := .shift) (i := b) (ramp := 0) rfl h rfl (readShift_none hb)
  · exact exec_readRecord (o := .safety) rfl h readSafety_eq
  · rw [hu]
    exact exec_readRecord (o := .loop) rfl h (readLoop_slot hb)
  · by_cases hi : (u.loop i).ident = none
    · simp [loopShown, remainingDs, Config.samplesPerDs, hi, lastShown_eq]
    · simp [loopShown, remainingDs, Config.samplesPerDs, hi, lastShown_eq]
  · have lost : (s.arrived p (.read .loop b 0)).settleLoops.damaged (.loop i) = true := by
      rw [damaged_of_memory (memory_settleLoops _), damaged_arrived]
      exact hd
    rw [hu]
    exact useLoop_damaged _ lost
  · rw [hu]
    exact exec_readRecord (o := .corridorSettings) rfl h readCorridor_eq
  · rw [hu, router_useCorridor, corridorInUse_arrived]
  · rw [hu, router_useCorridor, corridorInUse_arrived]
  · rw [hu, (arbiter_useCorridor _).1, corridorInUse_arrived]
  · rw [hu, ← corridorInUse_arrived s p (.read .corridorSettings 0 0)]; exact (arbiter_useCorridor _).2
  · rw [hu, seq_useCorridor, corridorInUse_arrived, seq_arrived, planList_arrived, supply_arrived]

end Sys2Proof.Machine
end

section
/-! PROOFS. The RAMP_HISTORY payload (R194) and the READs of a ramp (R35, R124, R139). -/

namespace Sys2Proof.Machine

open State

/-! ### The fields of a RAMP_HISTORY payload -/

section Fields

variable {bs rest : List Byte} {offset : Nat} {a b c d : Byte}

theorem numberAt_one (h : bs.drop offset = a :: rest) : numberAt bs offset 1 = a.toNat := by
  simp [numberAt, h]

theorem numberAt_two (h : bs.drop offset = a :: b :: rest) : numberAt bs offset 2 = a.toNat * 256 + b.toNat := by
  simp [numberAt, h]

theorem numberAt_four (h : bs.drop offset = a :: b :: c :: d :: rest) :
    numberAt bs offset 4 = ((a.toNat * 256 + b.toNat) * 256 + c.toNat) * 256 + d.toNat := by
  simp [numberAt, h]

theorem byte1_mod (n : Nat) : (byte1 n).toNat = n % 256 := by simp [byte1]

theorem bytes2_pair (n : Nat) : ∃ a b, bytes2 n = [a, b] ∧ a.toNat * 256 + b.toNat = n % 65536 := by
  refine ⟨_, _, rfl, ?_⟩
  simp only [BitVec.toNat_ofNat]
  omega

theorem optional2_pair (x : Option Nat) : ∃ a b, optional2 x = [a, b]
    ∧ a.toNat * 256 + b.toNat = match x with | some n => n % 65536 | none => 65535 := by
  cases x with
  | none => exact ⟨_, _, rfl, rfl⟩
  | some n => exact bytes2_pair n

theorem bytes4_quad (w : BitVec 32) : ∃ a b c d, bytes4 w = [a, b, c, d]
    ∧ ((a.toNat * 256 + b.toNat) * 256 + c.toNat) * 256 + d.toNat = w.toNat := by
  refine ⟨_, _, _, _, rfl, ?_⟩
  have := w.isLt
  simp only [BitVec.extractLsb'_toNat, Nat.shiftRight_eq_div_pow]
  omega

/-- The bytes of a Clock Stamp, 0xFF each where it is absent (R194). -/
def stampBytes (x : Option DateTime) : List Byte := (x.map encodeDateTime).getD (List.replicate 6 0xFF)

theorem encodeHistory_eq (h : RampHistory) : encodeHistory h
    = bytes2 h.period ++ stampBytes h.stamp
      ++ [byte1 h.state.code, (h.plan.map fun p => byte1 p.number).getD 0xFF, (h.origin.map fun o => byte1 o.code).getD 0xFF]
      ++ optional2 h.merge ++ optional2 h.arrivals ++ bytes2 h.departures ++ optional2 h.queueEnd
      ++ [byte1 h.queueEstimate]
      ++ bytes4 ((h.localRate.map (BitVec.ofInt 32)).getD 0x80000000#32)
      ++ bytes4 ((h.queueRate.map (BitVec.ofNat 32)).getD 0xFFFFFFFF#32)
      ++ optional2 h.lowLimit ++ optional2 h.highLimit ++ optional2 h.desiredRate ++ optional2 h.floor ++ optional2 h.finalRate
      ++ [byte1 (h.greens.getD 0 0), (h.greens[1]?.map byte1).getD 0xFF] ++ [h.flags.byte] := by
  have stamp : stampBytes h.stamp = match h.stamp with | some t => encodeDateTime t | none => List.replicate 6 0xFF := by
    cases h.stamp <;> rfl
  rw [stamp]
  rfl

theorem stamp_six (x : Option DateTime) : ∃ a b c d e f : Byte, stampBytes x = [a, b, c, d, e, f]
      ∧ (x = none → [a, b, c, d, e, f] = List.replicate 6 0xFF)
      ∧ ∀ t, x = some t → [a, b, c, d, e, f].map BitVec.toNat
          = [t.year % 256, t.month % 256, t.day % 256, t.hour % 256, t.minute % 256, t.second % 256] := by
  cases x with
  | none => exact ⟨_, _, _, _, _, _, rfl, fun _ => rfl, nofun⟩
  | some t =>
    refine ⟨_, _, _, _, _, _, rfl, nofun, ?_⟩
    rintro _ ⟨⟩
    simp only [List.map_cons, List.map_nil, byte1_mod]

theorem flags_byte (f : HistoryFlags) : f.byte.toNat = f.noMergeData.toNat + 2 * f.queueHeld.toNat + 4 * f.substituted.toNat
    + 8 * f.protectionActive.toNat + 16 * f.protectionLimited.toNat + 32 * f.rateClamped.toNat
    + 64 * f.fallback.toNat + 128 * f.testSeen.toNat := by
  have all : ∀ a b c d e g h i : Bool, (BitVec.ofBoolListLE [a, b, c, d, e, g, h, i]).toNat
      = a.toNat + 2 * b.toNat + 4 * c.toNat + 8 * d.toNat + 16 * e.toNat + 32 * g.toNat + 64 * h.toNat + 128 * i.toNat := by
    decide
  exact all _ _ _ _ _ _ _ _

theorem localRate_quad (x : Option Int) : (((x.map (BitVec.ofInt 32)).getD 0x80000000#32).toNat : Int)
    = match x with | some n => n % 4294967296 | none => 2147483648 := by
  cases x with
  | none => rfl
  | some n =>
    simp only [Option.map_some, Option.getD_some, BitVec.toNat_ofInt]
    omega

theorem queueRate_quad (x : Option Nat) : ((x.map (BitVec.ofNat 32)).getD 0xFFFFFFFF#32).toNat
    = match x with | some n => n % 4294967296 | none => 4294967295 := by
  cases x <;> rfl

end Fields

/-- The payload carries its record: each field is a run of bytes of its own. -/
theorem encodeHistory_carriedBy (h : RampHistory) : h.CarriedBy (encodeHistory h) := by
  obtain ⟨p1, p2, ep, vp⟩ := bytes2_pair h.period
  obtain ⟨t1, t2, t3, t4, t5, t6, et, absent, present⟩ := stamp_six h.stamp
  obtain ⟨m1, m2, em, vm⟩ := optional2_pair h.merge
  obtain ⟨a1, a2, ea, va⟩ := optional2_pair h.arrivals
  obtain ⟨d1, d2, ed, vd⟩ := bytes2_pair h.departures
  obtain ⟨q1, q2, eq, vq⟩ := optional2_pair h.queueEnd
  obtain ⟨l1, l2, l3, l4, el, vl⟩ := bytes4_quad ((h.localRate.map (BitVec.ofInt 32)).getD 0x80000000#32)
  obtain ⟨u1, u2, u3, u4, eu, vu⟩ := bytes4_quad ((h.queueRate.map (BitVec.ofNat 32)).getD 0xFFFFFFFF#32)
  obtain ⟨lo1, lo2, elo, vlo⟩ := optional2_pair h.lowLimit
  obtain ⟨hi1, hi2, ehi, vhi⟩ := optional2_pair h.highLimit
  obtain ⟨de1, de2, ede, vde⟩ := optional2_pair h.desiredRate
  obtain ⟨fl1, fl2, efl, vfl⟩ := optional2_pair h.floor
  obtain ⟨fi1, fi2, efi, vfi⟩ := optional2_pair h.finalRate
  have bytes : encodeHistory h = [p1, p2, t1, t2, t3, t4, t5, t6, byte1 h.state.code,
      (h.plan.map fun p => byte1 p.number).getD 0xFF, (h.origin.map fun o => byte1 o.code).getD 0xFF, m1, m2, a1, a2, d1, d2, q1, q2,
      byte1 h.queueEstimate, l1, l2, l3, l4, u1, u2, u3, u4, lo1, lo2, hi1, hi2, de1, de2, fl1, fl2, fi1, fi2,
      byte1 (h.greens.getD 0 0), (h.greens[1]?.map byte1).getD 0xFF, h.flags.byte] := by
    rw [encodeHistory_eq, et, ep, em, ea, ed, eq, el, eu, elo, ehi, ede, efl, efi]
    rfl
  rw [bytes]
  exact {
    length := rfl
    period := (numberAt_two rfl).trans vp
    stampAbsent := fun e => absent e
    stampPresent := fun t e => present t e
    state := (numberAt_one rfl).trans (by cases h.state <;> rfl)
    plan := (numberAt_one rfl).trans (by
      cases h.plan with
      | none => rfl
      | some x =>
        cases x with
        | builtin => rfl
        | slot k =>
          simp only [Option.map_some, Option.getD_some, byte1_mod, PlanRef.number]
          omega)
    origin := (numberAt_one rfl).trans (by
      cases h.origin with
      | none => rfl
      | some x => cases x <;> rfl)
    merge := (numberAt_two rfl).trans vm
    arrivals := (numberAt_two rfl).trans va
    departures := (numberAt_two rfl).trans vd
    queueEnd := (numberAt_two rfl).trans vq
    queueEstimate := (numberAt_one rfl).trans (byte1_mod _)
    localRate := by rw [numberAt_four rfl, vl]; exact localRate_quad _
    queueRate := (numberAt_four rfl).trans (vu.trans (queueRate_quad _))
    lowLimit := (numberAt_two rfl).trans vlo
    highLimit := (numberAt_two rfl).trans vhi
    desiredRate := (numberAt_two rfl).trans vde
    floor := (numberAt_two rfl).trans vfl
    finalRate := (numberAt_two rfl).trans vfi
    greens1 := fun n rest e => by rw [numberAt_one rfl, e]; exact byte1_mod n
    greens2 := (numberAt_one rfl).trans (by
      match h.greens with
      | [] => rfl
      | [_] => rfl
      | _ :: n :: _ => exact byte1_mod n)
    flags := (numberAt_one rfl).trans (flags_byte _) }

/-! ### READ RAMP_STATUS and the histories -/

section RampReads

variable {s : State}

theorem rampStatus_eq (r : Ramp) : s.rampStatus r =
    { state := (s.seq r).state, stopping := (s.seq r).stopping, signFlashing := (s.seq r).sign ≠ .off,
      laneCount := (s.seq r).laneCount, pendingCount := (s.seq r).pendingCount,
      sequencer := if (s.seq r).state = .unconfigured then none else some (s.seq r).show,
      supplyHold := (s.seq r).supplyHold, wasMetering := s.retained.wasMetering.get r,
      faultDark := s.retained.faultDark.get r, holdFlag := s.retained.hold.get r, list := (s.planList r).entries,
      demanded := (s.planList r).demanded,
      results := if (s.seq r).state = .unconfigured then none else (s.meas r).results,
      queueEstimate := (s.meas r).queueEstimate,
      close := if (s.seq r).state = .unconfigured then none else (s.rate r).close,
      previousClose := (s.rate r).previousClose, lastFinal := (s.rate r).lastFinal,
      lamps := Tab.ofFn fun ln => s.lampShown r ln } := by
  by_cases h : (s.seq r).state = .unconfigured
  · simp only [rampStatus, h, ne_eq, not_true_eq_false, if_false, if_true]
  · simp only [rampStatus, h, ne_eq, not_false_eq_true, if_false, if_true]

theorem show_lanes (q : Sequencer) (ln : LaneNo) : q.show.lanes.get ln = match q.lanes.get ln with
    | .dark => .dark | .restGreen => .restGreen | .red e => .red (e / 10) | .green g => .green ((g + 9) / 10) := by
  simp only [Sequencer.show, Tab.get_map]
  cases q.lanes.get ln <;> rfl

theorem ringAt_newer {α : Type} {ring older newer : List α} {h : α} {age : Nat} (hr : ring = older ++ h :: newer)
    (hn : newer.length = age) : ringAt ring age = some h := by
  subst hr hn
  simp [ringAt]

theorem ringAt_none {α : Type} {ring : List α} {age : Nat} (h : ring.length ≤ age) : ringAt ring age = none := by
  simpa [ringAt] using h

variable {b age : Byte}

theorem readRampStatus_ramp {r : Ramp} (hb : b.toNat = r.val + 1) :
    s.readRampStatus b = .shows (.rampStatus (s.rampStatus r)) s := by
  simp only [readRampStatus, rampOf_eq hb]

theorem readRampStatus_none (hb : b = 0 ∨ 7 ≤ b.toNat) : s.readRampStatus b = .refuse .badValue s := by
  simp only [readRampStatus, rampOf_none hb]

theorem readRampHistory_none (hb : b = 0 ∨ 7 ≤ b.toNat) : s.readRampHistory age b = .refuse .badValue s := by
  simp only [readRampHistory, rampOf_none hb]

theorem readRampHistory_old (ha : 20 ≤ age.toNat) : s.readRampHistory age b = .refuse .badValue s := by
  unfold readRampHistory
  split
  · rfl
  · rw [if_pos ha]

theorem readRampHistory_empty {r : Ramp} (hb : b.toNat = r.val + 1) (ha : age.toNat < 20)
    (h : (s.seq r).state = .unconfigured ∨ (s.meas r).history.length ≤ age.toNat) :
    s.readRampHistory age b = .refuse .empty s := by
  have young : ¬ Config.ringCapacity ≤ age.toNat := Nat.not_le.2 ha
  simp only [readRampHistory, rampOf_eq hb, if_neg young]
  by_cases hs : (s.seq r).state = .unconfigured
  · rw [if_pos hs]
  · rw [if_neg hs, ringAt_none (h.resolve_left hs)]

theorem readRampHistory_record {r : Ramp} {older newer : List RampHistory} {h : RampHistory} (hb : b.toNat = r.val + 1)
    (ha : age.toNat < 20) (hs : (s.seq r).state ≠ .unconfigured) (hr : (s.meas r).history = older ++ h :: newer)
    (hn : newer.length = age.toNat) : s.readRampHistory age b = .shows (.bytes (encodeHistory h)) s := by
  have young : ¬ Config.ringCapacity ≤ age.toNat := Nat.not_le.2 ha
  simp only [readRampHistory, rampOf_eq hb, if_neg young, if_neg hs, ringAt_newer hr hn]

theorem readCorridorHistory_old (ha : 20 ≤ age.toNat) : s.readCorridorHistory age = .refuse .badValue s := if_pos ha

theorem readCorridorHistory_empty (ha : age.toNat < 20) (h : s.corridorMeasure.history.length ≤ age.toNat) :
    s.readCorridorHistory age = .refuse .empty s := by
  have young : ¬ Config.ringCapacity ≤ age.toNat := Nat.not_le.2 ha
  rw [readCorridorHistory, if_neg young, ringAt_none h]

theorem readCorridorHistory_record {older newer : List CorridorHistory} {h : CorridorHistory} (ha : age.toNat < 20)
    (hr : s.corridorMeasure.history = older ++ h :: newer) (hn : newer.length = age.toNat) :
    s.readCorridorHistory age = .shows (.corridorHistory h) s := by
  have young : ¬ Config.ringCapacity ≤ age.toNat := Nat.not_le.2 ha
  rw [readCorridorHistory, if_neg young, ringAt_newer hr hn]

end RampReads

/-- Settles O28: the ramp's items one by one, then the records of the two rings. -/
theorem rampReadsShowTheRamp : Obligations.RampReadsShowTheRamp := by
  refine fun p s h => ⟨fun r b hb => ⟨?_, fun q => ⟨show_lanes q, rfl, rfl, rfl, rfl, rfl, rfl, rfl, rfl, rfl, rfl⟩,
    fun ln => ⟨rfl, rfl, fun holds hh => ?_⟩, fun age ha => ⟨fun he => ?_, fun older x newer hs hr hn => ⟨?_, encodeHistory_carriedBy x⟩⟩⟩,
    fun b hb => ⟨?_, fun age => ?_⟩, fun age b ha => ⟨?_, ?_⟩, fun age ha => ⟨fun he => ?_, fun older x newer hr hn => ?_⟩⟩
  · rw [← rampStatus_eq]
    exact exec_read (o := .rampStatus) (i := b) (ramp := 0) rfl h rfl (readRampStatus_ramp hb)
  · subst hh
    exact ⟨rfl, rfl, rfl, rfl⟩
  · exact exec_read (o := .rampHistory) (i := age) (ramp := b) rfl h rfl (readRampHistory_empty hb ha he)
  · exact exec_read (o := .rampHistory) (i := age) (ramp := b) rfl h rfl (readRampHistory_record hb ha hs hr hn)
  · exact exec_read (o := .rampStatus) (i := b) (ramp := 0) rfl h rfl (readRampStatus_none hb)
  · exact exec_read (o := .rampHistory) (i := age) (ramp := b) rfl h rfl (readRampHistory_none hb)
  · exact exec_read (o := .rampHistory) (i := age) (ramp := b) rfl h rfl (readRampHistory_old ha)
  · exact exec_read (o := .corridorHistory) (i := age) (ramp := 0) rfl h rfl (readCorridorHistory_old ha)
  · exact exec_read (o := .corridorHistory) (i := age) (ramp := 0) rfl h rfl (readCorridorHistory_empty ha he)
  · exact exec_read (o := .corridorHistory) (i := age) (ramp := 0) rfl h rfl (readCorridorHistory_record ha hr hn)

end Sys2Proof.Machine
end

section
/-! PROOFS. What the Lane Count reports raise and write beside the sequencers (R104, R122, R123), and configuration memory
(chapter 9). -/

namespace Sys2Proof.Machine

open State

/-! ### A change of ramp state -/

/-- What a change of the state of ramp `r` does beside the sequencer and the lamps: RAMP_STATE is raised by the routes that stand, and
the was-metering flag follows the new state but under the Supply Hold (R122, R123). -/
structure Turned (r : Ramp) (s t : State) : Prop where
  may : s.MayRaise t
  raised : raisedBy .rampState [s] s t
  hold : (t.seq r).supplyHold = (s.seq r).supplyHold
  flag : t.retained.wasMetering.get r = if (s.seq r).supplyHold = true then s.retained.wasMetering.get r
    else ((t.seq r).state = .warning || (t.seq r).state = .metering)

namespace Turned

variable {r : Ramp} {s t u : State}

theorem trans (h : Turned r s t) (g : Turned r t u) : Turned r s u where
  may := h.may.trans g.may
  raised := (h.may.around g.raised g.may (.of_ports rfl rfl)).1
  hold := g.hold.trans h.hold
  flag := by
    rw [g.flag, h.flag, h.hold]
    by_cases hs : (s.seq r).supplyHold = true
    · simp only [if_pos hs]
    · simp only [if_neg hs]

/-- A change of state followed by one that may or may not come. -/
theorem trans_ite (h : Turned r s t) {c : Prop} [Decidable c] (g : Turned r t u) : Turned r s (if c then u else t) := by
  split
  · exact h.trans g
  · exact h

end Turned

section

variable (s : State) (r : Ramp)

theorem delivers_setLamp (r : Ramp) (ln : LaneNo) (m : LaneMonitor) (c : EventClass) (p : Port) :
    (s.setLamp r ln m).delivers c p = s.delivers c p := rfl

theorem turned_setRampState (st : RampState) : Turned r s (s.setRampState r st) := by
  refine ⟨mayRaise_setRampState s r st, fun p => ?_, by rw [seq_setRampState], ?_⟩
  · unfold setRampState; dsimp only
    rw [pending_raise]
    split <;> split <;> simp [each, laneNos, delivers_setLamp]
  · rw [seq_setRampState]
    unfold setRampState; dsimp only
    rw [retained_raise, seq_modSeq_self]
    by_cases hs : (s.seq r).supplyHold = true
    · simp only [if_pos hs]
      split <;> simp [each, laneNos]
    · simp only [if_neg hs]
      split <;> simp [each, laneNos, setWasMetering]

theorem turned_of_rampTurns {b : Bool} {t : State} (m : s.MayRaise t) (h : s.rampTurns r b [s] t)
    (hold : (t.seq r).supplyHold = (s.seq r).supplyHold)
    (hb : b = ((t.seq r).state = .warning || (t.seq r).state = .metering)) : Turned r s t :=
  ⟨m, h.2, hold, by rw [h.1, hb]⟩

theorem turned_goDark_off : Turned r s (s.goDark r .off) :=
  turned_of_rampTurns s r (mayRaise_goDark s r .off) (goDark_turns s r (by decide)).1
    (by simp [seq_goDark, Sequencer.discard]) (by simp [seq_goDark])

theorem turned_warningEntry : Turned r s (s.warningEntry r) :=
  turned_of_rampTurns s r (mayRaise_warningEntry s r) (warningEntry_turns s r).1 (by rw [seq_warningEntry]; rfl)
    (by rw [seq_warningEntry]; rfl)

theorem turned_endingEntry : Turned r s (s.endingEntry r) :=
  turned_of_rampTurns s r (mayRaise_endingEntry s r) (endingEntry_turns s r).1 (by rw [seq_endingEntry]; rfl)
    (by simp [seq_endingEntry])

variable {s r}

/-- Before a change of state the sequencer may change in what is no state of the ramp. -/
theorem Turned.of_setSeq {q : Sequencer} {t : State} (h : Turned r (s.setSeq r q) t) :
    s.MayRaise t ∧ raisedBy .rampState [s] s t
      ∧ t.retained.wasMetering.get r = if (t.seq r).supplyHold = true then s.retained.wasMetering.get r
          else ((t.seq r).state = .warning || (t.seq r).state = .metering) :=
  ⟨(mayRaise_setSeq s r q).trans h.may, ((mayRaise_setSeq s r q).around h.raised h.may (.of_ports rfl rfl)).1, by rw [h.flag, ← h.hold]; rfl⟩

theorem turned_offFollowed {t : State} (h : Turned r s t) : Turned r s (t.offFollowed r) :=
  h.trans_ite (turned_warningEntry t r)

theorem Turned.setSeq {t : State} (h : Turned r s t) {q : Sequencer} (hs : q.state = (t.seq r).state)
    (hh : q.supplyHold = (t.seq r).supplyHold) : Turned r s (t.setSeq r q) where
  may := h.may.trans (mayRaise_setSeq t r q)
  raised := h.raised
  hold := by rw [seq_setSeq_self, hh, h.hold]
  flag := by rw [seq_setSeq_self, hs, ← h.flag]; rfl

theorem turned_offSettled {t : State} (h : Turned r s t) : Turned r s (t.offSettled r) := by
  unfold offSettled
  simp only
  split <;> split
  · refine Turned.trans ?_ (turned_setRampState _ r .unconfigured)
    exact h.setSeq rfl rfl
  · exact h.setSeq rfl rfl
  · exact h.trans (turned_setRampState t r .unconfigured)
  · exact h

/-! ### The Lane Count reports -/

/-- A Lane Count report that does not change the ramp's state raises nothing and writes no flag (R104). -/
theorem report_still (h : reportTurns s.corridorInUse s r = false) :
    (s.report r).ports = s.ports ∧ (s.report r).retained = s.retained := by
  unfold reportTurns at h
  unfold report
  cases hs : (s.seq r).state with
  | off =>
    simp only [hs, decide_eq_false_iff_not] at h ⊢
    simp only [if_neg h]
    exact ⟨rfl, rfl⟩
  | darkFault =>
    simp only [hs]
    exact ⟨rfl, rfl⟩
  | unconfigured =>
    simp only [hs, decide_eq_false_iff_not, not_not] at h ⊢
    simp only [if_pos h, and_self]
  | warning =>
    simp only [hs, decide_eq_false_iff_not, not_not] at h ⊢
    simp only [if_pos h]
    exact ⟨rfl, rfl⟩
  | metering =>
    simp only [hs] at h ⊢
    by_cases hn : s.corridorInUse.laneCount.get r = (s.seq r).laneCount
    · simp only [if_pos hn]
      exact ⟨rfl, rfl⟩
    · have green : (s.seq r).anyGreen = true := by
        rw [anyGreen_eq]
        cases h0 : ((s.seq r).lanes.get 0).isGreen <;> simp_all
      simp only [if_neg hn, if_pos green]
      exact ⟨rfl, rfl⟩
  | ending =>
    simp only [hs]
    exact ⟨rfl, rfl⟩

theorem fromOff_state (cs : CorridorRec) (d : Option PlanRef) (q : Sequencer) : (q.fromOff cs d).state ≠ .metering := by
  unfold Sequencer.fromOff Sequencer.warned
  split
  · simp
  · split <;> simp

/-- A ramp whose state a Lane Count report changes does not meter after it. -/
theorem reported_state (cs : CorridorRec) (h : reportTurns cs s r = true) (i : Bool) (d : Option PlanRef) :
    ((s.seq r).reported cs i d (cs.laneCount.get r)).state ≠ .metering := by
  unfold reportTurns at h
  unfold Sequencer.reported
  cases hs : (s.seq r).state with
  | off =>
    dsimp only
    split <;> simp
  | darkFault => simp [hs] at h
  | unconfigured =>
    dsimp only
    split
    · simp [hs]
    · exact fromOff_state _ _ _
  | warning =>
    dsimp only
    split
    · simp
    · exact fromOff_state _ _ _
  | metering =>
    simp only [hs, ne_eq, Bool.and_eq_true, Bool.not_eq_true', decide_eq_true_eq] at h ⊢
    obtain ⟨⟨hn, h0⟩, h1⟩ := h
    simp [if_neg hn, h0, h1]
  | ending => simp [hs] at h

/-- A report that changes the ramp's state is a change of state after one of the sequencer's other items. -/
theorem report_turned (h : reportTurns s.corridorInUse s r = true) : ∃ q, Turned r (s.setSeq r q) (s.report r) := by
  unfold reportTurns at h
  unfold report
  cases hs : (s.seq r).state with
  | off =>
    simp only [hs, decide_eq_true_eq] at h ⊢
    simp only [if_pos h]
    exact ⟨_, turned_setRampState _ r _⟩
  | darkFault => simp [hs] at h
  | unconfigured =>
    simp only [hs, decide_eq_true_eq] at h ⊢
    simp only [if_neg h]
    exact ⟨_, turned_offFollowed (turned_setRampState _ r _)⟩
  | warning =>
    simp only [hs, decide_eq_true_eq] at h ⊢
    simp only [if_neg h]
    exact ⟨_, turned_offFollowed (turned_offSettled (turned_goDark_off _ r))⟩
  | metering =>
    simp only [hs, ne_eq, Bool.and_eq_true, Bool.not_eq_true', decide_eq_true_eq] at h ⊢
    obtain ⟨⟨hn, h0⟩, h1⟩ := h
    have green : ¬ (s.seq r).anyGreen = true := by simp [anyGreen_eq, h0, h1]
    simp only [if_neg hn, if_neg green]
    exact ⟨_, turned_endingEntry _ r⟩
  | ending => simp [hs] at h

/-- A Lane Count report that changes the ramp's state raises RAMP_STATE and writes the was-metering flag (R104, R122, R123). -/
theorem report_turns (h : reportTurns s.corridorInUse s r = true) : raisedBy .rampState [s] s (s.report r)
    ∧ (s.report r).retained.wasMetering.get r = if ((s.report r).seq r).supplyHold = true then s.retained.wasMetering.get r
        else decide (((s.report r).seq r).state = .warning) := by
  obtain ⟨q, turned⟩ := report_turned h
  obtain ⟨-, raised, flag⟩ := turned.of_setSeq
  have calm : ((s.report r).seq r).state ≠ .metering := by
    rw [seq_report]
    exact reported_state _ h _ _
  refine ⟨raised, flag.trans ?_⟩
  simp [calm]

theorem reportTurns_congr {t : State} {cs : CorridorRec} (h : t.seq r = s.seq r) : reportTurns cs t r = reportTurns cs s r := by
  simp only [reportTurns, h]

/-- RAMP_STATE after the Lane Count reports of some ramps: raised where one of them changes its state (R104, R123). -/
theorem reports_raise (xs : List Ramp) (nodup : xs.Nodup) (s : State) :
    raisedBetween .rampState (∃ r ∈ xs, reportTurns s.corridorInUse s r = true) s (s.each xs report) := by
  induction xs generalizing s with
  | nil => intro p; simp [each]
  | cons x xs ih =>
    obtain ⟨notMem, nodup⟩ := List.nodup_cons.1 nodup
    intro p
    have routes := (mayRaise_report s x).routes p
    have corridor : (s.report x).corridorInUse = s.corridorInUse := corridorInUse_of_reads (reportReads_report s x)
    have others : (∃ r ∈ xs, reportTurns (s.report x).corridorInUse (s.report x) r = true)
        ↔ ∃ r ∈ xs, reportTurns s.corridorInUse s r = true := by
      refine exists_congr fun r => and_congr_right fun hr => ?_
      have ne : r ≠ x := fun e => notMem (e ▸ hr)
      rw [corridor, reportTurns_congr (seq_report_ne s ne)]
    have rest := ih nodup (s.report x) p
    have e : s.each (x :: xs) report = (s.report x).each xs report := rfl
    rw [others, routes] at rest
    rw [e, rest]
    have own : classIn .rampState ((s.report x).port p).pending = true
        ↔ classIn .rampState (s.port p).pending = true ∨ reportTurns s.corridorInUse s x = true ∧ s.delivers .rampState p = true := by
      cases h : reportTurns s.corridorInUse s x with
      | false => simp [State.port, (report_still h).1]
      | true => simpa using (report_turns h).1 p
    rw [own]
    simp only [List.mem_cons, or_and_right, exists_or, exists_eq_left, or_assoc]

/-- The was-metering flag of a ramp after the Lane Count reports (R104, R122). -/
theorem wasMetering_reports (s : State) (r : Ramp) : s.reports.retained.wasMetering.get r
    = if reportTurns s.corridorInUse s r = true ∧ (s.reports.seq r).supplyHold = false
      then decide ((s.reports.seq r).state = .warning) else s.retained.wasMetering.get r := by
  obtain ⟨u, reads, same, after⟩ := each_turn (fun t r => (t.seq r, t.rampOwn r)) State.reportReads report ramps ramps_nodup
    (fun i t => reportReads_report t i) (fun i j t h => by rw [seq_report_ne t h, rampOwn_report_ne t h]) s r (mem_ramps r)
  obtain ⟨sameSeq, sameOwn⟩ := Prod.mk.inj same
  obtain ⟨afterSeq, afterOwn⟩ := Prod.mk.inj after
  have corridor := corridorInUse_of_reads reads
  have flag : u.retained.wasMetering.get r = s.retained.wasMetering.get r := congrArg Prod.fst sameOwn
  have flag' : s.reports.retained.wasMetering.get r = (u.report r).retained.wasMetering.get r := congrArg Prod.fst afterOwn
  have seq' : s.reports.seq r = (u.report r).seq r := afterSeq
  rw [flag', seq', ← flag, ← corridor, ← reportTurns_congr sameSeq]
  cases h : reportTurns u.corridorInUse u r with
  | false => simp [(report_still h).2]
  | true =>
    rw [(report_turns h).2]
    cases ((u.report r).seq r).supplyHold <;> simp

end

/-! ### Uses of stored records (R159, R160) -/

/-- Settles O34: by the check state and the Damaged Mark of the record. -/
theorem useCorrectsOrDiscovers : Obligations.UseCorrectsOrDiscovers := by
  refine fun id s => ⟨fun h => ?_, fun h => ⟨fun hc => ?_, fun hc => ?_, fun hc hm => ?_, fun hc hm => ?_⟩⟩
  · simp [useRecord, h]
  · simp [useRecord, h, hc]
  · simp only [useRecord, h, if_true, hc]
    rfl
  · simp [useRecord, h, hc, hm]
  · simp only [useRecord, h, if_true, hc, hm, Bool.false_eq_true, if_false, discover]
    have room : (s.setHealth id { check := .twoErrors, damagedMark := true }).memory.damagedList = s.memory.damagedList := rfl
    simp only [room]
    by_cases hl : s.memory.damagedList.length < Config.damagedCapacity
    · simp only [if_pos hl]
      rfl
    · simp only [if_neg hl]
      rfl

/-! ### Errors (R158, R163) -/

theorem worse_eq (c : Check) : c.worse = if c = .good then .oneError else .twoErrors := by
  cases c <;> rfl

/-- One error more on a record that holds content (R158). -/
theorem addError_holds {s : State} {id : RecId} (h : s.memory.holds id = true) : s.addError id
    = s.setHealth id { check := if (s.health id).check = .good then .oneError else .twoErrors
                       damagedMark := (s.health id).damagedMark } := by
  rw [addError, if_pos h, worse_eq]

theorem addError_empty {s : State} {id : RecId} (h : s.memory.holds id = false) : s.addError id = s := by
  rw [addError, h]
  rfl

theorem setHealth_setHealth (s : State) (id : RecId) (x y : Health) : (s.setHealth id x).setHealth id y = s.setHealth id y := by
  simp [setHealth, Tab.set_set]

/-- Two errors more on a record that holds content (R163). -/
theorem addError_twice {s : State} {id : RecId} (h : s.memory.holds id = true) : (s.addError id).addError id
    = s.setHealth id { check := .twoErrors, damagedMark := (s.health id).damagedMark } := by
  have again : (s.addError id).memory.holds id = true := by
    rw [addError_holds h]
    cases id <;> exact h
  rw [addError_holds again, addError_holds h, setHealth_setHealth, health_setHealth_self]
  split <;> simp_all

theorem indexOf_iff {n : Nat} {b : Byte} {i : Fin n} : indexOf n b.toNat = some i ↔ b.toNat = i.val + 1 :=
  ⟨fun h => (index_number h).symm, indexOf_eq⟩

theorem map_indexOf {α : Type} {n : Nat} {b : Byte} {f : Fin n → α} {x : α} :
    (indexOf n b.toNat).map f = some x ↔ ∃ i : Fin n, b.toNat = i.val + 1 ∧ x = f i := by
  simp only [Option.map_eq_some_iff, indexOf_iff, eq_comm (b := x)]

theorem recIdOf_eq_some {o : ObjectKind} {b : Byte} {id : RecId} : recIdOf o b = some id ↔
    (∃ i : LoopNo, o = .loop ∧ b.toNat = i.val + 1 ∧ id = .loop i)
      ∨ (∃ k : PlanSlot, o = .plan ∧ b.toNat = k.val + 1 ∧ id = .plan k)
      ∨ (∃ i : ScheduleSlot, o = .schedule ∧ b.toNat = i.val + 1 ∧ id = .schedule i)
      ∨ (∃ i : ShiftSlot, o = .shift ∧ b.toNat = i.val + 1 ∧ id = .shift i)
      ∨ o = .safety ∧ id = .safety ∨ o = .corridorSettings ∧ id = .corridorSettings := by
  cases o with
  | loop => simp only [recIdOf, map_indexOf]; simp
  | plan => simp only [recIdOf, map_indexOf]; simp
  | schedule => simp only [recIdOf, map_indexOf]; simp
  | shift => simp only [recIdOf, map_indexOf]; simp
  | safety => simp [recIdOf, eq_comm]
  | corridorSettings => simp [recIdOf, eq_comm]
  | _ => simp [recIdOf]

theorem insertError_none {s : State} {o : ObjectKind} {b e : Byte} (h : recIdOf o b = none ∨ e ≠ 1 ∧ e ≠ 2) :
    s.insertError o b e = .refuse .badValue s := by
  unfold insertError
  cases hid : recIdOf o b with
  | none => rfl
  | some id => simp only [if_pos (h.resolve_left (by rw [hid]; simp))]

theorem insertError_empty {s : State} {o : ObjectKind} {b e : Byte} {id : RecId} (h : recIdOf o b = some id)
    (hh : s.memory.holds id = false) (he : e = 1 ∨ e = 2) : s.insertError o b e = .refuse .empty s := by
  have ne : ¬ (e ≠ 1 ∧ e ≠ 2) := by tauto
  simp only [insertError, h, if_neg ne, hh, Bool.not_false, if_true]

theorem insertError_holds {s : State} {o : ObjectKind} {b e : Byte} {id : RecId} (h : recIdOf o b = some id)
    (hh : s.memory.holds id = true) (he : e = 1 ∨ e = 2) : s.insertError o b e
      = .done (s.setHealth id { check := if e = 1 ∧ (s.health id).check = .good then .oneError else .twoErrors
                                damagedMark := (s.health id).damagedMark }) := by
  have ne : ¬ (e ≠ 1 ∧ e ≠ 2) := by tauto
  simp only [insertError, h, if_neg ne, hh, Bool.not_true, Bool.false_eq_true, if_false]
  rcases he with rfl | rfl
  · simp only [if_true, addError_holds hh, true_and]
  · rw [if_neg (by decide), addError_twice hh]
    simp

/-- Settles O35: one error, then the record that INSERT_ERROR names and the number of its errors. -/
theorem errorsWorsenTheCheckState : Obligations.ErrorsWorsenTheCheckState := by
  refine ⟨fun id s => ?_, fun o b id => ?_, fun o b e s h => ⟨fun id hid hh he => ?_, fun id hid hh he => ?_, fun hn => ?_⟩⟩
  · refine congrArg Host.Outcome.next ?_
    cases hh : s.memory.holds id with
    | true => exact addError_holds hh
    | false => exact addError_empty hh
  · exact recIdOf_eq_some
  · have reply := insertError_holds (s := s.arrived .service (.insertError o b e)) hid hh he
    exact exec_checked (q := .insertError o b e) rfl h nofun rfl rfl (authority_none rfl) reply
  · have reply := insertError_empty (s := s.arrived .service (.insertError o b e)) hid hh he
    exact exec_checked (q := .insertError o b e) rfl h nofun rfl rfl (authority_none rfl) reply
  · have reply := insertError_none (s := s.arrived .service (.insertError o b e)) hn
    exact exec_checked (q := .insertError o b e) rfl h nofun rfl rfl (authority_none rfl) reply

/-! ### The scrub (R162) -/

theorem turn_next (id : RecId) : (RecId.turn (RecId.next id)).val = ((RecId.turn id).val + 1) % 132 := by
  cases id with
  | loop i =>
    simp only [RecId.next]
    split <;> simp only [RecId.turn] <;> have := i.isLt <;> norm_num <;> omega
  | plan i =>
    simp only [RecId.next]
    split <;> simp only [RecId.turn] <;> have := i.isLt <;> norm_num <;> omega
  | schedule i =>
    simp only [RecId.next]
    split <;> simp only [RecId.turn] <;> have := i.isLt <;> norm_num <;> omega
  | shift i =>
    simp only [RecId.next]
    split <;> simp only [RecId.turn] <;> have := i.isLt <;> norm_num <;> omega
  | safety => rfl
  | corridorSettings => rfl

theorem exec_scrubRead {s : State} (h : s.running) : exec .scrubRead s = .next s.scrubRead :=
  congrArg Host.Outcome.next (whenRunning_runs h _)

/-! ### What a read of the corridor settings leaves of the retained store -/

section Retained

variable (s : State)

theorem retained_useRecord (id : RecId) : (s.useRecord id).retained = s.retained := by
  unfold useRecord
  split
  · split
    · rfl
    · rfl
    · split
      · rfl
      · unfold discover
        rw [retained_raise]
        split <;> rfl
  · rfl

theorem retained_giveUp (p : Port) (i : Fin 7) : (s.giveUp p i).retained = s.retained := by
  unfold giveUp; split <;> rfl

theorem retained_deliver (c : EventClass) (p : Port) : (s.deliver c p).retained = s.retained := rfl

theorem retained_becomeSilent (p : Port) : (s.becomeSilent p).retained = s.retained := by
  have all : ∀ t : State, (t.each recordNos (giveUp p)).retained = t.retained := fun t =>
    each_proj State.retained _ _ t fun i u => retained_giveUp u p i
  unfold becomeSilent; dsimp only
  split
  · rw [retained_deliver, all, modPort_retained]
  · rw [all, modPort_retained]

theorem retained_handCorridor (x : Option Port) (cs : CorridorRec) : (s.handCorridor x cs).retained = s.retained := by
  unfold handCorridor
  refine each_proj State.retained ports3 _ _ fun p t => ?_
  unfold takeLapse; dsimp only
  split
  · exact retained_becomeSilent _ p
  · rfl

theorem retained_takeCorridor : s.takeCorridor.retained = s.retained := by
  rw [takeCorridor, retained_useRecord, retained_handCorridor]

theorem seq_takeCorridor (r : Ramp) : s.takeCorridor.seq r = s.seq r := congrArg (·.get r) (sequencers_takeCorridor s)

theorem planList_takeCorridor (r : Ramp) : s.takeCorridor.planList r = s.planList r := congrArg (·.get r) (lists_takeCorridor s)

/-- What the Lane Count reports after a read of the settings do: the lists stand, RAMP_STATE is raised where a state changes, and the
was-metering flags follow (R104, R122, R123). -/
theorem useCorridor_reports :
    raisedBetween .rampState (∃ r, reportTurns s.corridorInUse s r = true) s.takeCorridor s.useCorridor
      ∧ ∀ r, s.useCorridor.retained.wasMetering.get r
        = if reportTurns s.corridorInUse s r = true ∧ (s.useCorridor.seq r).supplyHold = false
          then decide ((s.useCorridor.seq r).state = .warning) else s.retained.wasMetering.get r := by
  have turns : ∀ r, reportTurns s.takeCorridor.corridorInUse s.takeCorridor r = reportTurns s.corridorInUse s r := fun r => by
    rw [corridorInUse_takeCorridor, reportTurns_congr (seq_takeCorridor s r)]
  constructor
  · have raise := reports_raise ramps ramps_nodup s.takeCorridor
    simp only [turns, mem_ramps, true_and] at raise
    exact raise
  · intro r
    rw [useCorridor, wasMetering_reports, turns, retained_takeCorridor]

end Retained

/-- Settles O36: the turns of the records, then the read of the record whose turn it is. -/
theorem scrubReadsEveryRecordInTurn : Obligations.ScrubReadsEveryRecordInTurn := by
  refine ⟨turn_next, fun _ _ => turn_inj, fun s run => ⟨fun h => ?_, fun h u hu => ⟨?_, fun _ t ht => ?_⟩⟩⟩
  · rw [exec_scrubRead run, scrubRead, if_neg (Nat.not_le.2 h)]
  · subst hu
    rw [exec_scrubRead run, scrubRead, if_pos h]
    cases s.memory.scrubPosition <;> rfl
  · have lists : u.lists = s.lists := by rw [hu]
    have seq : ∀ r, u.seq r = s.seq r := fun r => by rw [hu]; rfl
    have corridor : u.corridorInUse = s.corridorInUse := by rw [hu]; rfl
    have supply : u.supply = s.supply := by rw [hu]
    have list : ∀ r, u.planList r = s.planList r := fun r => by rw [hu]; rfl
    have flags : u.retained = s.retained := by rw [hu]
    have turns : ∀ r, reportTurns u.corridorInUse u r = reportTurns s.corridorInUse s r := fun r => by
      rw [corridor, reportTurns_congr (seq r)]
    obtain ⟨raise, flag⟩ := useCorridor_reports u
    simp only [turns, flags] at raise flag
    have hu' : t = u.useCorridor := ht
    rw [hu']
    refine ⟨?_, raise, fun r => ⟨?_, flag r⟩⟩
    · rw [useCorridor, lists_reports, lists_takeCorridor, lists]
    · rw [seq_useCorridor, seq, corridor, supply, list]

end Sys2Proof.Machine
end

section
/-! PROOFS. The WRITEs of loop records (R3, R4) and of the corridor settings (R104, R187). -/

namespace Sys2Proof.Machine

open State

/-! ### WRITE LOOP -/

section LoopWrites

variable {s : State}

/-- What an event makes pending rests on neither configuration memory nor the loops. -/
theorem raise_stored (v : State) (m : ConfigMemory) (l : Tab 48 Loop) (c : EventClass) :
    ({ v with memory := m, loops := l } : State).raise c = { v.raise c with memory := m, loops := l } := by
  have routes : ∀ p, ({ v with memory := m, loops := l } : State).delivers c p = v.delivers c p := fun p => by cases p <;> rfl
  simp only [raise, routes, ports3, State.each, List.foldl_cons, List.foldl_nil]
  split <;> split <;> split <;> rfl

theorem raiseIf_stored (v : State) (m : ConfigMemory) (l : Tab 48 Loop) (b : Bool) (c : EventClass) :
    ({ v with memory := m, loops := l } : State).raiseIf b c = { v.raiseIf b c with memory := m, loops := l } := by
  unfold raiseIf
  split
  · exact raise_stored v m l c
  · rfl

/-- The event alone, with configuration memory and the loops put back. -/
theorem raiseIf_restored (v : State) (b : Bool) (c : EventClass) :
    { v.raiseIf b c with memory := v.memory, loops := v.loops } = v.raiseIf b c := by
  rw [raiseIf_ports_only]

theorem rewrittenAs_eq (x : LoopRec) (l : Loop) : l.rewrittenAs x.ident = l.writtenAs x := by
  unfold Loop.rewrittenAs Loop.writtenAs Loop.requalified
  by_cases h : x.ident.role = .unused
  · simp [h]
  · simp [h]

theorem isFault_eq (st : LoopState) : Loop.isFault st
    = decide (st = .stuckOn ∨ st = .chatter ∨ st = .noActivity ∨ st = .configLost) := by
  cases st <;> rfl

/-- The clearing of a fault by a WRITE raises LOOP_FAULT under BOTH (R17). -/
theorem writtenAs_raises (x : LoopRec) (l : Loop) (e : Edge) :
    (decide ((l.writtenAs x).state ≠ l.state) && (Loop.isFault (l.writtenAs x).state
      || (decide ((l.writtenAs x).state = .ok) && Loop.isFault l.state && decide (e = .both))))
    = decide (x.ident.role ≠ .unused ∧ e = .both
        ∧ (l.state = .stuckOn ∨ l.state = .chatter ∨ l.state = .noActivity ∨ l.state = .configLost)) := by
  have after : (l.writtenAs x).state = if x.ident.role = .unused then .unused else .ok := rfl
  rw [after, isFault_eq, isFault_eq]
  by_cases h : x.ident.role = .unused
  · simp [h]
  · cases l.state <;> simp [h]

theorem servesLane_iff (r : Role) : r.servesLane = true ↔ r = .checkin ∨ r = .passage := by
  cases r <;> simp [Role.servesLane]

/-- A loop that serves a lane names its ramp and its lane (R2). -/
theorem serves_named {x : Identity} (hw : x.wellFormed = true) (hs : x.role.servesLane = true) :
    ∃ r n, x.ramp = some r ∧ x.lane = some n := by
  rcases (servesLane_iff x.role).1 hs with h | h
  · simp only [Identity.wellFormed, h, Bool.and_eq_true, Option.isSome_iff_exists] at hw
    obtain ⟨⟨r, hr⟩, hl⟩ := hw
    cases hn : x.lane with
    | none => simp [hn, meteredLane] at hl
    | some n => exact ⟨r, n, hr, rfl⟩
  · simp only [Identity.wellFormed, h, Bool.and_eq_true, Option.isSome_iff_exists] at hw
    obtain ⟨⟨r, hr⟩, hl⟩ := hw
    cases hn : x.lane with
    | none => simp [hn, meteredLane] at hl
    | some n => exact ⟨r, n, hr, rfl⟩

variable {b : Byte} {bytes : List Byte} {i : LoopNo} {x : LoopRec}

theorem writeLoop_index (hb : b = 0 ∨ 49 ≤ b.toNat) (w : WriteData) : s.writeLoop b w = .refuse .badValue s := by
  simp only [writeLoop, indexOf_none (n := 48) hb]

theorem writeLoop_clear : s.writeLoop b .clear = .refuse .badValue s := by
  unfold writeLoop
  cases indexOf 48 b.toNat <;> rfl

theorem writeLoop_fields (hx : ∀ x, decodeLoop bytes = some x → x.ident.wellFormed = false) :
    s.writeLoop b (.fields bytes) = .refuse .badValue s := by
  unfold writeLoop
  cases indexOf 48 b.toNat with
  | none => rfl
  | some i =>
    cases hd : decodeLoop bytes with
    | none => simp only [hd]
    | some x => simp only [hd, hx x hd, Bool.not_false, if_true]

/-- The state in which a WRITE LOOP is judged: the judgements of the latest sample are taken, and the settings read where the Role
serves a lane (R3, log 6). -/
def loopJudged (x : LoopRec) (s : State) : State :=
  if x.ident.role = .checkin ∨ x.ident.role = .passage then s.settleLoops.useCorridor else s.settleLoops

theorem corridorInUse_useCorridor (s : State) : s.useCorridor.corridorInUse = s.corridorInUse := by
  rw [useCorridor, corridorInUse_of_memory (reports_fixtures _).2.2, corridorInUse_takeCorridor]

theorem corridorInUse_loopJudged (x : LoopRec) (s : State) : (loopJudged x s).corridorInUse = s.corridorInUse := by
  unfold loopJudged
  split
  · rw [corridorInUse_useCorridor, corridorInUse_of_memory (memory_settleLoops s)]
  · rw [corridorInUse_of_memory (memory_settleLoops s)]

theorem writeLoop_noLane {r : Ramp} {n : Nat} (hb : b.toNat = i.val + 1) (hx : decodeLoop bytes = some x)
    (hw : x.ident.wellFormed = true) (hs : x.ident.role = .checkin ∨ x.ident.role = .passage) (hr : x.ident.ramp = some r)
    (hn : x.ident.lane = some n) (hl : s.corridorInUse.laneCount.get r < n) :
    s.writeLoop b (.fields bytes) = .refuse .badValue (loopJudged x s) := by
  have corridor := corridorInUse_loopJudged x s
  have judged : loopJudged x s = s.settleLoops.useCorridor := if_pos hs
  rw [judged] at corridor ⊢
  have lane : s.settleLoops.useCorridor.laneExists x.ident = false := by
    simp only [laneExists, hr, hn, corridor, decide_eq_false_iff_not]
    omega
  simp only [writeLoop, indexOf_eq hb, hx, hw, Bool.not_true, Bool.false_eq_true, if_false, (servesLane_iff _).2 hs, if_true, lane]

theorem writeLoop_lane (hb : b.toNat = i.val + 1) (hx : decodeLoop bytes = some x) (hw : x.ident.wellFormed = true)
    (hl : ∀ r n, (x.ident.role = .checkin ∨ x.ident.role = .passage) → x.ident.ramp = some r → x.ident.lane = some n →
      n ≤ s.corridorInUse.laneCount.get r) :
    s.writeLoop b (.fields bytes) = (loopJudged x s).storeLoop i x := by
  have corridor := corridorInUse_loopJudged x s
  by_cases hs : x.ident.role = .checkin ∨ x.ident.role = .passage
  · have judged : loopJudged x s = s.settleLoops.useCorridor := if_pos hs
    rw [judged] at corridor ⊢
    obtain ⟨r, n, hr, hn⟩ := serves_named hw ((servesLane_iff _).2 hs)
    have lane : s.settleLoops.useCorridor.laneExists x.ident = true := by
      simp only [laneExists, hr, hn, corridor, decide_eq_true_eq]
      exact hl r n hs hr hn
    simp only [writeLoop, indexOf_eq hb, hx, hw, Bool.not_true, Bool.false_eq_true, if_false, (servesLane_iff _).2 hs, if_true, lane]
  · have judged : loopJudged x s = s.settleLoops := if_neg hs
    have serves : ¬ x.ident.role.servesLane = true := fun e => hs ((servesLane_iff _).1 e)
    rw [judged]
    simp only [writeLoop, indexOf_eq hb, hx, hw, Bool.not_true, Bool.false_eq_true, if_false, serves]

theorem storeLoop_limits {v : State} (hv : v = s.each (loopNos.filter (· ≠ i)) useLoop)
    (h : withinLimits (x.ident :: (loopNos.filter (· ≠ i)).filterMap v.countedIdentity) = false) :
    s.storeLoop i x = .refuse .badValue v := by
  simp only [storeLoop, otherLoops, ← hv, h, Bool.false_eq_true, if_false]

theorem storeLoop_stores {v : State} (hv : v = s.each (loopNos.filter (· ≠ i)) useLoop)
    (h : withinLimits (x.ident :: (loopNos.filter (· ≠ i)).filterMap v.countedIdentity) = true) :
    s.storeLoop i x = .done { v.raiseIf (decide (x.ident.role ≠ .unused ∧ v.router.edges.loopFault = .both
          ∧ ((v.loop i).state = .stuckOn ∨ (v.loop i).state = .chatter ∨ (v.loop i).state = .noActivity
            ∨ (v.loop i).state = .configLost))) .loopFault with
        memory := ConfigMemory.stored (.loop i) { v.memory with loops := v.memory.loops.set i x }
        loops := v.loops.set i (Loop.writtenAs x (v.loop i)) } := by
  simp only [storeLoop, otherLoops, ← hv, h, if_true]
  refine congrArg Reply.done ?_
  rw [rewrittenAs_eq, putLoop_eq, ← writtenAs_raises, ← raiseIf_stored]
  rfl

end LoopWrites

/-- Settles O32: the checks of R3 in their order, then what an accepted WRITE stores and raises. -/
theorem loopWritesCheckAndStore : Obligations.LoopWritesCheckAndStore := by
  refine fun p b s h hh => ⟨fun bytes hl hb => ?_, ?_, fun bytes hl hx => ?_, ?_⟩
  · exact exec_write (k := .loop) rfl h hh nofun (wf_fields hl) (writeLoop_index hb _)
  · exact exec_write (k := .loop) (i := b) (w := .clear) rfl h hh nofun rfl writeLoop_clear
  · exact exec_write (k := .loop) (i := b) rfl h hh nofun (wf_fields hl) (writeLoop_fields hx)
  · intro i bytes x hb hl hx hw u hu u' hu' v hv
    have judged : u' = loopJudged x (s.arrived p (.write .loop b (.fields bytes))) := by rw [hu', hu]; rfl
    have corridor : (s.arrived p (.write .loop b (.fields bytes))).corridorInUse = s.corridorInUse := corridorInUse_arrived _ _ _
    have run := fun {x : Reply} => exec_write (c := .writeLoop p b (.fields bytes)) (k := .loop) (i := b) (x := x) rfl h hh nofun
      (wf_fields hl)
    rw [← corridor]
    generalize s.arrived p (.write .loop b (.fields bytes)) = a at *
    rw [judged] at hv ⊢
    refine ⟨fun r n hs hr hn hlane => ?_, fun lanes => ⟨fun hlim => ?_, fun hlim => ?_⟩⟩
    · exact run (writeLoop_noLane hb hx hw hs hr hn hlane)
    · exact run ((writeLoop_lane hb hx hw lanes).trans (storeLoop_limits hv hlim))
    · exact ⟨_, run ((writeLoop_lane hb hx hw lanes).trans (storeLoop_stores hv hlim)), rfl, rfl, raiseIf_restored v _ _⟩

end Sys2Proof.Machine
end

section
/-! PROOFS. The WRITE of the corridor settings (R104, R141, R146, R187, R188). -/

namespace Sys2Proof.Machine

open State

/-! ### New Lapse Times (R146) -/

/-- The new Lapse Time of port `q` is one its Silence Timer has already reached, so that the ACTIVE port lapses, but not the sender
(R146). -/
def lapsesNow (sender : Option Port) (cs : CorridorRec) (s : State) (q : Port) : Bool :=
  !decide (sender = some q) && (decide ((s.port q).lapseTime ≠ cs.lapseTime.get (portIdx q)) && !(s.port q).silent
    && decide (cs.lapseTime.get (portIdx q) ≤ (s.port q).silenceSeconds))

/-- Port `q` takes its Lapse Time from the settings `cs`. -/
def takeOwnLapse (sender : Option Port) (cs : CorridorRec) (q : Port) (s : State) : State :=
  s.takeLapse (sender = some q) (cs.lapseTime.get (portIdx q)) q

/-- What the port itself takes: the Lapse Time, and the mark that spares the sender (R146, log 40). -/
def newLapse (sender : Option Port) (cs : CorridorRec) (s : State) (q : Port) (x : LinkPort) : LinkPort :=
  { x with
    lapseTime := cs.lapseTime.get (portIdx q)
    spared := x.spared || decide (sender = some q)
      && (decide ((s.port q).lapseTime ≠ cs.lapseTime.get (portIdx q)) && !(s.port q).silent
        && decide (cs.lapseTime.get (portIdx q) ≤ (s.port q).silenceSeconds)) }

theorem takeOwnLapse_eq (sender : Option Port) (cs : CorridorRec) (s : State) (q : Port) : takeOwnLapse sender cs q s
    = if lapsesNow sender cs s q then (s.modPort q (newLapse sender cs s q)).becomeSilent q
      else s.modPort q (newLapse sender cs s q) := by
  rw [takeOwnLapse, takeLapse, lapsesNow]
  rfl

theorem successor_congr {s t : State} (hd : t.arbiter.defaults = s.arbiter.defaults)
    (hp : ∀ q, (t.port q).silent = (s.port q).silent) (p : Port) (i : Fin 7) : t.successor p i = s.successor p i := by
  simp only [successor, hd, hp]

/-- A port that becomes SILENT keeps every other item but AUTHORITY in its Pending Set. -/
theorem port_becomeSilent (s : State) (p : Port) :
    ∃ cs, (s.becomeSilent p).port p = { s.port p with silent := true, pending := cs } := by
  obtain ⟨-, ports, -⟩ := each_giveUp p recordNos (s.modPort p fun x => { x with silent := true })
  unfold becomeSilent; dsimp only
  generalize (s.modPort p fun x => { x with silent := true }).each recordNos (giveUp p) = u at ports
  have own : u.port p = { s.port p with silent := true } := by rw [port_of_ports ports, port_modPort_self]
  split
  · exact ⟨_, by rw [port_deliver, if_pos rfl, own]⟩
  · exact ⟨_, own⟩

section Lapses

variable {sender : Option Port} {cs : CorridorRec}

/-- What one port's new Lapse Time leaves: the port itself, the Holders, AUTHORITY and the Default Holders. -/
structure Lapsed (sender : Option Port) (cs : CorridorRec) (q : Port) (s t : State) : Prop where
  others : ∀ o, o ≠ q → t.port o = s.port o
  silent : (t.port q).silent = ((s.port q).silent || lapsesNow sender cs s q)
  answers : (t.port q).answers = (s.port q).answers
  waiting : (t.port q).waiting = (s.port q).waiting
  holders : ∀ i, t.holder i = if lapsesNow sender cs s q = true ∧ s.holder i = some q then s.successor q i else s.holder i
  loses : lapsesNow sender cs s q = true → (∃ i, s.holder i = some q) → t.authorityPending q = true
  stays : lapsesNow sender cs s q = false → t.authorityPending q = s.authorityPending q
  defaults : t.arbiter.defaults = s.arbiter.defaults

theorem lapsed_takeOwnLapse (s : State) (q : Port) : Lapsed sender cs q s (takeOwnLapse sender cs q s) := by
  have e := takeOwnLapse_eq sender cs s q
  have hf : ∀ x, (newLapse sender cs s q x).silent = x.silent ∧ (newLapse sender cs s q x).answers = x.answers
      ∧ (newLapse sender cs s q x).waiting = x.waiting ∧ (newLapse sender cs s q x).pending = x.pending :=
    fun x => ⟨rfl, rfl, rfl, rfl⟩
  generalize newLapse sender cs s q = f at e hf
  have own : (s.modPort q f).port q = f (s.port q) := port_modPort_self s q f
  have others : ∀ o, o ≠ q → (s.modPort q f).port o = s.port o := fun o ho => port_modPort_ne s ho f
  have silent : ∀ o, ((s.modPort q f).port o).silent = (s.port o).silent := fun o => by
    by_cases ho : o = q
    · rw [ho, own, (hf _).1]
    · rw [others o ho]
  have authority : (s.modPort q f).authorityPending q = s.authorityPending q :=
    authorityPending_of_port (by rw [own, (hf _).2.2.2])
  have holder : ∀ i, (s.modPort q f).holder i = s.holder i := fun _ => rfl
  have defaults : (s.modPort q f).arbiter.defaults = s.arbiter.defaults := rfl
  rw [e]
  generalize s.modPort q f = u at *
  cases h : lapsesNow sender cs s q with
  | false =>
    simp only [Bool.false_eq_true, if_false]
    exact {
      others := others
      silent := by rw [silent, h, Bool.or_false]
      answers := by rw [own, (hf _).2.1]
      waiting := by rw [own, (hf _).2.2.1]
      holders := fun i => by rw [if_neg (by simp [h]), holder]
      loses := by simp [h]
      stays := fun _ => authority
      defaults := defaults }
  | true =>
    simp only [if_true]
    obtain ⟨isSilent, gives, pend, rest, -⟩ := becomeSilent_spec u q
    obtain ⟨set, port⟩ := port_becomeSilent u q
    exact {
      others := fun o ho => (rest o ho).trans (others o ho)
      silent := by rw [isSilent, h, Bool.or_true]
      answers := by rw [port, own]; exact (hf _).2.1
      waiting := by rw [port, own]; exact (hf _).2.2.1
      holders := fun i => by
        rw [gives, holder, successor_congr defaults silent]
        simp only [h, true_and]
      loses := fun _ ex => pend.2 (.inr (by simpa only [holder] using ex))
      stays := by simp [h]
      defaults := (becomeSilent_keeps u q).2.trans defaults }

/-- The record of a Holder that has lapsed: with its Default Holder, or with NONE where that is NONE or SILENT by then (R146). -/
def settledHolder (cs : CorridorRec) (t : State) (i : Fin 7) : Option Port :=
  match cs.defaultHolder.get i with
  | some d => if (t.port d).silent then none else some d
  | none => none

theorem lapsesNow_congr {s t : State} {q : Port} (h : t.port q = s.port q) : lapsesNow sender cs t q = lapsesNow sender cs s q := by
  simp only [lapsesNow, h]

/-- What the new Lapse Times of some ports leave, taken in turn. -/
structure AllLapsed (sender : Option Port) (cs : CorridorRec) (xs : List Port) (s t : State) : Prop where
  others : ∀ q, q ∉ xs → t.port q = s.port q
  silent : ∀ q ∈ xs, (t.port q).silent = ((s.port q).silent || lapsesNow sender cs s q)
  answers : ∀ q, (t.port q).answers = (s.port q).answers
  waiting : ∀ q, (t.port q).waiting = (s.port q).waiting
  free : ∀ i, s.holder i = none → t.holder i = none
  given : ∀ i q, s.holder i = some q → q ∈ xs → lapsesNow sender cs s q = true → t.holder i = settledHolder cs t i
  held : ∀ i q, s.holder i = some q → (q ∈ xs → lapsesNow sender cs s q = false) → t.holder i = some q
  loses : ∀ q ∈ xs, lapsesNow sender cs s q = true → (∃ i, s.holder i = some q) → t.authorityPending q = true
  stays : ∀ q, (q ∈ xs → lapsesNow sender cs s q = false) → t.authorityPending q = s.authorityPending q

theorem AllLapsed.silent_mono {xs : List Port} {s t : State} (h : AllLapsed sender cs xs s t) {q : Port}
    (hs : (s.port q).silent = true) : (t.port q).silent = true := by
  by_cases hq : q ∈ xs
  · rw [h.silent q hq, hs, Bool.true_or]
  · rw [h.others q hq, hs]

theorem allLapsed_each (xs : List Port) (nodup : xs.Nodup) (s : State) (hd : s.arbiter.defaults = cs.defaultHolder) :
    AllLapsed sender cs xs s (s.each xs (takeOwnLapse sender cs)) := by
  induction xs generalizing s with
  | nil =>
    exact ⟨fun _ _ => rfl, nofun, fun _ => rfl, fun _ => rfl, fun _ h => h, nofun, fun _ _ h _ => h, nofun, fun _ _ => rfl⟩
  | cons x xs ih =>
    obtain ⟨notMem, nodup⟩ := List.nodup_cons.1 nodup
    have first := lapsed_takeOwnLapse (sender := sender) (cs := cs) s x
    have e : s.each (x :: xs) (takeOwnLapse sender cs) = (takeOwnLapse sender cs x s).each xs (takeOwnLapse sender cs) := rfl
    have rest := ih nodup (takeOwnLapse sender cs x s) (first.defaults.trans hd)
    rw [e]
    generalize (takeOwnLapse sender cs x s).each xs (takeOwnLapse sender cs) = t at *
    generalize takeOwnLapse sender cs x s = u at *
    have same : ∀ q, q ≠ x → lapsesNow sender cs u q = lapsesNow sender cs s q := fun q hq => lapsesNow_congr (first.others q hq)
    have own : t.port x = u.port x := rest.others x notMem
    have ne : ∀ {q}, q ∈ xs → q ≠ x := fun hq h => notMem (h ▸ hq)
    have keep : ∀ q, q ≠ x → (q ∈ xs → lapsesNow sender cs u q = false) → t.authorityPending q = s.authorityPending q :=
      fun q hq h => (rest.stays q h).trans (authorityPending_of_port (congrArg LinkPort.pending (first.others q hq)))
    exact {
      others := fun q hq => by
        obtain ⟨hx, hxs⟩ := not_or.1 (mt List.mem_cons.2 hq)
        rw [rest.others q hxs, first.others q hx]
      silent := fun q hq => by
        rcases List.mem_cons.1 hq with rfl | hxs
        · rw [own, first.silent]
        · rw [rest.silent q hxs, first.others q (ne hxs), same q (ne hxs)]
      answers := fun q => by
        rw [rest.answers]
        by_cases hx : q = x
        · rw [hx, first.answers]
        · rw [first.others q hx]
      waiting := fun q => by
        rw [rest.waiting]
        by_cases hx : q = x
        · rw [hx, first.waiting]
        · rw [first.others q hx]
      free := fun i hi => rest.free i (by rw [first.holders, if_neg (by simp [hi]), hi])
      given := fun i q hi hq hl => by
        rcases List.mem_cons.1 hq with rfl | hxs
        · have after : u.holder i = s.successor q i := by rw [first.holders, if_pos ⟨hl, hi⟩]
          have gone : (t.port q).silent = true := by rw [own, first.silent, hl, Bool.or_true]
          unfold successor at after
          rw [hd] at after
          unfold settledHolder
          cases hdef : cs.defaultHolder.get i with
          | none =>
            rw [hdef] at after
            exact rest.free i after
          | some d =>
            rw [hdef] at after
            by_cases hdq : d = q
            · subst hdq
              simp only [decide_true, Bool.true_or, if_true] at after
              simp only [gone, if_true]
              exact rest.free i after
            · by_cases hs : (s.port d).silent = true
              · simp only [hs, Bool.or_true, if_true] at after
                have : (t.port d).silent = true := rest.silent_mono (by rw [first.others d hdq, hs])
                simp only [this, if_true]
                exact rest.free i after
              · have heir : u.holder i = some d := by simpa [hdq, hs] using after
                by_cases hm : d ∈ xs ∧ lapsesNow sender cs u d = true
                · have := rest.given i d heir hm.1 hm.2
                  rw [this, settledHolder, hdef]
                · have stay : d ∈ xs → lapsesNow sender cs u d = false := fun h => by simpa [h] using hm
                  have active : ¬ (t.port d).silent = true := by
                    by_cases h : d ∈ xs
                    · rw [rest.silent d h, stay h, first.others d hdq, Bool.or_false]; exact hs
                    · rw [rest.others d h, first.others d hdq]; exact hs
                  simp only [active]
                  exact rest.held i d heir stay
        · have hold : u.holder i = some q := by
            rw [first.holders, if_neg, hi]
            rintro ⟨-, h⟩
            exact ne hxs (Option.some.inj (hi.symm.trans h))
          exact rest.given i q hold hxs ((same q (ne hxs)).trans hl)
      held := fun i q hi hl => by
        have hold : u.holder i = some q := by
          rw [first.holders, if_neg, hi]
          rintro ⟨h, h'⟩
          have hx : q = x := Option.some.inj (hi.symm.trans h')
          rw [← hx, hl (by simp [hx])] at h
          exact Bool.noConfusion h
        exact rest.held i q hold fun hxs => (same q (ne hxs)).trans (hl (List.mem_cons_of_mem x hxs))
      loses := fun q hq hl hex => by
        rcases List.mem_cons.1 hq with rfl | hxs
        · rw [authorityPending_of_port (congrArg LinkPort.pending own)]
          exact first.loses hl hex
        · refine rest.loses q hxs ((same q (ne hxs)).trans hl) ?_
          obtain ⟨i, hi⟩ := hex
          refine ⟨i, ?_⟩
          rw [first.holders, if_neg, hi]
          rintro ⟨-, h⟩
          exact ne hxs (Option.some.inj (hi.symm.trans h))
      stays := fun q hl => by
        by_cases hx : q = x
        · subst hx
          rw [authorityPending_of_port (congrArg LinkPort.pending own), first.stays (hl (List.mem_cons_self ..))]
        · exact keep q hx fun hxs => (same q hx).trans (hl (List.mem_cons_of_mem x hxs)) }

end Lapses

/-! ### An accepted WRITE of the corridor settings (R187) -/

section Stored

variable (p : Port) (x : CorridorRec) (s : State)

/-- The settings `x` stored and handed to the Router and the Arbiter, before the ports take their Lapse Times. -/
def corridorStored : State :=
  { s with
    memory := ConfigMemory.stored .corridorSettings { s.memory with corridor := x }
    router := { s.router with routes := x.routes, edges := x.edges }
    arbiter := { s.arbiter with defaults := x.defaultHolder } }

/-- The settings stored and handed over, before the Lane Count reports. -/
def corridorHanded : State := (corridorStored x s).each ports3 (takeOwnLapse (some p) x)

theorem storeCorridor_eq : s.storeCorridor p x = (corridorHanded p x s).reports := rfl

theorem handed_eq : corridorHanded p x s = ((s.setCorridor x).storedAnew .corridorSettings).handCorridor (some p) x := rfl

theorem memory_corridorHanded :
    (corridorHanded p x s).memory = ConfigMemory.stored .corridorSettings { s.memory with corridor := x } := by
  rw [handed_eq, (handCorridor_spec _ (some p) x).2.2.1]
  rfl

theorem corridorInUse_corridorHanded : (corridorHanded p x s).corridorInUse = x := by
  have sound : (corridorHanded p x s).damaged .corridorSettings = false := by
    rw [damaged, State.health, memory_corridorHanded, ConfigMemory.stored]
    simp
  unfold corridorInUse
  rw [sound, memory_corridorHanded]
  rfl

theorem router_corridorHanded : (corridorHanded p x s).router = { s.router with routes := x.routes, edges := x.edges } := by
  rw [handed_eq, router_handCorridor]
  rfl

theorem seq_corridorHanded (r : Ramp) : (corridorHanded p x s).seq r = s.seq r := by
  rw [handed_eq, State.seq, sequencers_handCorridor]
  rfl

theorem lists_corridorHanded : (corridorHanded p x s).lists = s.lists := by
  rw [handed_eq, lists_handCorridor]
  rfl

theorem stores_of_kept {s t : State} (h : t.kept = s.kept) : t.loops = s.loops ∧ t.supply = s.supply :=
  ⟨(congrArg (fun u : State => u.loops) h :), supply_of_kept h⟩

theorem kept_corridorHanded : (corridorHanded p x s).loops = s.loops ∧ (corridorHanded p x s).supply = s.supply :=
  stores_of_kept (t := corridorHanded p x s) (s := (s.setCorridor x).storedAnew .corridorSettings)
    (by rw [handed_eq, kept_handCorridor])

theorem allLapsed_corridorHanded : AllLapsed (some p) x ports3 (corridorStored x s) (corridorHanded p x s) :=
  allLapsed_each ports3 (by decide) _ rfl

/-- The units after an accepted WRITE: memory, the Router, the Arbiter, the Lapse Times, the sequencers, the lists and the loops. -/
theorem storeCorridor_units : let t := s.storeCorridor p x
    t.memory = ConfigMemory.stored .corridorSettings { s.memory with corridor := x }
      ∧ t.router = { s.router with routes := x.routes, edges := x.edges } ∧ t.arbiter.defaults = x.defaultHolder
      ∧ (∀ q, (t.port q).lapseTime = x.lapseTime.get (portIdx q))
      ∧ (∀ r, t.seq r = (s.seq r).reported x s.supply.input (s.planList r).demanded (x.laneCount.get r))
      ∧ t.lists = s.lists ∧ t.loops = s.loops := by
  obtain ⟨lapses, defaults, -⟩ := handCorridor_spec ((s.setCorridor x).storedAnew .corridorSettings) (some p) x
  rw [← handed_eq] at lapses defaults
  have memory := memory_corridorHanded p x s
  have router := router_corridorHanded p x s
  have corridor := corridorInUse_corridorHanded p x s
  have seq := seq_corridorHanded p x s
  have lists := lists_corridorHanded p x s
  obtain ⟨loops, supply⟩ := kept_corridorHanded p x s
  rw [storeCorridor_eq]
  generalize corridorHanded p x s = u at *
  have fixed := reports_fixtures u
  have list : ∀ r, u.planList r = s.planList r := fun r => congrArg (·.get r) lists
  refine ⟨fixed.2.2.trans memory, fixed.1.trans router, ?_, fun q => ?_, fun r => ?_, ?_, ?_⟩
  · rw [fixed.2.1, defaults]
  · rw [(calm_reports u).lapseTime, lapses]
  · rw [seq_reports_reported, corridor, seq, supply, list]
  · rw [lists_reports, lists]
  · rw [(stores_of_kept (kept_reports u)).1, loops]

/-- The ports and the authority records after an accepted WRITE (R146). -/
theorem storeCorridor_lapses : AllLapsed (some p) x ports3 (corridorStored x s) (s.storeCorridor p x) := by
  have h := allLapsed_corridorHanded p x s
  rw [storeCorridor_eq]
  generalize corridorHanded p x s = u at *
  have after := calm_reports u
  have settled : ∀ i, settledHolder x u.reports i = settledHolder x u i := fun i => by
    simp only [settledHolder, after.silent]
  have all : ∀ q : Port, q ∈ ports3 := fun q => by cases q <;> decide
  exact {
    others := fun q hq => absurd (all q) hq
    silent := fun q hq => by rw [after.silent, h.silent q hq]
    answers := fun q => by rw [after.answers, h.answers]
    waiting := fun q => by rw [after.waiting, h.waiting]
    free := fun i hi => by rw [after.holder, h.free i hi]
    given := fun i q hi hq hl => by rw [after.holder, settled, h.given i q hi hq hl]
    held := fun i q hi hl => by rw [after.holder, h.held i q hi hl]
    loses := fun q hq hl hex => by rw [after.authorityPending, h.loses q hq hl hex]
    stays := fun q hl => by rw [after.authorityPending, h.stays q hl] }

theorem silent_storeCorridor : ((s.storeCorridor p x).port p).silent = (s.port p).silent := by
  have own : ((corridorHanded p x s).port p).silent = (s.port p).silent := by
    rw [handed_eq, (handCorridor_spec _ (some p) x).2.2.2 p rfl]
    rfl
  rw [storeCorridor_eq, (calm_reports _).silent, own]

end Stored

section CorridorWrites

variable {s : State} {p : Port} {x : CorridorRec} {bytes : List Byte}

/-- A ramp that a change of its Lane Count would disturb (R187). -/
def operating (s : State) (r : Ramp) : Prop := (s.seq r).state = .warning ∨ (s.seq r).state = .metering ∨ (s.seq r).state = .ending

theorem laneCountKept_iff (r : Ramp) :
    s.laneCountKept x r = true ↔ (operating s r → x.laneCount.get r = (s.seq r).laneCount) := by
  unfold laneCountKept operating
  cases (s.seq r).state <;> simp

theorem laneCountsKept_iff :
    ramps.all (s.laneCountKept x) = true ↔ ∀ r, operating s r → x.laneCount.get r = (s.seq r).laneCount := by
  simp only [List.all_eq_true, mem_ramps, true_implies, laneCountKept_iff]

theorem writeCorridor_range (hx : decodeCorridor bytes = none) :
    s.writeCorridorRecord p (.fields bytes) = .refuse .badValue s := by
  simp only [writeCorridorRecord, hx]

theorem writeCorridor_active (hx : decodeCorridor bytes = some x)
    (h : ∃ r, operating s r ∧ x.laneCount.get r ≠ (s.seq r).laneCount) :
    s.writeCorridorRecord p (.fields bytes) = .refuse .rampActive s := by
  have not : ¬ ramps.all (s.laneCountKept x) = true := by
    obtain ⟨r, hr, hn⟩ := h
    exact fun all => hn (laneCountsKept_iff.1 all r hr)
  simp only [writeCorridorRecord, hx]
  rw [if_neg not]

theorem writeCorridor_stored (hx : decodeCorridor bytes = some x)
    (h : ∀ r, operating s r → x.laneCount.get r = (s.seq r).laneCount) :
    s.writeCorridorRecord p (.fields bytes) = .done (s.storeCorridor p x) := by
  simp only [writeCorridorRecord, hx, laneCountsKept_iff.2 h, if_true]

theorem port_arrived_ne {q : Req} {o : Port} (h : o ≠ p) : (s.arrived p q).port o = s.port o := port_modPort_ne s h _

theorem answers_arrived (q : Req) (o : Port) : ((s.arrived p q).port o).answers = (s.port o).answers := by
  by_cases h : o = p
  · subst h; rw [arrived, port_modPort_self]
  · rw [port_arrived_ne h]

theorem waiting_arrived (q : Req) (o : Port) : ((s.arrived p q).port o).waiting = (s.port o).waiting := by
  by_cases h : o = p
  · subst h; rw [arrived, port_modPort_self]
  · rw [port_arrived_ne h]

/-- The port that lapses at an accepted WRITE, seen from before the arrival of the request (R146). -/
theorem lapsesNow_arrived (q : Req) (o : Port) : lapsesNow (some p) x (corridorStored x (s.arrived p q)) o
    = decide (o ≠ p ∧ (s.port o).silent = false ∧ x.lapseTime.get (portIdx o) ≠ (s.port o).lapseTime
        ∧ x.lapseTime.get (portIdx o) ≤ (s.port o).silenceSeconds) := by
  have port : (corridorStored x (s.arrived p q)).port o = (s.arrived p q).port o := rfl
  unfold lapsesNow
  rw [port]
  by_cases h : o = p
  · simp [h]
  · have ne : ¬ p = o := fun e => h e.symm
    rw [port_arrived_ne h]
    cases (s.port o).silent <;> simp [h, ne, eq_comm]

end CorridorWrites

section ReportedState

variable {cs : CorridorRec} {i : Bool} {d : Option PlanRef} {n : Nat} {q : Sequencer}

theorem fromOff_counts : (q.fromOff cs d).laneCount = q.laneCount ∧ (q.fromOff cs d).pendingCount = q.pendingCount := by
  unfold Sequencer.fromOff Sequencer.warned
  split
  · exact ⟨rfl, rfl⟩
  · split <;> exact ⟨rfl, rfl⟩

/-- A ramp in OFF, DARK_FAULT or UNCONFIGURED takes its Lane Count at once (R104). -/
theorem reported_resting (h : q.state = .off ∨ q.state = .darkFault ∨ q.state = .unconfigured ∧ n ≠ 0) :
    (q.reported cs i d n).laneCount = n ∧ (q.reported cs i d n).pendingCount = none := by
  unfold Sequencer.reported
  rcases h with h | h | ⟨h, hn⟩
  · simp only [h, and_self]
  · simp only [h, and_self]
  · simp only [h, if_neg hn]
    exact fromOff_counts

theorem reported_off_none (h : q.state = .off) (hn : n = 0) : (q.reported cs i d n).state = .unconfigured := by
  simp only [Sequencer.reported, h, hn, if_true]

/-- A report of the Lane Count In Force to an operating ramp (R104). -/
theorem reported_same (h : q.state = .warning ∨ q.state = .metering ∨ q.state = .ending) (hn : n = q.laneCount) :
    q.reported cs i d n = { q with pendingCount := none } := by
  unfold Sequencer.reported
  rcases h with h | h | h <;> simp [h, hn]

end ReportedState

theorem silent_answered (s : State) (p : Port) (q : Req) (st : Status) (y : Payload) :
    ((s.answered p q st y).port p).silent = (s.port p).silent := by
  rw [answered, port_modPort_self]

/-- The sender of a WRITE of the settings stays as it is, also where its request has waited (R146). -/
theorem silent_writeCorridor (v : State) (p : Port) (bytes : List Byte) :
    ((v.writeCorridorRecord p (.fields bytes)).state.port p).silent = (v.port p).silent := by
  cases hx : decodeCorridor bytes with
  | none =>
    rw [writeCorridor_range hx]
    rfl
  | some x =>
    by_cases h : ∃ r, operating v r ∧ x.laneCount.get r ≠ (v.seq r).laneCount
    · rw [writeCorridor_active hx h]
      rfl
    · have kept : ∀ r, operating v r → x.laneCount.get r = (v.seq r).laneCount := by
        intro r hr
        by_contra hn
        exact h ⟨r, hr, hn⟩
      rw [writeCorridor_stored hx kept]
      dsimp only [Reply.done]
      exact silent_storeCorridor p x v

/-- Settles O33: the checks of R187, then what every unit takes from the settings stored. -/
theorem corridorWritesTakeEffect : Obligations.CorridorWritesTakeEffect := by
  refine fun p s h hh => ⟨?_, fun bytes hl => ⟨fun hx => ?_, fun x hx => ⟨fun hr => ?_, fun hr => ?_, fun v hv => ?_⟩⟩⟩
  · exact exec_write (k := .corridorSettings) (i := 0) (w := .clear) rfl h hh nofun rfl rfl
  · exact exec_write (k := .corridorSettings) (i := 0) rfl h hh nofun (wf_fields hl) (writeCorridor_range hx)
  · exact exec_write (k := .corridorSettings) (i := 0) rfl h hh nofun (wf_fields hl) (writeCorridor_active hx hr)
  · have run := fun {y : Reply} => exec_write (c := .writeCorridorSettings p (.fields bytes)) (k := .corridorSettings) (i := 0)
      (x := y) rfl h hh nofun (wf_fields hl)
    have kept : ∀ r, operating (s.arrived p (.write .corridorSettings 0 (.fields bytes))) r →
        x.laneCount.get r = ((s.arrived p (.write .corridorSettings 0 (.fields bytes))).seq r).laneCount := hr
    have reply := run (writeCorridor_stored hx kept)
    dsimp only [Reply.done] at reply
    obtain ⟨memory, router, defaults, lapses, seq, lists, loops⟩ :=
      storeCorridor_units p x (s.arrived p (.write .corridorSettings 0 (.fields bytes)))
    have lapsed := storeCorridor_lapses p x (s.arrived p (.write .corridorSettings 0 (.fields bytes)))
    have now := lapsesNow_arrived (s := s) (p := p) (x := x) (.write .corridorSettings 0 (.fields bytes))
    have silent := silent_arrived (s := s) (p := p) (.write .corridorSettings 0 (.fields bytes))
    have answers := answers_arrived (s := s) (p := p) (.write .corridorSettings 0 (.fields bytes))
    have waiting := waiting_arrived (s := s) (p := p) (.write .corridorSettings 0 (.fields bytes))
    have pend := fun q => authorityPending_arrived s p q (.write .corridorSettings 0 (.fields bytes))
    have before : ∀ q, ((corridorStored x (s.arrived p (.write .corridorSettings 0 (.fields bytes)))).port q)
        = (s.arrived p (.write .corridorSettings 0 (.fields bytes))).port q := fun _ => rfl
    have pendBefore : ∀ q, (corridorStored x (s.arrived p (.write .corridorSettings 0 (.fields bytes)))).authorityPending q
        = (s.arrived p (.write .corridorSettings 0 (.fields bytes))).authorityPending q := fun _ => rfl
    have hold : ∀ i, (corridorStored x (s.arrived p (.write .corridorSettings 0 (.fields bytes)))).holder i = s.holder i :=
      fun _ => rfl
    have seq : ∀ r, _ = (s.seq r).reported x s.supply.input (s.planList r).demanded (x.laneCount.get r) := seq
    refine ⟨_, reply, memory, router, defaults, lapses, ?_⟩
    generalize (s.arrived p (.write .corridorSettings 0 (.fields bytes))).storeCorridor p x = t at seq lapsed lists loops ⊢
    generalize corridorStored x (s.arrived p (.write .corridorSettings 0 (.fields bytes))) = u at lapsed now before pendBefore hold
    refine ⟨fun r hs => ?_, fun r hs hn => ?_, fun r hs => ?_, seq, fun q lapse hq => ?_, fun i hi => ?_, lists, loops⟩
    · rw [seq]
      exact reported_resting hs
    · rw [seq]
      exact reported_off_none hs hn
    · rw [seq]
      exact reported_same hs (hr r hs)
    · rw [← now] at hq
      have mem : q ∈ ports3 := by cases q <;> decide
      refine ⟨?_, fun e ex => ?_, fun e => ?_, fun i hi => ?_, ?_, ?_⟩
      · rw [lapsed.silent q mem, before, silent, hq]
      · exact lapsed.loses q mem (hq ▸ e) (by simpa only [hold] using ex)
      · rw [lapsed.stays q fun _ => hq ▸ e, pendBefore, pend]
      · cases hv : lapse with
        | true => exact lapsed.given i q ((hold i).trans hi) mem (hq ▸ hv)
        | false => exact lapsed.held i q ((hold i).trans hi) fun _ => hq ▸ hv
      · rw [lapsed.answers, before, answers]
      · rw [lapsed.waiting, before, waiting]
    · exact lapsed.free i ((hold i).trans hi)
  · have run : v.takeRequest p (.write .corridorSettings 0 (.fields bytes)) = _ :=
      takeRequest_reply (perform_write nofun (wf_fields hl) hv) nofun
    refine ⟨_, rfl, ?_⟩
    rw [run, silent_answered]
    exact silent_writeCorridor v p bytes

end Sys2Proof.Machine
end

section
/-! PROOFS. The judgements of the loops (R11 to R14, R17) and test presence (R7, R8). -/

namespace Sys2Proof.Machine

open State

/-! ### The judgements of one loop -/

namespace Loop

theorem stateAfter_ne_unused (x : LoopRec) (due : Bool) (l : Loop) : l.stateAfter x due ≠ .unused := by
  unfold stateAfter
  split
  · decide
  · split
    · decide
    · split <;> decide

theorem qualifies_ne_unused {l : Loop} (h : l.qualifies = true) : l.state ≠ .unused := by
  intro e
  simp [qualifies, e] at h

/-- What a change of the state of a loop in use raises (R17). -/
theorem change_raises {old st : LoopState} (ho : old ≠ .unused) (hs : st ≠ .unused) (e : Edge) :
    (decide (st ≠ old) && (isFault st || (decide (st = .ok) && isFault old && decide (e = .both))))
      = decide (old ≠ st ∧ (st ≠ .ok ∨ e = .both)) := by
  rw [isFault_eq, isFault_eq]
  cases old <;> cases st <;> simp_all

/-- A loop out of use or without its record keeps its state at every judgement (R11). -/
theorem judged_of_not {l : Loop} (h : l.qualifies = false) (x : LoopRec) (due : Bool) : l.judged x due = l.state := by
  have stuck : l.enterStuck x = l := by simp [enterStuck, stuckEntryDue, h]
  have clear : l.clearStuck = l := by simp [clearStuck, stuckClearDue, h]
  have silence : l.enterSilence x = l := by simp [enterSilence, silenceEntryDue, h]
  unfold judged
  simp only [stuck, clear, silence]
  cases due with
  | false => simp [shown, h]
  | true =>
    have judge : l.judgeSecond x = { l with edges := 0 } := by simp [judgeSecond, h]
    have same : ({ l with edges := 0 } : Loop).qualifies = l.qualifies := qualifies_of_state rfl
    simp [judge, shown, same, h]

theorem qualifies_judgeSecond (x : LoopRec) (l : Loop) : (l.judgeSecond x).qualifies = l.qualifies := by
  refine qualifies_of_state ?_
  unfold judgeSecond
  split
  · split
    · rfl
    · split
      · split <;> rfl
      · rfl
  · rfl

/-- A judged second changes the chatter condition, its quiet run and the edge count alone (R14). -/
theorem judgeSecond_frame (x : LoopRec) (l : Loop) :
    l.judgeSecond x = { l with chatter := (l.judgeSecond x).chatter, quietRun := (l.judgeSecond x).quietRun, edges := 0 } := by
  unfold judgeSecond
  split
  · split
    · rfl
    · split
      · split <;> rfl
      · rfl
  · rfl

/-- The judgement of the second takes the chatter condition that it brings into the state (R11, R14). -/
theorem stateAfter_judgeSecond (x : LoopRec) {l : Loop} (h : l.qualifies = true) :
    (l.judgeSecond x).stateAfter x false = l.stateAfter x true := by
  have stuck : (l.judgeSecond x).stuckAfter x = l.stuckAfter x := by
    rw [judgeSecond_frame]; rfl
  have silence : (l.judgeSecond x).silenceAfter x = l.silenceAfter x := by
    rw [judgeSecond_frame]; rfl
  have chatter : (l.judgeSecond x).chatterAfter x false = l.chatterAfter x true := (second_judged x h).1
  simp only [stateAfter, stuck, chatter, silence]

end Loop

/-! ### The steps of one loop (R12, R13) -/

section LoopSteps

variable {s : State} {i : LoopNo}

/-- The replacement of a loop in use by one in use (R17). -/
theorem putLoop_raises {l : Loop} (ho : (s.loop i).state ≠ .unused) (hl : l.state ≠ .unused) :
    s.putLoop i l = (s.setLoop i l).raiseIf
      ((s.loop i).state ≠ l.state ∧ (l.state ≠ .ok ∨ s.router.edges.loopFault = .both)) .loopFault := by
  rw [putLoop_eq, Loop.change_raises ho hl]

/-- A judgement of a loop in use: its new conditions, with the state that all judgements of the sample give (R11, R17). -/
theorem rejudge_eq {f : Loop → Loop} (hq : (s.loop i).qualifies = true) (hf : (f (s.loop i)).state = (s.loop i).state) :
    s.rejudge i f = (s.setLoop i { f (s.loop i) with
        state := (f (s.loop i)).stateAfter (s.memory.loops.get i) s.timer.secondDue }).raiseIf
      ((s.loop i).state ≠ (f (s.loop i)).stateAfter (s.memory.loops.get i) s.timer.secondDue
        ∧ ((f (s.loop i)).stateAfter (s.memory.loops.get i) s.timer.secondDue ≠ .ok ∨ s.router.edges.loopFault = .both))
      .loopFault := by
  have q : (f (s.loop i)).qualifies = true := (Loop.qualifies_of_state hf).trans hq
  unfold rejudge
  dsimp only
  rw [Loop.judged_eq_stateAfter _ _ q,
    putLoop_raises (Loop.qualifies_ne_unused hq) (Loop.stateAfter_ne_unused _ _ _)]
  rfl

theorem exec_stuckOnEntry (h : s.running) : exec (.stuckOnEntry i) s = .next (s.stuckOnEntry i) :=
  congrArg Host.Outcome.next (whenRunning_runs h _)

theorem exec_stuckOnClear (h : s.running) : exec (.stuckOnClear i) s = .next (s.stuckOnClear i) :=
  congrArg Host.Outcome.next (whenRunning_runs h _)

theorem exec_silenceEntry (h : s.running) : exec (.silenceEntry i) s = .next (s.silenceEntry i) :=
  congrArg Host.Outcome.next (whenRunning_runs h _)

theorem stuckEntryDue_iff : (s.loop i).stuckEntryDue (s.loopRec i) = true ↔ (s.loop i).qualifies = true
    ∧ (s.loop i).stuckOn = false ∧ (s.memory.loops.get i).stuckOnTime * 100 ≤ (s.loop i).stuckRun := by
  simp only [Loop.stuckEntryDue, Bool.and_eq_true, Bool.not_eq_true', decide_eq_true_iff, and_assoc]
  exact Iff.rfl

theorem stuckClearDue_iff : (s.loop i).stuckClearDue = true ↔ (s.loop i).qualifies = true
    ∧ (s.loop i).stuckOn = true ∧ 200 ≤ (s.loop i).clearRun := by
  simp only [Loop.stuckClearDue, Bool.and_eq_true, decide_eq_true_iff, and_assoc, Config.stuckClearSamples]

theorem silenceEntryDue_iff : (s.loop i).silenceEntryDue (s.loopRec i) = true ↔ (s.loop i).qualifies = true
    ∧ (s.loop i).silence = false ∧ (s.memory.loops.get i).silenceTime * 6000 ≤ (s.loop i).silenceRun := by
  simp only [Loop.silenceEntryDue, Bool.and_eq_true, Bool.not_eq_true', decide_eq_true_iff, and_assoc]
  exact Iff.rfl

end LoopSteps

/-- Settles O37: each step by whether it is due, then by the judgement of the loop. -/
theorem loopConditionsFollowTheirRuns : Obligations.LoopConditionsFollowTheirRuns := by
  intro i s x run hx
  subst hx
  refine ⟨fun hq => ⟨fun h1 h2 => ?_, fun h1 h2 l st hl hst => ?_, fun h1 h2 l st hl hst => ?_⟩, fun h => ?_, fun h => ?_, fun h => ?_⟩
  · have due := stuckEntryDue_iff.2 ⟨hq, h1, h2⟩
    have entered : (s.loop i).enterStuck (s.loopRec i) = { s.loop i with stuckOn := true, clearRun := 0 } := if_pos due
    have after : ({ s.loop i with stuckOn := true, clearRun := 0 } : Loop).stateAfter (s.memory.loops.get i) s.timer.secondDue
        = .stuckOn := by simp [Loop.stateAfter, Loop.stuckAfter]
    rw [exec_stuckOnEntry run, stuckOnEntry, if_pos due, rejudge_eq hq (by rw [entered]), entered, after]
    simp
  · have due := stuckClearDue_iff.2 ⟨hq, h1, h2⟩
    have cleared : (s.loop i).clearStuck = l := (if_pos due).trans hl.symm
    rw [exec_stuckOnClear run, stuckOnClear, if_pos due, rejudge_eq hq (by rw [cleared, hl]), cleared, ← hst]
  · have due := silenceEntryDue_iff.2 ⟨hq, h1, h2⟩
    have entered : (s.loop i).enterSilence (s.loopRec i) = l := (if_pos due).trans hl.symm
    have fault : st ≠ .ok := by
      have silent : l.silenceAfter (s.memory.loops.get i) = true := by simp [hl, Loop.silenceAfter]
      rw [hst, Loop.stateAfter, silent]
      split
      · decide
      · split <;> decide
    rw [exec_silenceEntry run, silenceEntry, if_pos due, rejudge_eq hq (by rw [entered, hl]), entered, ← hst]
    simp [fault]
  · rw [exec_stuckOnEntry run, stuckOnEntry, if_neg]
    rw [stuckEntryDue_iff]
    rintro ⟨a, b, c⟩
    rcases h with h | h | h
    · simp [h] at a
    · simp [h] at b
    · omega
  · rw [exec_stuckOnClear run, stuckOnClear, if_neg]
    rw [stuckClearDue_iff]
    rintro ⟨a, b, c⟩
    rcases h with h | h | h
    · simp [h] at a
    · simp [h] at b
    · omega
  · rw [exec_silenceEntry run, silenceEntry, if_neg]
    rw [silenceEntryDue_iff]
    rintro ⟨a, b, c⟩
    rcases h with h | h | h
    · simp [h] at a
    · simp [h] at b
    · omega

/-! ### Test presence (R7, R8) -/

theorem between_eq {lo hi n : Nat} (h : lo ≤ n) (h' : n ≤ hi) : between lo hi n = some n := if_pos ⟨h, h'⟩

theorem testPresence_sets {s : State} {b d : Byte} {i : LoopNo} (hb : b.toNat = i.val + 1) (h1 : 1 ≤ d.toNat) (h100 : d.toNat ≤ 100) :
    s.testPresence b d = .done (s.setLoop i { s.loop i with testActive := true, testTimer := 10 * d.toNat }) := by
  simp only [testPresence, indexOf_eq hb, between_eq h1 h100, Config.samplesPerDs, Nat.mul_comm d.toNat]

theorem testPresence_duration {s : State} {b d : Byte} (h : d = 0 ∨ 101 ≤ d.toNat) :
    s.testPresence b d = .refuse .badValue s := by
  have none : between 1 100 d.toNat = none := by
    refine if_neg ?_
    rcases h with rfl | h
    · simp
    · omega
  unfold testPresence
  rw [none]
  cases indexOf 48 b.toNat <;> rfl

theorem testPresence_index {s : State} {b d : Byte} (h : b = 0 ∨ 49 ≤ b.toNat) : s.testPresence b d = .refuse .badValue s := by
  simp only [testPresence, indexOf_none (n := 48) h]

theorem exec_testPresenceEnd {s : State} {i : LoopNo} (h : s.running) :
    exec (.testPresenceEnd i) s = .next (s.testPresenceEnd i) :=
  congrArg Host.Outcome.next (whenRunning_runs h _)

/-- Settles O39: the request by its two numbers, the end by the test timer. -/
theorem testPresenceRunsItsTime : Obligations.TestPresenceRunsItsTime := by
  refine ⟨fun i b d s h hb => ⟨fun h1 h100 => ?_, fun hd => ?_⟩, fun b d s h hb => ?_, fun i s run => ⟨fun ha ht => ?_, fun h => ?_⟩⟩
  · have reply := testPresence_sets (s := s.arrived .service (.testPresence b d)) hb h1 h100
    exact exec_checked (q := .testPresence b d) rfl h nofun rfl rfl (authority_none rfl) reply
  · have reply := testPresence_duration (s := s.arrived .service (.testPresence b d)) (b := b) hd
    exact exec_checked (q := .testPresence b d) rfl h nofun rfl rfl (authority_none rfl) reply
  · have reply := testPresence_index (s := s.arrived .service (.testPresence b d)) (d := d) hb
    exact exec_checked (q := .testPresence b d) rfl h nofun rfl rfl (authority_none rfl) reply
  · rw [exec_testPresenceEnd run, testPresenceEnd, if_pos ⟨ha, ht⟩]
  · rw [exec_testPresenceEnd run, testPresenceEnd, if_neg]
    rintro ⟨ha, ht⟩
    rcases h with h | h
    · simp [h] at ha
    · exact h ht

/-! ### The second (R14) -/

theorem exec_chatterSecondJudgement {s : State} (h : s.running) :
    exec .chatterSecondJudgement s = .next s.chatterSecondJudgement :=
  congrArg Host.Outcome.next (whenRunning_runs h _)

/-- A loop as the judgement of its second leaves it, once the second is no longer due (R14). -/
def secondJudged (x : LoopRec) (l : Loop) : Loop := { l.judgeSecond x with state := (l.judgeSecond x).judged x false }

/-- The second of one loop judged in turn. -/
def judgeLoopSecond (i : LoopNo) (s : State) : State := s.rejudge i (Loop.judgeSecond (s.loopRec i))

section Second

/-- What the judgement of the second reads beside the loops. -/
def State.loopReads (s : State) : ConfigMemory × PeriodTimer × Router := (s.memory, s.timer, s.router)

theorem loopReads_judge (i : LoopNo) (s : State) : (judgeLoopSecond i s).loopReads = s.loopReads := by
  have frame : { judgeLoopSecond i s with loops := s.loops, ports := s.ports } = s := rejudge_frame s i _
  have same : ({ judgeLoopSecond i s with loops := s.loops, ports := s.ports } : State).loopReads
      = (judgeLoopSecond i s).loopReads := rfl
  rw [← same, frame]

theorem loop_judge_self (i : LoopNo) (s : State) (hd : s.timer.secondDue = false) :
    (judgeLoopSecond i s).loop i = secondJudged (s.memory.loops.get i) (s.loop i) := by
  rw [judgeLoopSecond, loop_rejudge_self, hd]
  rfl

theorem loop_judge_ne {i j : LoopNo} (h : j ≠ i) (s : State) : (judgeLoopSecond i s).loop j = s.loop j :=
  loop_rejudge_ne s _ h

theorem secondJudged_of_not {x : LoopRec} {l : Loop} (h : l.qualifies = false) : secondJudged x l = { l with edges := 0 } := by
  have judge : l.judgeSecond x = { l with edges := 0 } := by simp [Loop.judgeSecond, h]
  have q : (l.judgeSecond x).qualifies = false := (Loop.qualifies_judgeSecond x l).trans h
  rw [secondJudged, Loop.judged_of_not q, judge]

theorem state_secondJudged {x : LoopRec} {l : Loop} (h : l.qualifies = true) : (secondJudged x l).state = l.stateAfter x true := by
  have q : (l.judgeSecond x).qualifies = true := (Loop.qualifies_judgeSecond x l).trans h
  rw [secondJudged, Loop.judged_eq_stateAfter _ _ q, Loop.stateAfter_judgeSecond x h]

/-- The judged second changes the state of loop `i` so that LOOP_FAULT is raised (R17). -/
def secondFaults (s : State) (i : LoopNo) : Prop := (s.loop i).qualifies = true
  ∧ (secondJudged (s.memory.loops.get i) (s.loop i)).state ≠ (s.loop i).state
  ∧ ((secondJudged (s.memory.loops.get i) (s.loop i)).state ≠ .ok ∨ s.router.edges.loopFault = .both)

theorem secondFaults_congr {s t : State} (h : t.loopReads = s.loopReads) {i : LoopNo} (hi : t.loop i = s.loop i) :
    secondFaults t i ↔ secondFaults s i := by
  have memory : t.memory = s.memory := congrArg (·.1) h
  have router : t.router = s.router := congrArg (·.2.2) h
  simp only [secondFaults, hi, memory, router]

theorem delivers_setLoop (s : State) (i : LoopNo) (l : Loop) (c : EventClass) (p : Port) :
    (s.setLoop i l).delivers c p = s.delivers c p := rfl

/-- The event of one loop's second, and the routes it leaves. -/
theorem judge_raise (i : LoopNo) (s : State) (hd : s.timer.secondDue = false) :
    raisedBetween .loopFault (secondFaults s i) s (judgeLoopSecond i s)
      ∧ ∀ c p, (judgeLoopSecond i s).delivers c p = s.delivers c p := by
  have e : judgeLoopSecond i s = s.putLoop i (secondJudged (s.memory.loops.get i) (s.loop i)) := by
    rw [judgeLoopSecond, rejudge, hd]
    rfl
  have own : ∀ j, s.loop j = s.loop j := fun _ => rfl
  cases h : (s.loop i).qualifies with
  | false =>
    have still : ¬ secondFaults s i := fun f => by simp [secondFaults, h] at f
    rw [e, secondJudged_of_not h, putLoop_eq]
    refine ⟨fun p => ?_, fun c p => ?_⟩
    · rw [pending_raiseIf]
      simp [still]
    · rw [delivers_raiseIf, delivers_setLoop]
  | true =>
    have used : (secondJudged (s.memory.loops.get i) (s.loop i)).state ≠ .unused := by
      rw [state_secondJudged h]
      exact Loop.stateAfter_ne_unused _ _ _
    have faults : secondFaults s i ↔ (s.loop i).state ≠ (secondJudged (s.memory.loops.get i) (s.loop i)).state
        ∧ ((secondJudged (s.memory.loops.get i) (s.loop i)).state ≠ .ok ∨ s.router.edges.loopFault = .both) := by
      rw [secondFaults, ne_comm]
      simp only [h, true_and]
    rw [e, putLoop_raises (Loop.qualifies_ne_unused h) used]
    refine ⟨fun p => ?_, fun c p => ?_⟩
    · rw [pending_raiseIf, faults, delivers_setLoop, port_setLoop]
      simp only [decide_true, Bool.and_true, Bool.or_eq_true, Bool.and_eq_true, decide_eq_true_eq]
    · rw [delivers_raiseIf, delivers_setLoop]

theorem each_judge_raise (xs : List LoopNo) (nodup : xs.Nodup) (s : State) (hd : s.timer.secondDue = false) :
    raisedBetween .loopFault (∃ i ∈ xs, secondFaults s i) s (s.each xs judgeLoopSecond) := by
  induction xs generalizing s with
  | nil => intro p; simp [each]
  | cons x xs ih =>
    obtain ⟨notMem, nodup⟩ := List.nodup_cons.1 nodup
    have reads := loopReads_judge x s
    obtain ⟨first, routes⟩ := judge_raise x s hd
    have rest := ih nodup (judgeLoopSecond x s) ((congrArg (·.2.1.secondDue) reads).trans hd)
    have others : (∃ i ∈ xs, secondFaults (judgeLoopSecond x s) i) ↔ ∃ i ∈ xs, secondFaults s i :=
      exists_congr fun i => and_congr_right fun hi =>
        secondFaults_congr reads (loop_judge_ne (fun e : i = x => notMem (e ▸ hi)) s)
    have e : s.each (x :: xs) judgeLoopSecond = (judgeLoopSecond x s).each xs judgeLoopSecond := rfl
    intro p
    rw [e, rest p, others, routes, first p]
    simp only [List.mem_cons, or_and_right, exists_or, exists_eq_left, or_assoc]

/-- The judgement of a due second is the judgement of every loop's (R14). -/
theorem chatterSecond_due {s : State} (h : s.timer.secondDue = true) : s.chatterSecondJudgement
    = ({ s with timer := { s.timer with secondDue := false } } : State).each loopNos judgeLoopSecond := by
  rw [chatterSecondJudgement, if_pos h]
  rfl

theorem loop_chatterSecond {s : State} (h : s.timer.secondDue = true) (i : LoopNo) :
    s.chatterSecondJudgement.loop i = secondJudged (s.memory.loops.get i) (s.loop i) := by
  rw [chatterSecond_due h]
  refine (each_at State.loop State.loopReads
    (fun c i l => { l.judgeSecond (c.1.loops.get i) with
      state := (l.judgeSecond (c.1.loops.get i)).judged (c.1.loops.get i) c.2.1.secondDue })
    judgeLoopSecond loopNos loopNos_nodup loopReads_judge (fun i t => ?_) (fun i j t hj => loop_judge_ne hj t) _ i).trans ?_
  · rw [judgeLoopSecond, loop_rejudge_self]
    rfl
  · rw [if_pos (mem_loopNos i)]
    rfl

/-- The judgement of the second leaves all but the loops, the mark of the second and what is pending alone. -/
theorem chatterSecond_frame {s : State} (h : s.timer.secondDue = true) :
    { s.chatterSecondJudgement with loops := s.loops, ports := s.ports }
      = ({ s with timer := { s.timer with secondDue := false } } : State) := by
  rw [chatterSecond_due h]
  refine each_induct (P := fun t => { t with loops := s.loops, ports := s.ports }
    = ({ s with timer := { s.timer with secondDue := false } } : State)) loopNos _ rfl fun i t ht => ?_
  have frame : { judgeLoopSecond i t with loops := t.loops, ports := t.ports } = t := rejudge_frame t i _
  rw [← ht]
  exact (congrArg (fun u : State => { u with loops := s.loops, ports := s.ports }) frame :)

end Second

/-- The chatter condition and its quiet run after the second of a loop in use (R14). -/
theorem judgeSecond_over {x : LoopRec} {l : Loop} (h : l.qualifies = true) (he : x.chatterLimit < l.edges) :
    (l.judgeSecond x).chatter = true ∧ (l.judgeSecond x).quietRun = 0 := by
  simp [Loop.judgeSecond, h, he]

theorem judgeSecond_quiet {x : LoopRec} {l : Loop} (h : l.qualifies = true) (he : l.edges ≤ x.chatterLimit)
    (hc : l.chatter = true) :
    (29 ≤ l.quietRun → (l.judgeSecond x).chatter = false ∧ (l.judgeSecond x).quietRun = 0)
      ∧ (l.quietRun < 29 → (l.judgeSecond x).chatter = true ∧ (l.judgeSecond x).quietRun = l.quietRun + 1) := by
  have few : ¬ x.chatterLimit < l.edges := Nat.not_lt.2 he
  refine ⟨fun hq => ?_, fun hq => ?_⟩
  · have long : Config.quietSeconds ≤ l.quietRun + 1 := Nat.succ_le_succ hq
    simp [Loop.judgeSecond, h, few, hc, long]
  · have short : ¬ Config.quietSeconds ≤ l.quietRun + 1 := Nat.not_le.2 (Nat.succ_lt_succ hq)
    simp [Loop.judgeSecond, h, few, hc, short]

theorem judgeSecond_still {x : LoopRec} {l : Loop} (h : l.qualifies = true) (he : l.edges ≤ x.chatterLimit)
    (hc : l.chatter = false) : (l.judgeSecond x).chatter = false := by
  have few : ¬ x.chatterLimit < l.edges := Nat.not_lt.2 he
  simp [Loop.judgeSecond, h, few, hc]

/-- What the judged second leaves alone. -/
theorem secondJudged_keeps (x : LoopRec) (l : Loop) : (secondJudged x l).edges = 0 ∧ (secondJudged x l).stuckOn = l.stuckOn
    ∧ (secondJudged x l).silence = l.silence ∧ (secondJudged x l).onSamples = l.onSamples ∧ (secondJudged x l).count = l.count := by
  rw [secondJudged, Loop.judgeSecond_frame]
  exact ⟨rfl, rfl, rfl, rfl, rfl⟩

/-- Settles O38: every loop by its own second, and LOOP_FAULT by the loops whose state changes. -/
theorem secondJudgesChatterOfEveryLoop : Obligations.SecondJudgesChatterOfEveryLoop := by
  refine fun s run => ⟨fun hd => ?_, fun hd => ⟨_, exec_chatterSecondJudgement run, ?_⟩⟩
  · rw [exec_chatterSecondJudgement run, chatterSecondJudgement, if_neg (by simp [hd])]
  · have frame := chatterSecond_frame hd
    have loops := loop_chatterSecond hd
    have raise := each_judge_raise loopNos loopNos_nodup ({ s with timer := { s.timer with secondDue := false } } : State) rfl
    rw [← chatterSecond_due hd] at raise
    generalize s.chatterSecondJudgement = t at *
    refine ⟨(congrArg State.timer frame :), (congrArg State.memory frame :), (congrArg State.sequencers frame :),
      (congrArg State.lists frame :), ?_, fun i => ?_⟩
    · have faults : (∃ i ∈ loopNos, secondFaults ({ s with timer := { s.timer with secondDue := false } } : State) i)
          ↔ ∃ i, (s.loop i).qualifies = true ∧ (t.loop i).state ≠ (s.loop i).state
            ∧ ((t.loop i).state ≠ .ok ∨ s.router.edges.loopFault = .both) := by
        refine exists_congr fun i => ?_
        rw [loops]
        simp only [mem_loopNos, true_and]
        exact Iff.rfl
      intro p
      rw [raise p, faults]
      exact Iff.rfl
    · rw [loops]
      obtain ⟨edges, stuck, silence, samples, count⟩ := secondJudged_keeps (s.memory.loops.get i) (s.loop i)
      refine ⟨edges, secondJudged_of_not, state_secondJudged, fun h he => ?_, fun h he hc => judgeSecond_quiet h he hc,
        fun h he hc => judgeSecond_still h he hc, stuck, silence, samples, count⟩
      obtain ⟨chatter, quiet⟩ := judgeSecond_over h he
      refine ⟨chatter, quiet, fun hs => ?_⟩
      rw [state_secondJudged h, Loop.stateAfter, hs]
      simp [Loop.chatterAfter, he]

end Sys2Proof.Machine
end

section
/-! PROOFS. The passage of 10 ms (O41). -/

namespace Sys2Proof.Machine

open State

/-- A port after 10 ms: the idle time of its receiver and its silence count one sample on (R145, R183, log 40). -/
theorem LinkPort.tick_eq (x : LinkPort) : x.tick = { x with
    receiver := match x.receiver with
      | .receiving buffer idle => .receiving buffer (idle + 1) | .hunting => .hunting
    silencePart := if 100 ≤ x.silencePart + 1 then 0 else x.silencePart + 1
    silenceSeconds := if 100 ≤ x.silencePart + 1 then min 65535 (x.silenceSeconds + 1) else x.silenceSeconds
    spared := if 100 ≤ x.silencePart + 1 then false else x.spared } := by
  unfold LinkPort.tick
  simp only [Config.samplesPerSecond, Config.silenceMax]
  split <;> cases x.receiver <;> rfl

/-- A sequencer after 10 ms: its lanes, timers and sign one sample on (R102, R103). -/
theorem Sequencer.tick_eq (q : Sequencer) : q.tick = { q with
    lanes := q.lanes.map fun x => match x with
      | .red e => .red (e + 1) | .green g => .green (g - 1) | y => y
    slotTimer := q.slotTimer.map (· - 1), warningTimer := q.warningTimer.map (· - 1)
    clearanceTimer := q.clearanceTimer.map (· - 1)
    sign := match q.sign with | .flashing on e => .flashing on (e + 1) | .off => .off } := by
  have lane : LaneState.tick = fun x => match x with
      | .red e => .red (e + 1) | .green g => .green (g - 1) | y => y := by
    funext x; cases x <;> rfl
  have sign : q.sign.tick = match q.sign with | .flashing on e => .flashing on (e + 1) | .off => .off := by
    cases q.sign <;> rfl
  exact congrArg₂ (fun f sign => ({ q with
    lanes := q.lanes.map f, slotTimer := q.slotTimer.map (· - 1), warningTimer := q.warningTimer.map (· - 1)
    clearanceTimer := q.clearanceTimer.map (· - 1), sign := sign } : Sequencer)) lane sign

/-- Settles O41. -/
theorem timePassesInSamples : Obligations.TimePassesInSamples := by
  intro s
  refine ⟨rfl, rfl, fun r => ?_, fun p => ?_⟩
  · rw [show s.tick.seq r = (s.seq r).tick from Tab.get_map ..]
    exact Sequencer.tick_eq _
  · rw [show s.tick.port p = (s.port p).tick from Tab.get_map ..]
    exact LinkPort.tick_eq _

end Sys2Proof.Machine
end

section
/-! PROOFS. The reset state (O7, O60): its tables row by row, the invariants it meets, and the values the document gives it. -/

namespace Sys2Proof.Machine

open State

theorem seq_reset (r : Ramp) : State.reset.seq r = Sequencer.start .unconfigured 0 := Tab.get_replicate ..
theorem planList_reset (r : Ramp) :
    State.reset.planList r = { hold := false, fallback := none, command := some (.off, .restart), schedule := none } :=
  Tab.get_replicate ..
theorem loop_reset (i : LoopNo) : State.reset.loop i = Loop.afresh .unused (some LoopRec.delivered.ident) :=
  Tab.get_replicate ..
theorem loopRec_reset (i : LoopNo) : State.reset.memory.loops.get i = LoopRec.delivered := Tab.get_replicate ..
theorem health_reset (id : RecId) : State.reset.health id = Health.sound := Tab.get_replicate ..
theorem button_reset (r : Ramp) : State.reset.button r = Button.start := Tab.get_replicate ..
theorem rate_reset (r : Ramp) : State.reset.rate r = RampRate.start := Tab.get_replicate ..
theorem meas_reset (r : Ramp) : State.reset.meas r = RampMeasure.start := Tab.get_replicate ..
theorem shifts_reset (i : Fin 2) : State.reset.memory.shifts.get i = none := Tab.get_replicate ..

/-- Settles O7: at reset every list holds a COMMAND entry alone, every lane is dark, and the clock stands at 2000-01-01 with no
shift stored. -/
theorem resetMeetsInvariants : Obligations.ResetMeetsInvariants := by
  refine ⟨fun r => ?_, fun r => ?_, by decide, fun i x h => ?_⟩
  · rw [planList_reset]; decide
  · rw [seq_reset]; decide
  · rw [shifts_reset] at h; cases h

/-- Settles O60. -/
theorem resetIsTheDeliveredColdStart : Obligations.ResetIsTheDeliveredColdStart := by
  refine ⟨rfl, rfl, rfl, rfl, rfl, rfl, rfl, fun r => ⟨Tab.get_replicate .., Tab.get_replicate .., Tab.get_replicate ..⟩, rfl,
    fun k => Tab.get_replicate .., fun i => Tab.get_replicate .., shifts_reset, fun i => ⟨loopRec_reset i, ?_⟩, health_reset,
    rfl, rfl, rfl, rfl, rfl, rfl, rfl, rfl, rfl, rfl, rfl, rfl, fun r => ?_, fun i => Tab.get_replicate .., fun p => ?_,
    by decide, by decide, by decide, rfl, rfl⟩
  · rw [loop_reset]; rfl
  · rw [seq_reset, planList_reset, meas_reset, rate_reset, button_reset]
    exact ⟨rfl, rfl, rfl, rfl, rfl, rfl, rfl, rfl, rfl⟩
  · cases p <;> exact ⟨rfl, rfl, rfl, rfl⟩

end Sys2Proof.Machine
end

section
/-! PROOFS. What the sample takes in: a loop, a button, a lane's monitor. -/

namespace Sys2Proof.Machine

open State

/-! ### One loop at a sample (R6, R8, R9, R12 to R15) -/

namespace Loop

/-- Every field that the sample of a loop sets. -/
theorem sample_eq (input : Bool) (l : Loop) : l.sample input = { l with
    presence := some (l.presenceAt input), testTimer := l.testTimer - 1
    onSamples := if l.state = .unused then l.onSamples else l.onSamples + (l.presenceAt input).toNat
    count := if l.state = .unused then l.count else l.count + (l.risingEdge input).toNat
    testSeen := if l.state = .unused then l.testSeen else l.testSeen || l.testActive
    stuckRun := if l.qualifies then (if l.presenceAt input then l.stuckRun + 1 else 0) else l.stuckRun
    clearRun := if l.qualifies then (if l.stuckOn && !l.presenceAt input then l.clearRun + 1 else 0) else l.clearRun
    silenceRun := if l.qualifies then (if l.risingEdge input then 0 else l.silenceRun + 1) else l.silenceRun
    silence := if l.qualifies then l.silence && !l.risingEdge input else l.silence
    edges := if l.qualifies then l.edges + (l.risingEdge input).toNat else l.edges } := by
  unfold sample
  dsimp only
  by_cases unused : l.state = .unused
  · have none : l.qualifies = false := by unfold qualifies; rw [unused]
    simp [unused, none]
  · have same (m : Loop) (h : m.state = l.state) : m.qualifies = l.qualifies := qualifies_of_state h
    cases q : l.qualifies <;> simp [unused, same, q]

theorem state_sample (input : Bool) (l : Loop) : (l.sample input).state = l.state := by rw [sample_eq]

/-- The judgements move a loop neither into nor out of fault qualification (R11). -/
theorem qualifies_judged (x : LoopRec) (due : Bool) (l : Loop) (seen : Bool) :
    ({ l with notOkSeen := seen, state := l.judged x due } : Loop).qualifies = l.qualifies := by
  cases h : l.qualifies with
  | false => rw [judged_of_not h, ← h]; exact qualifies_of_state rfl
  | true =>
    rw [judged_eq_stateAfter x due h]
    unfold stateAfter
    split
    · rfl
    · split
      · rfl
      · split <;> rfl

/-- A loop as the sample leaves it: accumulated, its not-OK mark by the state that all judgements of the sample give, and its state
that one unless a judgement is outstanding (R11, R15, log 6). -/
def sampled (x : LoopRec) (due input : Bool) (l : Loop) : Loop :=
  { l.sample input with
    notOkSeen := (l.sample input).notOkSeen || (l.sample input).judged x due ≠ .ok
    state := if (l.sample input).outstanding x due then (l.sample input).state else (l.sample input).judged x due }

theorem qualifies_sampled (x : LoopRec) (due input : Bool) (l : Loop) : (l.sampled x due input).qualifies = l.qualifies := by
  have start : (l.sample input).qualifies = l.qualifies := qualifies_of_state (state_sample input l)
  unfold sampled
  split
  · rw [← start]; exact qualifies_of_state rfl
  · rw [← start]; exact qualifies_judged x due _ _

theorem outstanding_sampled (x : LoopRec) (due input : Bool) (l : Loop) :
    (l.sampled x due input).outstanding x due = (l.sample input).outstanding x due := by
  have same : (l.sampled x due input).qualifies = (l.sample input).qualifies :=
    (qualifies_sampled x due input l).trans (qualifies_of_state (state_sample input l)).symm
  simp only [outstanding, stuckEntryDue, stuckClearDue, silenceEntryDue, same]
  rfl

/-- The state set at the sample is the one the judgements of the sample still give. -/
theorem judged_sampled (x : LoopRec) (due input : Bool) (l : Loop) :
    (l.sampled x due input).judged x due = (l.sample input).judged x due := by
  have start : (l.sample input).qualifies = l.qualifies := qualifies_of_state (state_sample input l)
  cases h : l.qualifies with
  | true =>
    rw [judged_eq_stateAfter x due ((qualifies_sampled ..).trans h), judged_eq_stateAfter x due (start.trans h)]
    rfl
  | false =>
    rw [judged_of_not ((qualifies_sampled ..).trans h), judged_of_not (start.trans h)]
    unfold sampled
    rw [judged_of_not (start.trans h)]
    exact ite_self _

/-- The state a loop has after the sample, and the not-OK mark, by the judged state (R11, R15). -/
theorem state_sampled (x : LoopRec) (due input : Bool) (l : Loop) :
    (l.sampled x due input).notOkSeen = (l.notOkSeen || decide ((l.sampled x due input).judged x due ≠ .ok))
      ∧ (l.sampled x due input).state = (if (l.sampled x due input).outstanding x due then l.state
          else (l.sampled x due input).judged x due) := by
  rw [judged_sampled, outstanding_sampled]
  have seen : (l.sample input).notOkSeen = l.notOkSeen := by rw [sample_eq]
  constructor
  · rw [← seen]; rfl
  · rw [← state_sample input l]; rfl

end Loop

namespace State

/-- The sample of the loops, one loop at a time: each stands as sampled (R6). -/
theorem loop_sampleLoops (inp : Inputs) (s : State) (i : LoopNo) :
    (s.each loopNos (sampleLoop inp)).loop i
      = (s.loop i).sampled (s.memory.loops.get i) s.timer.secondDue (inp.presence.getLsbD i.val) := by
  have at' := each_at (fun t i => t.loop i) (fun t => (t.memory, t.timer))
    (fun c i l => l.sampled (c.1.loops.get i) c.2.secondDue (inp.presence.getLsbD i.val)) (sampleLoop inp) loopNos loopNos_nodup
    (fun j t => by
      obtain ⟨frame, -, -⟩ := t.sampleLoop_spec inp j
      exact (congrArg (fun u : State => (u.memory, u.timer)) frame :))
    (fun j t => (t.sampleLoop_spec inp j).2.1 _ _ rfl rfl)
    (fun j k t h => (t.sampleLoop_spec inp j).2.2 k h) s i
  rw [at', if_pos (mem_loopNos i)]

/-- The sample of the loops changes the loops and, by LOOP_FAULT, the ports. -/
theorem sampleLoops_frame (inp : Inputs) (s : State) :
    { s.each loopNos (sampleLoop inp) with loops := s.loops, ports := s.ports } = s :=
  each_induct (P := fun t => ({ t with loops := s.loops, ports := s.ports } : State) = s) loopNos (sampleLoop inp) rfl
    fun i t h => by
      obtain ⟨frame, -, -⟩ := t.sampleLoop_spec inp i
      have h' := congrArg (fun u : State => { u with loops := s.loops, ports := s.ports }) frame
      exact h'.trans h

end State

/-! ### One button at a sample (R152, R157) -/

/-- The sample of a button, in the cases of R152. -/
theorem Button.sample_sampled (configured down : Bool) (b : Button) : b.Sampled configured down (b.sample configured down) := by
  have run_lt (h : b.run ≠ 399) : ¬ b.run + 1 = Config.holdRun := by simp only [Config.holdRun]; omega
  have further (h : b.latest ≠ some false) : b.latest = none ∨ b.latest = some true := by
    cases e : b.latest with
    | none => exact .inl rfl
    | some on => cases on with
      | false => exact absurd e h
      | true => exact .inr rfl
  constructor
  · rintro rfl short rfl
    simp [Button.sample, Button.released, Bool.decide_and, Bool.and_assoc]
  · rintro rfl off
    simp [Button.sample, Button.pressed, off]
  · rintro rfl on press
    rcases further on with h | h <;> simp [Button.sample, Button.pressed, h, press]
  · rintro rfl on press
    rcases further on with h | h <;> simp [Button.sample, Button.pressed, h, press, Config.holdRun]
  · rintro rfl on press rfl run
    rcases further on with h | h <;> simp [Button.sample, Button.pressed, h, press, run, Config.holdRun]
  · rintro rfl on press free
    have quiet : (configured && decide (b.run + 1 = Config.holdRun)) = false := by
      rcases free with rfl | h
      · rfl
      · simp [run_lt h]
    rcases further on with h | h <;> simp [Button.sample, Button.pressed, h, press, quiet]

end Sys2Proof.Machine
end

section
/-! PROOFS. The sense sample of the lamps, the check-in of the same sample, and SAMPLE as a whole (O40). -/

namespace Sys2Proof.Machine

/-! ### A lane's monitor at a sense sample (R127 to R129) -/

namespace LaneMonitor

theorem qual_judge (c : Aspect) (m : LaneMonitor) {k : IncidentKind} (real : k ≠ .test) :
    (m.judge c).qual k = (m.qual k).sample k (conditionHolds k c m.sensed) := by
  cases k with
  | conflict => rfl
  | strayGreen => rfl
  | redOut => rfl
  | greenOut => rfl
  | test => exact absurd rfl real

theorem qual_restarted (m : LaneMonitor) (k : IncidentKind) : m.restarted.qual k = { run := 0, reported := false } := by
  cases k <;> rfl

theorem mem_qualifying (c : Aspect) (m : LaneMonitor) (k : IncidentKind) : k ∈ m.qualifying c ↔
    k ≠ .test ∧ conditionHolds k c m.sensed = true ∧ (m.qual k).reported = false ∧ qualifyingCount k ≤ (m.qual k).run + 1 := by
  have real : k ∈ realKinds ↔ k ≠ .test := by cases k <;> decide
  simp [qualifying, Qualification.qualifiesAt, real, and_assoc]

/-- A lane's monitor after the sense sample: what it senses, and its conditions judged where the lane is supervised (R127, R128). -/
def sense (m : LaneMonitor) (supervised : Bool) (c : Aspect) (x : Sensed) : LaneMonitor :=
  if supervised then ({ m with sensed := x, sampled := some c } : LaneMonitor).judge c else { m with sensed := x, sampled := some c }

theorem sensed_sense (m : LaneMonitor) (supervised : Bool) (c : Aspect) (x : Sensed) : (m.sense supervised c x).sensed = x := by
  unfold sense; split <;> rfl

theorem sampled_sense (m : LaneMonitor) (supervised : Bool) (c : Aspect) (x : Sensed) :
    (m.sense supervised c x).sampled = some c := by
  unfold sense; split <;> rfl

theorem qual_sense_false (m : LaneMonitor) (c : Aspect) (x : Sensed) (k : IncidentKind) : (m.sense false c x).qual k = m.qual k := by
  cases k <;> rfl

theorem qual_sense_true (m : LaneMonitor) (c : Aspect) (x : Sensed) {k : IncidentKind} (real : k ≠ .test) :
    (m.sense true c x).qual k = (m.qual k).sample k (conditionHolds k c x) := by
  have same : ({ m with sensed := x, sampled := some c } : LaneMonitor).qual k = m.qual k := by cases k <;> rfl
  exact (qual_judge c _ real).trans (by rw [same])

end LaneMonitor

/-- A condition that holds counts its run to the qualifying count and is reported from there on (R128). -/
theorem Qualification.sample_true (k : IncidentKind) (q : Qualification) : q.sample k true =
    { run := min (qualifyingCount k) (q.run + 1), reported := q.reported || decide (qualifyingCount k ≤ q.run + 1) } := by
  simp [sample]

theorem conditionHolds_iff (c : Aspect) (x : Sensed) : (conditionHolds .conflict c x = true ↔ x = .both)
    ∧ (conditionHolds .strayGreen c x = true ↔ (x = .green ∨ x = .both) ∧ c ≠ .green)
    ∧ (conditionHolds .redOut c x = true ↔ c = .red ∧ (x = .none ∨ x = .green))
    ∧ (conditionHolds .greenOut c x = true ↔ c = .green ∧ (x = .none ∨ x = .red)) := by
  cases c <;> cases x <;> decide

namespace State

/-- The monitor of a lane right after the sense sample of the lamps. -/
def sensedLamp (inp : Inputs) (s : State) (r : Ramp) (ln : LaneNo) : LaneMonitor :=
  (s.lamp r ln).sense (decide ((s.seq r).state ≠ .unconfigured)) (s.commanded r ln) (sensedAt inp r ln)

theorem lamp_senseLane (inp : Inputs) (r : Ramp) (ln : LaneNo) (s : State) :
    (s.senseLane inp r ln).lamp r ln = s.sensedLamp inp r ln := by
  unfold senseLane sensedLamp
  dsimp only
  by_cases h : (s.seq r).state = .unconfigured
  · have supervised : decide ((s.seq r).state ≠ .unconfigured) = false := by simp [h]
    rw [if_pos h, supervised]
    exact lamp_setLamp_self ..
  · have supervised : decide ((s.seq r).state ≠ .unconfigured) = true := by simp [h]
    rw [if_neg h, supervised]
    exact lamp_setLamp_self s r ln _

theorem mem_lanePairs (r : Ramp) (ln : LaneNo) : (r, ln) ∈ lanePairs := by revert r ln; decide

/-- Every lane is sensed once, under the aspect commanded before the sample (log 29). -/
theorem lamp_senseLamps (inp : Inputs) (s : State) (r : Ramp) (ln : LaneNo) :
    (s.senseLamps inp).lamp r ln = s.sensedLamp inp r ln := by
  rw [senseLamps_pairs]
  have each := each_at (fun t (x : Ramp × LaneNo) => t.lamp x.1 x.2) (fun t => t.sequencers)
    (fun c x m => m.sense (decide ((c.get x.1).state ≠ .unconfigured)) ((c.get x.1).lanes.get x.2).aspect (sensedAt inp x.1 x.2))
    (fun x t => t.senseLane inp x.1 x.2) lanePairs (by decide)
    (fun x t => (congrArg State.sequencers (t.senseLane_spec inp x.1 x.2).1 :))
    (fun x t => lamp_senseLane inp x.1 x.2 t)
    (fun x y t h => (t.senseLane_spec inp x.1 x.2).2.2.2 _ _ fun e => h (Prod.ext e.1 e.2)) s (r, ln)
  rw [if_pos (mem_lanePairs r ln)] at each
  exact each

theorem mem_foundAt (inp : Inputs) (s : State) (r r' : Ramp) (ln ln' : LaneNo) (k : IncidentKind) :
    ({ ramp := r, lane := ln, kind := k, commanded := s.commanded r ln, sensed := sensedAt inp r ln } : Qualified)
        ∈ s.foundAt inp r' ln'
      ↔ r' = r ∧ ln' = ln ∧ (s.seq r).state ≠ .unconfigured
        ∧ k ∈ ({ s.lamp r ln with sensed := sensedAt inp r ln, sampled := some (s.commanded r ln) } : LaneMonitor).qualifying
            (s.commanded r ln) := by
  unfold foundAt
  by_cases h : (s.seq r').state = .unconfigured
  · rw [if_pos h]
    constructor
    · intro m; cases m
    · rintro ⟨rfl, rfl, configured, -⟩
      exact absurd h configured
  · rw [if_neg h, List.mem_map]
    constructor
    · rintro ⟨k', found, same⟩
      injection same with hr hl hk
      subst hr; subst hl; subst hk
      exact ⟨rfl, rfl, h, found⟩
    · rintro ⟨rfl, rfl, -, found⟩
      exact ⟨k, found, rfl⟩

/-- The incidents that qualify at a sense sample (R128). -/
theorem mem_found (inp : Inputs) (s : State) (r : Ramp) (ln : LaneNo) (k : IncidentKind) :
    ({ ramp := r, lane := ln, kind := k, commanded := s.commanded r ln, sensed := sensedAt inp r ln } : Qualified)
        ∈ lanePairs.flatMap (fun x => s.foundAt inp x.1 x.2)
      ↔ k ≠ .test ∧ (s.seq r).state ≠ .unconfigured ∧ conditionHolds k (s.commanded r ln) (sensedAt inp r ln) = true
        ∧ ((s.lamp r ln).qual k).reported = false ∧ qualifyingCount k ≤ ((s.lamp r ln).qual k).run + 1 := by
  have same : ({ s.lamp r ln with sensed := sensedAt inp r ln, sampled := some (s.commanded r ln) } : LaneMonitor).qual k
      = (s.lamp r ln).qual k := by cases k <;> rfl
  rw [List.mem_flatMap]
  constructor
  · rintro ⟨x, -, hx⟩
    obtain ⟨-, -, configured, found⟩ := (mem_foundAt ..).mp hx
    obtain ⟨real, holds, fresh, count⟩ := (LaneMonitor.mem_qualifying ..).mp found
    rw [same] at fresh count
    exact ⟨real, configured, holds, fresh, count⟩
  · rintro ⟨real, configured, holds, fresh, count⟩
    refine ⟨(r, ln), mem_lanePairs r ln, (mem_foundAt ..).mpr ⟨rfl, rfl, configured, (LaneMonitor.mem_qualifying ..).mpr ⟨real, holds, ?_⟩⟩⟩
    rw [same]
    exact ⟨fresh, count⟩

/-! ### The check-in of a ramp and its lamps (R16, R116, R128) -/

theorem lampsFollow_handLane (s : State) (r : Ramp) (ln : LaneNo) (st : LaneState) : s.lampsFollow r [] (s.handLane r ln st) := by
  have hc (ln' : LaneNo) : (s.handLane r ln st).commanded r ln' = if ln' = ln then st.aspect else s.commanded r ln' := by
    unfold commanded
    rw [seq_of_sequencers s (sequencers_handLane s r ln st)]
    simp only [Tab.get_set]
    split <;> rfl
  intro ln'
  rw [lamp_handLane, hc]
  by_cases h : ln' = ln
  · subst h; simp
  · simp [h]

theorem lampsFollow_giveSlot (s : State) (r : Ramp) (ln : LaneNo) : s.lampsFollow r [] (s.giveSlot r ln) := by
  unfold giveSlot
  dsimp only
  split
  · exact lampsFollow_refl rfl rfl
  · exact lampsFollow_after (lampsFollow_handLane s r _ _) rfl (by rw [seq_modSeq_self]; rfl)

theorem lampsFollow_offerSlot (s : State) (r : Ramp) : s.lampsFollow r [] (s.offerSlot r) := by
  unfold offerSlot
  split
  · exact lampsFollow_giveSlot s r _
  · exact lampsFollow_refl rfl (by rw [seq_modSeq_self])

theorem lampsFollow_judgeHeld (s : State) (r : Ramp) : s.lampsFollow r [] (s.judgeHeld r) := by
  unfold judgeHeld
  split
  · exact lampsFollow_offerSlot s r
  · exact lampsFollow_refl rfl rfl

theorem lampsFollow_stateCheckIn (s : State) (r : Ramp) : s.lampsFollow r [] (s.stateCheckIn r) := by
  unfold stateCheckIn
  dsimp only
  split
  · exact lampsFollow_refl rfl rfl
  · intro ln
    generalize stated : ({ s.seq r with checkIn := _ } : Sequencer) = q
    have lanes : q.lanes = (s.seq r).lanes := by rw [← stated]
    have commanded : (s.setSeq r q).commanded r ln = s.commanded r ln := commanded_of_seq (by rw [seq_setSeq_self, lanes]) ln
    rw [lampsFollow_judgeHeld (s.setSeq r q) r ln, commanded]
    rfl

/-- The check-in of a ramp leaves the sequencer and the lamps of every other ramp alone. -/
theorem rampPart_stateCheckIn (s : State) {r r' : Ramp} (h : r' ≠ r) :
    ((s.stateCheckIn r).lamps.get r', (s.stateCheckIn r).seq r') = (s.lamps.get r', s.seq r') := by
  have handed (t : State) (ln : LaneNo) (st : LaneState) :
      ((t.handLane r ln st).lamps.get r', (t.handLane r ln st).seq r') = (t.lamps.get r', t.seq r') := by
    refine Prod.ext (congrArg (·.2) (rampOwn_handLane t h ln st)) ?_
    show (t.handLane r ln st).sequencers.get r' = _
    rw [sequencers_handLane, Tab.get_set_ne _ _ h]
    rfl
  have judged (t : State) : ((t.judgeHeld r).lamps.get r', (t.judgeHeld r).seq r') = (t.lamps.get r', t.seq r') := by
    unfold judgeHeld offerSlot giveSlot
    dsimp only
    split
    · split
      · split
        · rfl
        · rw [seq_modSeq_ne _ h]; exact handed ..
      · rw [seq_modSeq_ne _ h]; rfl
    · rfl
  unfold stateCheckIn
  dsimp only
  split
  · rfl
  · rw [judged, seq_setSeq_ne _ h]; rfl

/-- The check-in of each ramp is stated among those of the others, which leave it and the loops alone. -/
theorem stateCheckIns_turn (s : State) (r : Ramp) : ∃ u : State, (u.loops, u.memory, u.timer) = (s.loops, s.memory, s.timer)
    ∧ (u.lamps.get r, u.seq r) = (s.lamps.get r, s.seq r)
    ∧ ((s.each ramps stateCheckIn).lamps.get r, (s.each ramps stateCheckIn).seq r)
      = ((u.stateCheckIn r).lamps.get r, (u.stateCheckIn r).seq r) :=
  each_turn (fun t r => (t.lamps.get r, t.seq r)) (fun t => (t.loops, t.memory, t.timer)) stateCheckIn ramps ramps_nodup
    (fun r t => (congrArg (fun u : State => (u.loops, u.memory, u.timer)) (stateCheckIn_frame t r) :))
    (fun _ _ t h => rampPart_stateCheckIn t h) s r (mem_ramps r)

/-- The check-ins of a sample: the lamps of every ramp follow its lanes, and no ramp state changes. -/
theorem stateCheckIns_spec (s : State) (r : Ramp) :
    s.lampsFollow r [] (s.each ramps stateCheckIn) ∧ ((s.each ramps stateCheckIn).seq r).state = (s.seq r).state := by
  obtain ⟨u, -, before, after⟩ := stateCheckIns_turn s r
  obtain ⟨lampsBefore, seqBefore⟩ := Prod.mk.inj before
  obtain ⟨lampsAfter, seqAfter⟩ := Prod.mk.inj after
  refine ⟨?_, by rw [seqAfter, state_stateCheckIn, seqBefore]⟩
  have follow := lampsFollow_after (lampsFollow_stateCheckIn u r) lampsAfter (congrArg Sequencer.lanes seqAfter)
  intro ln
  have lamp : s.lamp r ln = u.lamp r ln := by unfold lamp; rw [lampsBefore]
  have commanded : s.commanded r ln = u.commanded r ln := by unfold commanded; rw [seqBefore]
  rw [lamp, commanded]
  exact follow ln

theorem stateCheckIns_frame (s : State) :
    { s.each ramps stateCheckIn with sequencers := s.sequencers, lamps := s.lamps } = s :=
  each_induct (P := fun t => ({ t with sequencers := s.sequencers, lamps := s.lamps } : State) = s) ramps stateCheckIn rfl
    fun r t h => by
      have h' := congrArg (fun u : State => { u with sequencers := s.sequencers, lamps := s.lamps }) (stateCheckIn_frame t r)
      exact h'.trans h

/-! ### The buttons -/

theorem sampleButtons_frame (inp : Inputs) (s : State) : { s.sampleButtons inp with buttons := s.buttons } = s :=
  each_induct (P := fun t => ({ t with buttons := s.buttons } : State) = s) ramps _ rfl fun _ _ h => h

theorem button_sampleButtons (inp : Inputs) (s : State) (r : Ramp) : (s.sampleButtons inp).button r
    = (s.button r).sample (decide ((s.seq r).state ≠ .unconfigured)) (inp.panel.getLsbD r.val) := by
  have each := each_at (fun t r => t.button r) (fun t => t.sequencers)
    (fun c r b => b.sample (decide ((c.get r).state ≠ .unconfigured)) (inp.panel.getLsbD r.val))
    (fun r t => t.setButton r ((t.button r).sample (t.configuredRamp r) (inp.panel.getLsbD r.val))) ramps ramps_nodup
    (fun _ _ => rfl) (fun r t => button_setButton_self ..) (fun r r' t h => button_setButton_ne _ h _) s r
  rw [if_pos (mem_ramps r)] at each
  exact each

end State

end Sys2Proof.Machine
end

section
/-! PROOFS. SAMPLE as a whole (O40): what the sampling of the inputs leaves of the state that 10 ms and the due steps have given. -/

namespace Sys2Proof.Machine

open State

/-- The stages of the sampling of the inputs of `u`: the lamps sensed, the loops sampled, the check-ins stated, the buttons sampled
(log 29). -/
structure SampleStages (inp : Inputs) (u sensed looped checked pressed : State) : Prop where
  sensedFrame : { sensed with lamps := u.lamps, qualified := u.qualified } = u
  sensedFound : sensed.qualified = u.qualified ++ lanePairs.flatMap (fun x => u.foundAt inp x.1 x.2)
  sensedLamp : ∀ r ln, sensed.lamp r ln = u.sensedLamp inp r ln
  loopedFrame : { looped with loops := sensed.loops, ports := sensed.ports } = sensed.countSample
  loopedLoop : ∀ i, looped.loop i = (sensed.loop i).sampled (sensed.memory.loops.get i)
    (decide ((sensed.timer.samples + 1) % 100 = 0)) (inp.presence.getLsbD i.val)
  checkedFrame : { checked with sequencers := looped.sequencers, lamps := looped.lamps } = looped
  checkedSeq : ∀ r, ∃ v : State, (v.loops, v.memory, v.timer) = (looped.loops, looped.memory, looped.timer) ∧ v.seq r = looped.seq r
    ∧ checked.seq r = (v.stateCheckIn r).seq r
  checkedLamps : ∀ r, looped.lampsFollow r [] checked
  checkedRamp : ∀ r, (checked.seq r).state = (looped.seq r).state
  pressedFrame : { pressed with buttons := checked.buttons } = checked
  pressedButton : ∀ r, pressed.button r
    = (checked.button r).sample (decide ((checked.seq r).state ≠ .unconfigured)) (inp.panel.getLsbD r.val)

/-- The sampling of the inputs runs through these stages and then takes the supply-fail input. -/
theorem sampleInputs_stages (inp : Inputs) (u : State) : ∃ sensed looped checked pressed,
    SampleStages inp u sensed looped checked pressed
      ∧ u.sampleInputs inp = { pressed with supply := { pressed.supply with sampled := inp.supplyFail } } := by
  obtain ⟨sensedFrame, sensedFound, -⟩ := u.senseLamps_spec inp
  have sensedLamp := lamp_senseLamps inp u
  have result : u.sampleInputs inp = { ((((u.senseLamps inp).countSample.each loopNos (sampleLoop inp)).each ramps
      stateCheckIn).sampleButtons inp) with supply := { ((((u.senseLamps inp).countSample.each loopNos (sampleLoop inp)).each ramps
      stateCheckIn).sampleButtons inp).supply with sampled := inp.supplyFail } } := by unfold sampleInputs; rfl
  generalize u.senseLamps inp = sensed at sensedFrame sensedFound sensedLamp result
  have loopedFrame := sampleLoops_frame inp sensed.countSample
  have loopedLoop := loop_sampleLoops inp sensed.countSample
  generalize sensed.countSample.each loopNos (sampleLoop inp) = looped at loopedFrame loopedLoop result
  have checkedFrame := stateCheckIns_frame looped
  have checked := stateCheckIns_spec looped
  have turn := stateCheckIns_turn looped
  generalize looped.each ramps stateCheckIn = checkedState at checkedFrame checked turn result
  have pressedFrame := sampleButtons_frame inp checkedState
  have pressedButton := button_sampleButtons inp checkedState
  generalize checkedState.sampleButtons inp = pressed at pressedFrame pressedButton result
  refine ⟨sensed, looped, checkedState, pressed, ⟨sensedFrame, sensedFound, sensedLamp, loopedFrame, loopedLoop, checkedFrame,
    fun r => ?_, fun r => (checked r).1, fun r => (checked r).2, pressedFrame, pressedButton⟩, result⟩
  obtain ⟨v, same, before, after⟩ := turn r
  exact ⟨v, same, (Prod.mk.inj before).2, (Prod.mk.inj after).2⟩

namespace SampleStages

variable {inp : Inputs} {u sensed looped checked pressed : State} (h : SampleStages inp u sensed looped checked pressed)

include h

/-- The stages change the lanes, the sensed inputs, the timer and the ports. -/
theorem frame : { pressed with
    sequencers := u.sequencers, lamps := u.lamps, qualified := u.qualified, timer := u.timer, loops := u.loops, ports := u.ports,
    buttons := u.buttons } = u := by
  have blank {s t : State} (e : s = t) : ({ s with
      sequencers := u.sequencers, lamps := u.lamps, qualified := u.qualified, timer := u.timer, loops := u.loops, ports := u.ports,
      buttons := u.buttons } : State) = { t with
      sequencers := u.sequencers, lamps := u.lamps, qualified := u.qualified, timer := u.timer, loops := u.loops, ports := u.ports,
      buttons := u.buttons } := by rw [e]
  calc _ = _ := (blank h.pressedFrame :)
    _ = _ := (blank h.checkedFrame :)
    _ = _ := (blank h.loopedFrame :)
    _ = _ := (blank h.sensedFrame :)

theorem timer : pressed.timer = { u.timer with
    samples := u.timer.samples + 1, secondDue := decide ((u.timer.samples + 1) % 100 = 0), scrubCount := u.timer.scrubCount + 1 } := by
  have start : sensed.timer = u.timer := (congrArg State.timer h.sensedFrame :)
  calc pressed.timer = checked.timer := (congrArg State.timer h.pressedFrame :)
    _ = looped.timer := (congrArg State.timer h.checkedFrame :)
    _ = sensed.countSample.timer := (congrArg State.timer h.loopedFrame :)
    _ = _ := by unfold countSample; simp only [start, Config.samplesPerSecond]

theorem qualified : pressed.qualified = u.qualified ++ lanePairs.flatMap (fun x => u.foundAt inp x.1 x.2) := by
  calc pressed.qualified = checked.qualified := (congrArg State.qualified h.pressedFrame :)
    _ = looped.qualified := (congrArg State.qualified h.checkedFrame :)
    _ = sensed.qualified := (congrArg State.qualified h.loopedFrame :)
    _ = _ := h.sensedFound

theorem loop (i : LoopNo) : pressed.loop i = (u.loop i).sampled (u.memory.loops.get i)
    (decide ((u.timer.samples + 1) % 100 = 0)) (inp.presence.getLsbD i.val) := by
  have start : sensed.loop i = u.loop i := (congrArg (fun t : State => t.loop i) h.sensedFrame :)
  have memory : sensed.memory = u.memory := (congrArg State.memory h.sensedFrame :)
  have timer : sensed.timer = u.timer := (congrArg State.timer h.sensedFrame :)
  have looped := h.loopedLoop i
  rw [start, memory, timer] at looped
  rw [← looped]
  calc pressed.loop i = checked.loop i := (congrArg (fun t : State => t.loop i) h.pressedFrame :)
    _ = _ := (congrArg (fun t : State => t.loop i) h.checkedFrame :)

/-- Each lane is sensed and judged, and then follows its sequencer's check-in (R128, log 29). -/
theorem lamp (r : Ramp) (ln : LaneNo) : pressed.lamp r ln
    = if pressed.commanded r ln ≠ u.commanded r ln then (u.sensedLamp inp r ln).restarted else u.sensedLamp inp r ln := by
  have start : looped.commanded r ln = u.commanded r ln :=
    calc looped.commanded r ln = sensed.commanded r ln := (congrArg (fun t : State => t.commanded r ln) h.loopedFrame :)
      _ = _ := (congrArg (fun t : State => t.commanded r ln) h.sensedFrame :)
  have sense : looped.lamp r ln = u.sensedLamp inp r ln :=
    calc looped.lamp r ln = sensed.lamp r ln := (congrArg (fun t : State => t.lamp r ln) h.loopedFrame :)
      _ = _ := h.sensedLamp r ln
  have commanded : pressed.commanded r ln = checked.commanded r ln := (congrArg (fun t : State => t.commanded r ln) h.pressedFrame :)
  have follow := h.checkedLamps r ln
  simp only [List.not_mem_nil, false_or] at follow
  rw [start, sense, ← commanded] at follow
  rw [← follow]
  exact (congrArg (fun t : State => t.lamp r ln) h.pressedFrame :)

theorem button (r : Ramp) : (u.button r).Sampled (decide ((u.seq r).state ≠ .unconfigured))
    (inp.panel.getLsbD r.val) (pressed.button r) := by
  have start : checked.button r = u.button r :=
    calc checked.button r = looped.button r := (congrArg (fun t : State => t.button r) h.checkedFrame :)
      _ = sensed.button r := (congrArg (fun t : State => t.button r) h.loopedFrame :)
      _ = u.button r := (congrArg (fun t : State => t.button r) h.sensedFrame :)
  have ramp : (checked.seq r).state = (u.seq r).state :=
    calc (checked.seq r).state = (looped.seq r).state := h.checkedRamp r
      _ = (sensed.seq r).state := (congrArg (fun t : State => (t.seq r).state) h.loopedFrame :)
      _ = (u.seq r).state := (congrArg (fun t : State => (t.seq r).state) h.sensedFrame :)
  rw [h.pressedButton r, start, ramp]
  exact Button.sample_sampled ..

end SampleStages

/-- One loop by the sample, in the words of the document (R6, R8, R9, R12, R13). -/
theorem Loop.sampled_fields (x : LoopRec) (due input : Bool) (l : Loop) : ∀ on, on = (input || l.testActive) →
    (l.sampled x due input).presence = some on ∧ (l.sampled x due input).testTimer = l.testTimer - 1
    ∧ (l.sampled x due input).ident = l.ident ∧ (l.sampled x due input).testActive = l.testActive
    ∧ (l.sampled x due input).stuckOn = l.stuckOn ∧ (l.sampled x due input).chatter = l.chatter
    ∧ (l.sampled x due input).quietRun = l.quietRun ∧ (l.sampled x due input).last = l.last
    ∧ (l.sampled x due input).rewritten = l.rewritten
    ∧ (∀ rising, rising = (on && decide (l.presence = some false)) → l.qualifies = true →
        (l.sampled x due input).stuckRun = (if on then l.stuckRun + 1 else 0)
        ∧ (l.sampled x due input).clearRun = (if l.stuckOn && !on then l.clearRun + 1 else 0)
        ∧ (l.sampled x due input).silence = (l.silence && !rising)
        ∧ (l.sampled x due input).silenceRun = (if rising then 0 else l.silenceRun + 1)
        ∧ (l.sampled x due input).edges = l.edges + (if rising then 1 else 0))
    ∧ (l.qualifies = false → (l.sampled x due input).stuckRun = l.stuckRun ∧ (l.sampled x due input).clearRun = l.clearRun
        ∧ (l.sampled x due input).silence = l.silence ∧ (l.sampled x due input).silenceRun = l.silenceRun
        ∧ (l.sampled x due input).edges = l.edges)
    ∧ (l.state = .unused → (l.sampled x due input).onSamples = l.onSamples ∧ (l.sampled x due input).count = l.count)
    ∧ (l.state ≠ .unused →
        (l.sampled x due input).onSamples = l.onSamples + (if on then 1 else 0)
        ∧ (l.sampled x due input).count = l.count + (if on ∧ l.presence = some false then 1 else 0)
        ∧ (l.sampled x due input).testSeen = (l.testSeen || l.testActive)) := by
  rintro on rfl
  unfold sampled
  simp only [sample_eq, presenceAt, risingEdge]
  refine ⟨trivial, trivial, trivial, trivial, trivial, trivial, trivial, trivial, trivial, ?_, ?_, ?_, ?_⟩
  · rintro rising rfl qualifies
    simp [qualifies, Bool.toNat, Bool.cond_eq_ite]
  · intro none
    simp [none]
  · intro unused
    simp [unused]
  · intro used
    simp [used, Bool.toNat, Bool.cond_eq_ite]

/-- Settles O40: every input is sampled in its part of the state (the lemmas above), and no part reads what another has sampled but
the check-in, which reads the loops. -/
theorem sampleTakesEveryInput : Obligations.SampleTakesEveryInput := by
  rintro inp first s u running rfl
  generalize hu : ((s.settle inp).tick).each first State.takeStep = u
  obtain ⟨sensed, looped, checked, pressed, stages, done⟩ := sampleInputs_stages inp u
  have frame := stages.frame
  have memory : pressed.memory = u.memory := (congrArg State.memory frame :)
  have supply : pressed.supply = u.supply := (congrArg State.supply frame :)
  have timer := stages.timer
  have due : pressed.timer.secondDue = decide ((u.timer.samples + 1) % 100 = 0) := by rw [timer]
  refine ⟨{ pressed with supply := { u.supply with sampled := inp.supplyFail } }, ?_, by rw [timer], by rw [timer], by rw [timer],
    due, ?_, ?_, ?_, conditionHolds_iff, rfl, rfl, rfl, rfl, ?_, stages.button, rfl, (congrArg State.lists frame :), memory,
    (congrArg State.retained frame :), (congrArg State.rates frame :), (congrArg State.measure frame :),
    (congrArg State.arbiter frame :), (congrArg State.router frame :)⟩
  · show Host.Outcome.next (s.whenRunning (State.sample inp first)) = _
    rw [whenRunning_runs running, ← supply, ← done]
    unfold State.sample
    rw [hu]
  · intro i
    have fields := Loop.sampled_fields (u.memory.loops.get i) (decide ((u.timer.samples + 1) % 100 = 0))
      (inp.presence.getLsbD i.val) (u.loop i)
    rw [← stages.loop i] at fields
    exact fields
  · intro i
    have judged : pressed.judgedState i = (pressed.loop i).judged (u.memory.loops.get i) pressed.timer.secondDue := by
      unfold State.judgedState State.loopRec; rw [memory]
    show (pressed.loop i).notOkSeen = (_ || decide (pressed.judgedState i ≠ .ok))
      ∧ (pressed.loop i).state = (if (pressed.loop i).outstanding (pressed.memory.loops.get i) pressed.timer.secondDue then _
        else pressed.judgedState i)
      ∧ ((pressed.loop i).qualifies = true → pressed.judgedState i
        = (pressed.loop i).stateAfter (pressed.memory.loops.get i) pressed.timer.secondDue)
    rw [judged, memory, due, stages.loop i]
    obtain ⟨seen, state⟩ := Loop.state_sampled (u.memory.loops.get i) (decide ((u.timer.samples + 1) % 100 = 0))
      (inp.presence.getLsbD i.val) (u.loop i)
    exact ⟨seen, state, Loop.judged_eq_stateAfter _ _⟩
  · intro r ln
    have lamp := stages.lamp r ln
    have sensedThere : (u.sensedLamp inp r ln).sensed = sensedAt inp r ln := LaneMonitor.sensed_sense ..
    have sampledThere : (u.sensedLamp inp r ln).sampled = some (u.commanded r ln) := LaneMonitor.sampled_sense ..
    show (pressed.lamp r ln).sensed = _ ∧ (pressed.lamp r ln).sampled = _
      ∧ (pressed.commanded r ln ≠ u.commanded r ln → ∀ k, (pressed.lamp r ln).qual k = _)
      ∧ (pressed.commanded r ln = u.commanded r ln → ∀ k, k ≠ .test →
          (_ → (pressed.lamp r ln).qual k = _) ∧ (_ → _ → (pressed.lamp r ln).qual k = _)
          ∧ (_ → _ → (pressed.lamp r ln).qual k = _))
    refine ⟨?_, ?_, ?_, ?_⟩
    · rw [lamp]; split <;> exact sensedThere
    · rw [lamp]; split <;> exact sampledThere
    · intro change k
      rw [lamp, if_pos change, LaneMonitor.qual_restarted]
    · intro same k real
      rw [lamp, if_neg (not_not_intro same)]
      unfold State.sensedLamp
      refine ⟨fun dark => ?_, fun configured holds => ?_, fun configured fails => ?_⟩
      · simp only [dark, ne_eq, not_true_eq_false, decide_false]
        exact LaneMonitor.qual_sense_false ..
      · rw [decide_eq_true configured, LaneMonitor.qual_sense_true _ _ _ real, holds, Qualification.sample_true]
      · rw [decide_eq_true configured, LaneMonitor.qual_sense_true _ _ _ real, fails]
        rfl
  · intro r ln k
    show _ ∈ pressed.qualified.drop u.qualified.length ↔ _
    rw [stages.qualified, List.drop_left]
    exact mem_found inp u r ln k

end Sys2Proof.Machine
end

section
/-! PROOFS. The calendar (O45): the day number of a date, and the second of the century a time is. -/

namespace Sys2Proof.Machine

/-! ### Months and years (R84, R85) -/

theorem daysBeforeMonth_succ (y : Nat) {m : Nat} (h : 1 ≤ m) :
    daysBeforeMonth y (m + 1) = daysBeforeMonth y m + monthLength y m := by
  obtain ⟨k, rfl⟩ := Nat.exists_eq_add_of_le' h
  rfl

theorem daysBeforeMonth_mono (y : Nat) : Monotone (daysBeforeMonth y) := by
  refine monotone_nat_of_le_succ fun m => ?_
  match m with
  | 0 => exact Nat.le_refl 0
  | m + 1 => rw [daysBeforeMonth_succ y (Nat.le_add_left 1 m)]; exact Nat.le_add_right ..

/-- The days of a whole year. -/
def yearLength (y : Nat) : Nat := if y % 4 = 0 then 366 else 365

theorem daysBeforeMonth_year (y : Nat) : daysBeforeMonth y 13 = yearLength y := by
  simp only [daysBeforeMonth, monthLength, yearLength]
  split <;> rfl

/-- The days from 2000-01-01 to the first of January of a year. -/
def yearStart (y : Nat) : Nat := 365 * y + (y + 3) / 4

theorem yearStart_succ (y : Nat) : yearStart (y + 1) = yearStart y + yearLength y := by
  unfold yearStart yearLength
  split <;> omega

theorem yearStart_mono : Monotone yearStart := monotone_nat_of_le_succ fun y => by
  rw [yearStart_succ]; exact Nat.le_add_right ..

namespace DateTime

variable {t u : DateTime}

theorem dayNumber_eq (t : DateTime) : t.dayNumber = yearStart t.year + daysBeforeMonth t.year t.month + (t.day - 1) := rfl

/-- The fields of a time of the calendar, each in its range. -/
theorem wf_ranges (h : t.wf = true) : t.year ≤ 99 ∧ (1 ≤ t.month ∧ t.month ≤ 12)
    ∧ (1 ≤ t.day ∧ t.day ≤ monthLength t.year t.month) ∧ t.hour ≤ 23 ∧ t.minute ≤ 59 ∧ t.second ≤ 59 := by
  obtain ⟨year, monthLow, monthHigh, dayLow, dayHigh, time⟩ := (wf_iff t).mp h
  exact ⟨year, ⟨monthLow, monthHigh⟩, ⟨dayLow, dayHigh⟩, time⟩

/-- A date lies before the first of the next month. -/
theorem day_lt_month (h : t.wf = true) :
    daysBeforeMonth t.year t.month + (t.day - 1) < daysBeforeMonth t.year (t.month + 1) := by
  obtain ⟨-, month, day, -⟩ := wf_ranges h
  rw [daysBeforeMonth_succ _ month.1]
  omega

/-- A date lies before the first of January of the next year. -/
theorem dayNumber_lt_year (h : t.wf = true) : t.dayNumber < yearStart (t.year + 1) := by
  obtain ⟨-, month, -⟩ := wf_ranges h
  have inMonth := day_lt_month h
  have inYear := daysBeforeMonth_mono t.year (show t.month + 1 ≤ 13 by omega)
  rw [daysBeforeMonth_year] at inYear
  rw [dayNumber_eq, yearStart_succ]
  omega

/-- The calendar has 36525 days: a hundred years with 25 leap years. -/
theorem dayNumber_lt (h : t.wf = true) : t.dayNumber < 36525 := by
  obtain ⟨year, -⟩ := wf_ranges h
  exact Nat.lt_of_lt_of_le (dayNumber_lt_year h) (yearStart_mono (show t.year + 1 ≤ 100 by omega))

/-- The day after is the next one, and the last day of 2099 is followed by the first of 2000. -/
theorem dayNumber_nextDay (h : t.wf = true) : t.nextDay.dayNumber = (t.dayNumber + 1) % 36525 := by
  obtain ⟨year, month, day, -⟩ := wf_ranges h
  have bound := dayNumber_lt h
  unfold nextDay
  by_cases inMonth : t.day < monthLength t.year t.month
  · rw [if_pos inMonth]
    have next : ({ t with day := t.day + 1 } : DateTime).wf = true := by
      obtain ⟨y, low, high, -, -, time⟩ := (wf_iff t).mp h
      exact (wf_iff _).mpr ⟨y, low, high, Nat.le_add_left .., inMonth, time⟩
    have count : ({ t with day := t.day + 1 } : DateTime).dayNumber = t.dayNumber + 1 := by
      simp only [dayNumber_eq]; omega
    have := dayNumber_lt next
    omega
  · rw [if_neg inMonth]
    have lastDay : daysBeforeMonth t.year (t.month + 1) = daysBeforeMonth t.year t.month + (t.day - 1) + 1 := by
      rw [daysBeforeMonth_succ _ month.1]; omega
    by_cases inYear : t.month < 12
    · rw [if_pos inYear]
      have count : ({ t with day := 1, month := t.month + 1 } : DateTime).dayNumber = t.dayNumber + 1 := by
        simp only [dayNumber_eq]; omega
      have inYear' := daysBeforeMonth_mono t.year (show t.month + 1 ≤ 12 by omega)
      have december : daysBeforeMonth t.year 13 = daysBeforeMonth t.year 12 + 31 := daysBeforeMonth_succ _ (by omega)
      rw [daysBeforeMonth_year] at december
      have century := yearStart_mono (show t.year + 1 ≤ 100 by omega)
      rw [yearStart_succ] at century
      have hundred : yearStart 100 = 36525 := rfl
      have whole := dayNumber_eq t
      omega
    · rw [if_neg inYear]
      have december : t.month = 12 := by omega
      rw [december, daysBeforeMonth_year] at lastDay
      have last : t.dayNumber + 1 = yearStart (t.year + 1) := by
        rw [yearStart_succ, dayNumber_eq, december]; omega
      have count (y : Nat) : ({ t with day := 1, month := 1, year := y } : DateTime).dayNumber = yearStart y := rfl
      rw [count, last]
      by_cases lastYear : t.year = 99
      · rw [lastYear]; rfl
      · have fits : yearStart (t.year + 1) ≤ yearStart 99 := yearStart_mono (show t.year + 1 ≤ 99 by omega)
        have near : yearStart 99 < 36525 := by decide
        rw [Nat.mod_eq_of_lt (show t.year + 1 < 100 by omega)]
        omega

/-- The day number tells the date. -/
theorem date_of_dayNumber (ht : t.wf = true) (hu : u.wf = true) (h : t.dayNumber = u.dayNumber) :
    t.year = u.year ∧ t.month = u.month ∧ t.day = u.day := by
  have year_le {a b : DateTime} (ha : a.wf = true) (e : a.dayNumber = b.dayNumber) : b.year ≤ a.year := by
    by_contra less
    have start := yearStart_mono (show a.year + 1 ≤ b.year by omega)
    have := dayNumber_lt_year ha
    have := dayNumber_eq b
    omega
  have year : t.year = u.year := Nat.le_antisymm (year_le hu h.symm) (year_le ht h)
  have month_le {a b : DateTime} (ha : a.wf = true) (e : a.dayNumber = b.dayNumber) (y : a.year = b.year) : b.month ≤ a.month := by
    by_contra less
    have start := daysBeforeMonth_mono a.year (show a.month + 1 ≤ b.month by omega)
    have := day_lt_month ha
    rw [dayNumber_eq, dayNumber_eq, y] at e
    rw [y] at this start
    omega
  have month : t.month = u.month := Nat.le_antisymm (month_le hu h.symm year.symm) (month_le ht h year)
  obtain ⟨-, -, tDay, -⟩ := wf_ranges ht
  obtain ⟨-, -, uDay, -⟩ := wf_ranges hu
  rw [dayNumber_eq, dayNumber_eq, year, month] at h
  exact ⟨year, month, by omega⟩

theorem instant_midnight (h : t.hour = 0) (m : t.minute = 0) (sec : t.second = 0) : t.instant = t.dayNumber * 86400 := by
  rw [instant, h, m, sec]; omega

theorem instant_nextSecond (h : t.wf = true) : t.nextSecond.instant = (t.instant + 1) % (36525 * 86400) := by
  obtain ⟨-, -, -, hour, minute, second⟩ := wf_ranges h
  have bound := dayNumber_lt h
  have day := dayNumber_nextDay h
  unfold nextSecond
  by_cases inMinute : t.second < 59
  · rw [if_pos inMinute]
    have count : ({ t with second := t.second + 1 } : DateTime).instant = t.instant + 1 := by
      simp only [instant, dayNumber_eq]; omega
    rw [count, Nat.mod_eq_of_lt]
    unfold instant
    omega
  · rw [if_neg inMinute]
    by_cases inHour : t.minute < 59
    · rw [if_pos inHour]
      have count : ({ t with second := 0, minute := t.minute + 1 } : DateTime).instant = t.instant + 1 := by
        simp only [instant, dayNumber_eq]; omega
      rw [count, Nat.mod_eq_of_lt]
      unfold instant
      omega
    · rw [if_neg inHour]
      by_cases inDay : t.hour < 23
      · rw [if_pos inDay]
        have count : ({ t with second := 0, minute := 0, hour := t.hour + 1 } : DateTime).instant = t.instant + 1 := by
          simp only [instant, dayNumber_eq]; omega
        rw [count, Nat.mod_eq_of_lt]
        unfold instant
        omega
      · rw [if_neg inDay]
        have midnight : ({ t with second := 0, minute := 0, hour := 0 } : DateTime).nextDay.instant = t.nextDay.dayNumber * 86400 := by
          unfold nextDay
          dsimp only
          split
          · exact instant_midnight rfl rfl rfl
          · split <;> exact instant_midnight rfl rfl rfl
        rw [midnight, day]
        unfold instant
        omega

/-- No two times of the calendar are the same second. -/
theorem instant_injective (ht : t.wf = true) (hu : u.wf = true) (h : t.instant = u.instant) : t = u := by
  obtain ⟨-, -, -, tHour, tMinute, tSecond⟩ := wf_ranges ht
  obtain ⟨-, -, -, uHour, uMinute, uSecond⟩ := wf_ranges hu
  unfold instant at h
  have day : t.dayNumber = u.dayNumber := by omega
  have hour : t.hour = u.hour := by omega
  have minute : t.minute = u.minute := by omega
  have second : t.second = u.second := by omega
  obtain ⟨year, month, date⟩ := date_of_dayNumber ht hu day
  cases t
  cases u
  simp_all

end DateTime

/-- Settles O45. -/
theorem calendarCountsSeconds : Obligations.CalendarCountsSeconds :=
  ⟨fun _ h => ⟨DateTime.wf_nextSecond h, DateTime.instant_nextSecond h⟩, fun _ _ => DateTime.instant_injective, by decide, by decide,
    fun _ => rfl⟩

end Sys2Proof.Machine
end

section
/-! PROOFS. The stopping of the part (O59). -/

namespace Sys2Proof.Machine

open State

/-- Every port is replaced in turn: each stands as its own turn has made it. -/
theorem port_eachPort (f : Port → LinkPort → LinkPort) (s : State) (p : Port) :
    (s.each ports3 fun p t => t.modPort p (f p)).port p = f p (s.port p) := by
  have turn := each_at (fun t p => t.port p) (fun _ => ()) (fun _ p x => f p x) (fun p t => t.modPort p (f p)) ports3 (by decide)
    (fun _ _ => rfl) (fun p t => port_modPort_self ..) (fun p q t h => port_modPort_ne _ h _) s p
  have mem : p ∈ ports3 := by cases p <;> decide
  rwa [if_pos mem] at turn

theorem abandonSequencer_frame (q : Sequencer) :
    (State.abandonSequencer q).lanes = Tab.replicate 2 .dark ∧ (State.abandonSequencer q).sign = .off := ⟨rfl, rfl⟩

/-- The work abandoned when the part stops: the ports, the sequencers, the incidents that wait and the warm restart (R175, log 10). -/
theorem abandon_spec (s : State) :
    { s.abandon with sequencers := s.sequencers, qualified := s.qualified, supply := s.supply, ports := s.ports } = s
      ∧ s.abandon.supply = { s.supply with warmDue := false }
      ∧ (∀ r, s.abandon.seq r = State.abandonSequencer (s.seq r))
      ∧ ∀ p, s.abandon.port p = { s.port p with
          receiver := .hunting, current := none, waiting := none, answers := [], pending := 0 } := by
  refine ⟨rfl, rfl, fun r => Tab.get_map .., fun p => ?_⟩
  exact port_eachPort (fun _ x => { x with receiver := .hunting, current := none, waiting := none, answers := [], pending := 0 })
    { s with sequencers := s.sequencers.map abandonSequencer, qualified := [], supply := { s.supply with warmDue := false } } p

/-- A stopped part: everything but the power, the line and the abandoned work as it was (R174, R175). -/
theorem stopped_spec {s t : State} (power : t.sequencers = s.abandon.sequencers ∧ t.ports = s.abandon.ports
      ∧ t.retained = s.abandon.retained ∧ t.memory = s.abandon.memory ∧ t.lists = s.abandon.lists ∧ t.loops = s.abandon.loops) :
    t.retained = s.retained ∧ t.memory = s.memory ∧ t.lists = s.lists ∧ t.loops = s.loops
      ∧ (∀ r ln, t.commanded r ln = .none) ∧ (∀ r, (t.seq r).sign = .off)
      ∧ ∀ p, t.attention p = false ∧ (t.port p).receiver = .hunting ∧ (t.port p).current = none
        ∧ (t.port p).waiting = none ∧ (t.port p).answers = [] := by
  obtain ⟨sequencers, ports, retained, memory, lists, loops⟩ := power
  obtain ⟨frame, -, seqs, portsThere⟩ := abandon_spec s
  have seq (r : Ramp) : t.seq r = State.abandonSequencer (s.seq r) := by
    rw [← seqs r]; unfold State.seq; rw [sequencers]
  have port (p : Port) : t.port p = { s.port p with
      receiver := .hunting, current := none, waiting := none, answers := [], pending := 0 } := by
    rw [← portsThere p]; unfold State.port; rw [ports]
  refine ⟨retained.trans (congrArg State.retained frame :), memory.trans (congrArg State.memory frame :),
    lists.trans (congrArg State.lists frame :), loops.trans (congrArg State.loops frame :), fun r ln => ?_, fun r => ?_, fun p => ?_⟩
  · unfold commanded
    rw [seq, (abandonSequencer_frame _).1, Tab.get_replicate]
    rfl
  · rw [seq, (abandonSequencer_frame _).2]
  · unfold attention
    rw [port]
    exact ⟨rfl, rfl, rfl, rfl, rfl⟩

/-- Settles O59: the two stopping commands abandon the same work, and no other command here touches it. -/
theorem stoppingLeavesTheRetainedStore : Obligations.StoppingLeavesTheRetainedStore := by
  intro s
  refine ⟨?_, fun stopped => ?_, fun dead => ?_, fun powered => ?_⟩
  · rintro c x l (⟨rfl, running, rfl, rfl⟩ | ⟨rfl, rfl, rfl⟩)
    · have run : s.resetLineAsserted = (s.abandon.setPower .heldAtReset).setResetLine true := by
        unfold resetLineAsserted; rw [running]
      refine ⟨s.resetLineAsserted, rfl, ?_⟩
      rw [run]
      exact ⟨rfl, rfl, stopped_spec ⟨rfl, rfl, rfl, rfl, rfl, rfl⟩⟩
    · exact ⟨s.mainSupplyLost, rfl, rfl, rfl, stopped_spec ⟨rfl, rfl, rfl, rfl, rfl, rfl⟩⟩
  · show Host.Outcome.next s.resetLineAsserted = _
    unfold resetLineAsserted
    cases power : s.supply.power with
    | running => exact absurd power stopped
    | heldAtReset => rfl
    | unpowered => rfl
  · show Host.Outcome.next s.batterySupplyLow = _
    unfold batterySupplyLow
    rw [dead]
  · show Host.Outcome.next s.batterySupplyLow = _
    unfold batterySupplyLow
    cases power : s.supply.power with
    | running => rfl
    | heldAtReset => rfl
    | unpowered => exact absurd power powered

end Sys2Proof.Machine
end

section
/-! PROOFS. The change of a list, and SELECT, WITHDRAW and CLEAR_HOLD (O52). -/

namespace Sys2Proof.Machine

open State

/-! ### The change of a list (R73, R74, R82) -/

namespace PlanList

/-- A list without a governing plan demands none, with no FALLBACK entry on it. -/
theorem demanded_of_noPlan {l : PlanList} (h : l.governingPlan = none) : ({ l with fallback := none } : PlanList).demanded = none := by
  obtain ⟨hold, fallback, command, schedule⟩ := l
  cases hold with
  | true => rfl
  | false =>
    cases command with
    | none => cases schedule with
      | none => rfl
      | some a => cases a with
        | off => rfl
        | plan k => cases h
    | some c =>
      obtain ⟨a, o⟩ := c
      cases a with
      | off => rfl
      | plan k => cases h

end PlanList

namespace State

variable (s : State) (r : Ramp)

/-- An off demand is followed without a change of any list. -/
theorem lists_handDemand_off (h : (s.planList r).demanded = none) : (s.handDemand r).lists = s.lists := by
  have seen : s.demandSeen r = none := by unfold demandSeen; rw [h]; exact ite_self _
  unfold handDemand
  dsimp only
  rw [seen]
  cases (s.seq r).state with
  | warning => exact (lists_reachOff _ r).trans (lists_goDark s r .off)
  | metering =>
    dsimp only
    split
    · rfl
    · exact lists_enterEnding s r
  | _ => rfl

/-- The outcome of the immediate fallback test: what it leaves of the list, and the FALLBACK event (R74, R82). -/
theorem fallbackTest_eq {l : PlanList} {fb : Option PlanRef} {w : State}
    (h : l.governingPlan = none ∧ w = s.setList r l ∧ fb = none
      ∨ ∃ k, l.governingPlan = some k ∧ w = (s.setList r l).useRecord (.plan k)
          ∧ (s.readablePlan k ≠ none ∧ fb = none ∨ s.readablePlan k = none ∧ fb = some .builtin)) :
    (s.setList r l).fallbackTest r = (w.setList r { l with fallback := fb }).raiseIf
      (decide (l.fallback = none ∧ fb ≠ none ∨ l.fallback ≠ none ∧ fb = none ∧ s.router.edges.fallback = .both)) .fallback := by
  have removed {u : State} (list : u.planList r = l) (router : u.router = s.router) : u.removeFallback r
      = (u.setList r { l with fallback := none }).raiseIf
        (decide (l.fallback = none ∧ (none : Option PlanRef) ≠ none
          ∨ l.fallback ≠ none ∧ (none : Option PlanRef) = none ∧ s.router.edges.fallback = .both)) .fallback := by
    unfold removeFallback
    rw [list, router]
    cases held : l.fallback <;> simp [held]
  unfold fallbackTest
  rw [planList_setList_self]
  rcases h with ⟨plan, rfl, rfl⟩ | ⟨k, plan, rfl, read⟩
  · rw [plan]
    exact removed (planList_setList_self s r l) rfl
  · rw [plan]
    have list : ((s.setList r l).useRecord (.plan k)).planList r = l := by
      unfold planList
      rw [lists_useRecord]
      exact planList_setList_self s r l
    have router : ((s.setList r l).useRecord (.plan k)).router = s.router := router_useRecord _ _
    have readable : ((s.setList r l).useRecord (.plan k)).readablePlan k = s.readablePlan k :=
      (calm_useRecord _ (.plan k)).readablePlan k
    dsimp only
    rw [readable]
    rcases read with ⟨present, rfl⟩ | ⟨missing, rfl⟩
    · rw [if_pos (Option.isSome_iff_ne_none.mpr present)]
      exact removed list router
    · rw [missing, if_neg (by simp)]
      unfold placeFallback
      rw [list]
      cases held : l.fallback <;> simp [held]

theorem changeList_same {l : PlanList} (governing : l.governing = (s.planList r).governing)
    (demanded : l.demanded = (s.planList r).demanded) : s.changeList r l = s.setList r l := by
  unfold changeList
  dsimp only
  rw [if_pos governing, planList_setList_self, if_pos demanded]

theorem changeList_demand {l : PlanList} (governing : l.governing = (s.planList r).governing)
    (demanded : l.demanded ≠ (s.planList r).demanded) : s.changeList r l = (s.setList r l).handDemand r := by
  unfold changeList
  dsimp only
  rw [if_pos governing, planList_setList_self, if_neg demanded]

/-- A list whose governing entry changes is tested, and the sequencer takes a changed demanded plan (R73, R74). -/
theorem changeList_tested {l l' : PlanList} {u : State} (governing : l.governing ≠ (s.planList r).governing)
    (test : (s.setList r l).fallbackTest r = u) (list : u.planList r = l') :
    s.changeList r l = if l'.demanded = (s.planList r).demanded then u else u.handDemand r := by
  unfold changeList
  dsimp only
  rw [if_neg governing, test, list]

theorem fallback_changeList {l : PlanList} (governing : l.governing ≠ (s.planList r).governing) (plan : l.governingPlan = none) :
    ((s.changeList r l).planList r).fallback = none := by
  have test := s.fallbackTest_eq r (l := l) (.inl ⟨plan, rfl, rfl⟩)
  have list : ((s.setList r l).fallbackTest r).planList r = { l with fallback := none } := by
    rw [test]
    unfold planList
    rw [lists_raiseIf]
    exact planList_setList_self ..
  rw [s.changeList_tested r governing rfl list]
  split
  · rw [list]
  · unfold planList
    rw [lists_handDemand_off _ r (by rw [list]; exact PlanList.demanded_of_noPlan plan)]
    exact congrArg PlanList.fallback list

end State

/-! ### The requests on a list (R76 to R78) -/

theorem action_none {b : Byte} (h : b = 0 ∨ 33 ≤ b.toNat ∧ b ≠ 0xFF) : Action.ofCode b.toNat = none := by
  have present : b.toNat ≠ absentByte := by
    rcases h with rfl | ⟨-, h⟩
    · decide
    · exact fun e => h (BitVec.eq_of_toNat_eq e)
  rw [Action.ofCode, if_neg present, indexOf_none (h.imp_right (·.1))]
  rfl

theorem action_plan {b : Byte} {k : PlanSlot} (h : b.toNat = k.val + 1) : Action.ofCode b.toNat = some (.plan k) := by
  have present : b.toNat ≠ absentByte := by
    have := k.isLt
    simp only [absentByte]
    omega
  rw [Action.ofCode, if_neg present, indexOf_eq h]
  rfl

theorem action_off : Action.ofCode (0xFF : Byte).toNat = some .off := rfl

section Requests

variable {s : State} {p : Port} {b plan : Byte} {r : Ramp}

theorem authority_ramp {q : Req} (hb : b.toNat = r.val + 1) (hh : s.holder (rampRecord r) = some p)
    (need : authorityNeeded p q = (rampOf b).map rampRecord) : Authority p q s := by
  rw [rampOf_eq hb] at need
  intro i e
  rw [need] at e
  exact Option.some.inj e ▸ hh

theorem authority_noRamp {q : Req} (hb : b = 0 ∨ 7 ≤ b.toNat) (need : authorityNeeded p q = (rampOf b).map rampRecord) :
    Authority p q s := authority_none (by rw [need, rampOf_none hb]; rfl)

theorem select_noRamp (hb : b = 0 ∨ 7 ≤ b.toNat) : s.select p b plan = .refuse .badValue s := by
  unfold select; rw [rampOf_none hb]

theorem select_noAction (hp : plan = 0 ∨ 33 ≤ plan.toNat ∧ plan ≠ 0xFF) : s.select p b plan = .refuse .badValue s := by
  unfold select; rw [action_none hp]; cases rampOf b <;> rfl

theorem select_unconfigured (hb : b.toNat = r.val + 1) {a : Action} (ha : Action.ofCode plan.toNat = some a)
    (h : (s.seq r).state = .unconfigured) : s.select p b plan = .refuse .empty s := by
  unfold select; rw [rampOf_eq hb, ha]; exact if_pos h

theorem select_off (hb : b.toNat = r.val + 1) (h : (s.seq r).state ≠ .unconfigured) :
    s.select p b 0xFF = .done (s.changeList r { s.planList r with command := some (.off, .port p) }) := by
  unfold select; rw [rampOf_eq hb, action_off]; exact if_neg h

theorem select_emptySlot (hb : b.toNat = r.val + 1) {k : PlanSlot} (hk : plan.toNat = k.val + 1)
    (h : (s.seq r).state ≠ .unconfigured) (none : s.memory.plans.get k = none) : s.select p b plan = .refuse .empty s := by
  unfold select; rw [rampOf_eq hb, action_plan hk]
  dsimp only
  rw [if_neg h, none]
  exact if_pos rfl

theorem select_plan (hb : b.toNat = r.val + 1) {k : PlanSlot} (hk : plan.toNat = k.val + 1)
    (h : (s.seq r).state ≠ .unconfigured) (present : s.memory.plans.get k ≠ none) :
    s.select p b plan = .done ((s.useRecord (.plan k)).changeList r { s.planList r with command := some (.plan k, .port p) }) := by
  have list : (s.useRecord (.plan k)).planList r = s.planList r := by unfold planList; rw [lists_useRecord]
  unfold select; rw [rampOf_eq hb, action_plan hk]
  dsimp only
  rw [if_neg h, if_neg (by simpa using present)]
  unfold placeCommand
  rw [list]

theorem withdraw_noRamp (hb : b = 0 ∨ 7 ≤ b.toNat) : s.withdraw b = .refuse .badValue s := by unfold withdraw; rw [rampOf_none hb]
theorem withdraw_unconfigured (hb : b.toNat = r.val + 1) (h : (s.seq r).state = .unconfigured) :
    s.withdraw b = .refuse .empty s := by unfold withdraw; rw [rampOf_eq hb]; exact if_pos h
theorem withdraw_done (hb : b.toNat = r.val + 1) (h : (s.seq r).state ≠ .unconfigured) :
    s.withdraw b = .done (s.changeList r { s.planList r with command := none }) := by
  unfold withdraw; rw [rampOf_eq hb]; exact if_neg h

theorem clearHold_noRamp (hb : b = 0 ∨ 7 ≤ b.toNat) : s.clearHold b = .refuse .badValue s := by unfold clearHold; rw [rampOf_none hb]
theorem clearHold_unconfigured (hb : b.toNat = r.val + 1) (h : (s.seq r).state = .unconfigured) :
    s.clearHold b = .refuse .empty s := by unfold clearHold; rw [rampOf_eq hb]; exact if_pos h
theorem clearHold_done (hb : b.toNat = r.val + 1) (h : (s.seq r).state ≠ .unconfigured) :
    s.clearHold b = .done ((s.setHoldFlag r false).changeList r { s.planList r with hold := false }) := by
  unfold clearHold; rw [rampOf_eq hb]; exact if_neg h

end Requests

/-- A request checked and carried out by its owning block, in the words of the statements. -/
theorem exec_done {c : Instr} {p : Port} {q : Req} {s t : State} (hc : c.request = some (p, q)) (h : s.ready p)
    (hr : q ≠ .warmRestart q.indexByte) (hw : q.wf = true) (hp : portAllows p q = true) (ha : Authority p q s)
    (hx : (s.arrived p q).owner p q = .done t) : exec c s = .next (t.answered p q .done .empty) :=
  exec_checked hc h hr hw hp ha hx

theorem exec_ownerRefuses {c : Instr} {p : Port} {q : Req} {s : State} {st : Status} (hc : c.request = some (p, q)) (h : s.ready p)
    (hw : q.wf = true) (hp : portAllows p q = true) (ha : Authority p q s) (hst : st ≠ .done)
    (hx : (s.arrived p q).owner p q = .refuse st (s.arrived p q)) : exec c s = s.refusal p q st :=
  exec_refused hc h hst ((perform_checked hw hp (authority_arrived ha)).trans hx)

/-- Settles O52: the change of a list by the cases of its governing entry and its demanded plan, and each request by its checks. -/
theorem listCommandsChangeTheirList : Obligations.ListCommandsChangeTheirList := by
  refine ⟨fun r l s => ?_, fun p b s h => ⟨fun hb => ?_, fun r hb hh => ⟨fun plan hp => ?_, fun off => ?_, fun on => ?_⟩⟩⟩
  · obtain ⟨hold, command, schedule, others⟩ := changeList_entries s r l
    refine ⟨hold, command, schedule, others, s.fallback_changeList r, fun governing fb w u cases hu => ?_, s.changeList_same r,
      s.changeList_demand r⟩
    have test := s.fallbackTest_eq r cases
    rw [← hu] at test
    have list : u.planList r = { l with fallback := fb } := by
      rw [hu]
      unfold planList
      rw [lists_raiseIf]
      exact planList_setList_self ..
    rw [s.changeList_tested r governing test list]
    exact ⟨fun same => if_pos same, fun change => if_neg change⟩
  · exact ⟨fun plan => exec_ownerRefuses rfl h rfl rfl (authority_noRamp hb rfl) nofun (select_noRamp hb),
      exec_ownerRefuses rfl h rfl rfl (authority_noRamp hb rfl) nofun (withdraw_noRamp hb),
      fun hp => exec_ownerRefuses rfl h rfl (decide_eq_true hp) (authority_noRamp hb rfl) nofun (clearHold_noRamp hb)⟩
  · exact exec_ownerRefuses rfl h rfl rfl (authority_ramp hb hh rfl) nofun (select_noAction hp)
  · refine ⟨fun k plan hp => ?_, exec_ownerRefuses rfl h rfl rfl (authority_ramp hb hh rfl) nofun (withdraw_unconfigured hb off),
      fun hp => exec_ownerRefuses rfl h rfl (decide_eq_true hp) (authority_ramp hb hh rfl) nofun (clearHold_unconfigured hb off)⟩
    rcases hp with hp | rfl
    · exact exec_ownerRefuses rfl h rfl rfl (authority_ramp hb hh rfl) nofun (select_unconfigured hb (action_plan hp) off)
    · exact exec_ownerRefuses rfl h rfl rfl (authority_ramp hb hh rfl) nofun (select_unconfigured hb action_off off)
  · refine ⟨exec_done rfl h nofun rfl rfl (authority_ramp hb hh rfl) (select_off hb on), fun k plan hk => ⟨fun none => ?_,
      fun present => ?_⟩, exec_done rfl h nofun rfl rfl (authority_ramp hb hh rfl) (withdraw_done hb on), fun hp => ?_⟩
    · exact exec_ownerRefuses rfl h rfl rfl (authority_ramp hb hh rfl) nofun (select_emptySlot hb hk on none)
    · exact exec_done rfl h nofun rfl rfl (authority_ramp hb hh rfl) (select_plan hb hk on present)
    · exact exec_done rfl h nofun rfl (decide_eq_true hp) (authority_ramp hb hh rfl) (clearHold_done hb on)

end Sys2Proof.Machine
end

section
/-! PROOFS. What the moves of a ramp's sequencer leave alone: everything but the tables of sequencers, lamps, rates and ports and the
was-metering flags, and of those tables the rows of other ramps. -/

namespace Sys2Proof.Machine

open State

namespace State

/-- `t` with what a sequencer's moves write set back to what it is in `s`. -/
def setBack (s t : State) : State :=
  { t with
    sequencers := s.sequencers, lamps := s.lamps, rates := s.rates, ports := s.ports
    retained := { t.retained with wasMetering := s.retained.wasMetering } }

/-- From `s` to `t` nothing has changed but sequencers, lamps, rates, ports and was-metering flags. -/
def Beside (s t : State) : Prop := s.setBack t = s

namespace Beside

variable {s t u : State}

theorem refl : s.Beside s := rfl

theorem trans (h : s.Beside t) (g : t.Beside u) : s.Beside u :=
  (congrArg s.setBack g).trans h

theorem each {ι : Type} (xs : List ι) (f : ι → State → State) (step : ∀ x (t : State), t.Beside (f x t)) : s.Beside (s.each xs f) :=
  each_induct (P := s.Beside) xs f refl fun x t h => h.trans (step x t)

theorem lists (h : s.Beside t) : t.lists = s.lists := (congrArg State.lists h :)
theorem memory (h : s.Beside t) : t.memory = s.memory := (congrArg State.memory h :)
theorem arbiter (h : s.Beside t) : t.arbiter = s.arbiter := (congrArg State.arbiter h :)
theorem router (h : s.Beside t) : t.router = s.router := (congrArg State.router h :)
theorem supply (h : s.Beside t) : t.supply = s.supply := (congrArg State.supply h :)
theorem measure (h : s.Beside t) : t.measure = s.measure := (congrArg State.measure h :)
theorem loops (h : s.Beside t) : t.loops = s.loops := (congrArg State.loops h :)
theorem buttons (h : s.Beside t) : t.buttons = s.buttons := (congrArg State.buttons h :)
theorem qualified (h : s.Beside t) : t.qualified = s.qualified := (congrArg State.qualified h :)
theorem retained (h : s.Beside t) : { t.retained with wasMetering := s.retained.wasMetering } = s.retained :=
  (congrArg State.retained h :)
theorem planList (h : s.Beside t) (r : Ramp) : t.planList r = s.planList r := congrArg (·.get r) h.lists
theorem corridorInUse (h : s.Beside t) : t.corridorInUse = s.corridorInUse :=
  (congrArg State.corridorInUse h :)

end Beside

variable (s : State) (r : Ramp)

theorem beside_raise (c : EventClass) : s.Beside (s.raise c) := by
  unfold Beside; rw [raise_ports_only]; rfl

theorem beside_raiseIf (b : Bool) (c : EventClass) : s.Beside (s.raiseIf b c) := by
  unfold Beside; rw [raiseIf_ports_only]; rfl

theorem beside_setSeq (q : Sequencer) : s.Beside (s.setSeq r q) := rfl
theorem beside_modSeq (f : Sequencer → Sequencer) : s.Beside (s.modSeq r f) := rfl
theorem beside_setRate (x : RampRate) : s.Beside (s.setRate r x) := rfl
theorem beside_setLamp (ln : LaneNo) (m : LaneMonitor) : s.Beside (s.setLamp r ln m) := rfl

theorem beside_handLane (ln : LaneNo) (st : LaneState) : s.Beside (s.handLane r ln st) := by
  unfold handLane; dsimp only; split
  · exact beside_modSeq s r _
  · exact (beside_modSeq s r _).trans (beside_setLamp _ r ln _)

theorem beside_handLanes (st : LaneState) : s.Beside (s.handLanes r st) := .each _ _ fun ln t => beside_handLane t r ln _
theorem beside_darkLanes : s.Beside (s.darkLanes r) := .each _ _ fun ln t => beside_handLane t r ln _

theorem beside_setRampState (st : RampState) : s.Beside (s.setRampState r st) := by
  unfold setRampState
  dsimp only
  refine Beside.trans ?_ (beside_raise _ _)
  have flagged : s.Beside (if ((s.modSeq r fun q => { q with state := st }).seq r).supplyHold = true
      then s.modSeq r fun q => { q with state := st }
      else (s.modSeq r fun q => { q with state := st }).setWasMetering r (st = .warning || st = .metering)) := by
    split <;> rfl
  refine flagged.trans ?_
  by_cases dark : st = .unconfigured
  · rw [if_pos dark]; exact .each _ _ fun ln t => beside_setLamp t r ln _
  · rw [if_neg dark]; exact .refl

theorem beside_goDark (st : RampState) : s.Beside (s.goDark r st) :=
  ((beside_darkLanes s r).trans (beside_modSeq _ r _)).trans (beside_setRampState _ r st)

theorem beside_warningEntry : s.Beside (s.warningEntry r) :=
  (((beside_handLanes s r _).trans (beside_modSeq _ r _)).trans (beside_setRate _ r _)).trans (beside_setRampState _ r _)

theorem beside_endingEntry : s.Beside (s.endingEntry r) :=
  ((beside_handLanes s r _).trans (beside_modSeq _ r _)).trans (beside_setRampState _ r _)

theorem beside_offSettled : s.Beside (s.offSettled r) := by
  unfold offSettled
  dsimp only
  split <;> split
  · exact (beside_setSeq s r _).trans (beside_setRampState _ r _)
  · exact beside_setSeq s r _
  · exact beside_setRampState s r _
  · exact .refl

theorem beside_offFollowed : s.Beside (s.offFollowed r) := by
  unfold offFollowed; split
  · exact beside_warningEntry s r
  · exact .refl

theorem beside_report : s.Beside (s.report r) := by
  have toOff {t : State} (h : s.Beside t) : s.Beside (((t.goDark r .off).offSettled r).offFollowed r) :=
    ((h.trans (beside_goDark _ r _)).trans (beside_offSettled _ r)).trans (beside_offFollowed _ r)
  unfold report
  dsimp only
  cases (s.seq r).state with
  | off =>
    dsimp only; split
    · exact (beside_setSeq s r _).trans (beside_setRampState _ r _)
    · exact beside_setSeq s r _
  | darkFault => exact beside_setSeq s r _
  | unconfigured =>
    dsimp only; split
    · exact .refl
    · exact ((beside_setSeq s r _).trans (beside_setRampState _ r _)).trans (beside_offFollowed _ r)
  | warning =>
    dsimp only; split
    · exact beside_setSeq s r _
    · exact toOff (beside_setSeq s r _)
  | metering =>
    dsimp only; split
    · exact beside_setSeq s r _
    · split
      · exact beside_setSeq s r _
      · exact (beside_setSeq s r _).trans (beside_endingEntry _ r)
  | ending => exact beside_setSeq s r _

theorem beside_reports : s.Beside s.reports := .each _ _ fun r t => beside_report t r

/-! ### Other ramps -/

/-- The row of a ramp in every table that a sequencer's moves write. -/
def rampRow (s : State) (r : Ramp) : Sequencer × Tab 2 LaneMonitor × Bool := (s.seq r, s.lamps.get r, s.retained.wasMetering.get r)

variable {s r} {r' : Ramp}

theorem rampRow_of {t : State} (seq : t.seq r' = s.seq r') (own : t.rampOwn r' = s.rampOwn r') : t.rampRow r' = s.rampRow r' := by
  obtain ⟨flag, lamps⟩ := Prod.mk.inj own
  unfold rampRow
  rw [seq, lamps, flag]

theorem seq_of_set {t : State} {q : Sequencer} (h : t.sequencers = s.sequencers.set r q) (ne : r' ≠ r) : t.seq r' = s.seq r' := by
  unfold seq; rw [h, Tab.get_set_ne _ _ ne]

theorem rampRow_goDark (ne : r' ≠ r) (st : RampState) : (s.goDark r st).rampRow r' = s.rampRow r' :=
  rampRow_of (seq_of_set (sequencers_goDark s r st) ne) (rampOwn_goDark s ne st)

theorem rampRow_setRampState (ne : r' ≠ r) (st : RampState) : (s.setRampState r st).rampRow r' = s.rampRow r' :=
  rampRow_of (seq_of_set (sequencers_setRampState s r st) ne) (rampOwn_setRampState s ne)

theorem rampRow_setSeq (ne : r' ≠ r) (q : Sequencer) : (s.setSeq r q).rampRow r' = s.rampRow r' :=
  rampRow_of (seq_setSeq_ne _ ne _) rfl

theorem rampRow_warningEntry (ne : r' ≠ r) : (s.warningEntry r).rampRow r' = s.rampRow r' :=
  rampRow_of (seq_of_set (sequencers_warningEntry s r) ne) (rampOwn_warningEntry s ne)

theorem rampRow_offSettled (ne : r' ≠ r) : (s.offSettled r).rampRow r' = s.rampRow r' := by
  unfold offSettled
  dsimp only
  split <;> split
  · exact (rampRow_setRampState ne _).trans (rampRow_setSeq ne _)
  · exact rampRow_setSeq ne _
  · exact rampRow_setRampState ne _
  · rfl

end State

end Sys2Proof.Machine
end

section
/-! PROOFS. Reads of the stored records beside a ramp's moves: they touch neither sequencers, lamps, lists nor the retained store, and
raise nothing but AUTHORITY and MEMORY. Then the entries into WARNING and ENDING with their reads, whole. -/

namespace Sys2Proof.Machine

open State

namespace State

/-- From `s` to `t` class `c` has become pending at no port, nor left one. -/
def SamePending (c : EventClass) (s t : State) : Prop :=
  ∀ p, classIn c (t.port p).pending = classIn c (s.port p).pending

namespace SamePending

variable {c d : EventClass} {s t u : State}

theorem refl : SamePending c s s := fun _ => rfl
theorem trans (h : SamePending c s t) (g : SamePending c t u) : SamePending c s u := fun p => (g p).trans (h p)

theorem of_ports (h : t.ports = s.ports) : SamePending c s t := fun p => by unfold port; rw [h]

theorem each {ι : Type} (xs : List ι) (f : ι → State → State) (step : ∀ x (t : State), SamePending c t (f x t)) :
    SamePending c s (s.each xs f) :=
  each_induct (P := SamePending c s) xs f refl fun x t h => h.trans (step x t)

theorem modPort (p : Port) (f : LinkPort → LinkPort) (h : ∀ x, (f x).pending = x.pending) : SamePending c s (s.modPort p f) := by
  intro q
  by_cases e : q = p
  · subst e; rw [port_modPort_self, h]
  · rw [port_modPort_ne _ e]

theorem raise (ne : c ≠ d) : SamePending c s (s.raise d) := fun p => by rw [pending_raise]; simp [ne]
theorem raiseIf (ne : c ≠ d) (b : Bool) : SamePending c s (s.raiseIf b d) := fun p => by rw [pending_raiseIf]; simp [ne]
theorem deliver (ne : c ≠ d) (p : Port) : SamePending c s (s.deliver d p) := fun q => by rw [pending_deliver]; simp [ne]

/-- Read on, a class raised between the same two states is raised between those before and after them too. -/
theorem raisedBy_left {vs : List State} (h : SamePending c s t) (g : raisedBy c vs t u) : raisedBy c vs s u :=
  fun p => by rw [← h p]; exact g p

theorem raisedBy_right {vs : List State} (g : raisedBy c vs s t) (h : SamePending c t u) : raisedBy c vs s u :=
  fun p => by rw [h p]; exact g p

end SamePending

variable (s : State)

theorem samePending_useRecord {c : EventClass} (ne : c ≠ .memory) (id : RecId) : SamePending c s (s.useRecord id) := by
  unfold useRecord
  split
  · cases (s.health id).check with
    | good => exact .refl
    | oneError => exact .of_ports rfl
    | twoErrors =>
      dsimp only
      split
      · exact .refl
      · unfold discover
        refine SamePending.trans ?_ (.raise ne)
        dsimp only
        split <;> exact .of_ports rfl
  · exact .refl

theorem samePending_giveUp (c : EventClass) (p : Port) (i : Fin 7) : SamePending c s (s.giveUp p i) := by
  unfold giveUp; split
  · exact .of_ports rfl
  · exact .refl

theorem samePending_becomeSilent {c : EventClass} (ne : c ≠ .authority) (p : Port) : SamePending c s (s.becomeSilent p) := by
  have silent : SamePending c s (s.modPort p fun x => { x with silent := true }) := .modPort p _ fun _ => rfl
  unfold becomeSilent
  dsimp only
  generalize s.modPort p (fun x => { x with silent := true }) = t at silent ⊢
  have given := silent.trans (SamePending.each recordNos (giveUp p) fun i u => samePending_giveUp u c p i)
  generalize t.each recordNos (giveUp p) = u at given ⊢
  split
  · exact given.trans (.deliver ne p)
  · exact given

theorem samePending_takeLapse {c : EventClass} (ne : c ≠ .authority) (b : Bool) (n : Nat) (p : Port) :
    SamePending c s (s.takeLapse b n p) := by
  unfold takeLapse
  dsimp only
  generalize changed : (fun x : LinkPort => ({ x with lapseTime := n, spared := _ } : LinkPort)) = f
  have lapse : SamePending c s (s.modPort p f) := .modPort p f fun x => by rw [← changed]
  generalize s.modPort p f = t at lapse ⊢
  split
  · exact lapse.trans (samePending_becomeSilent t ne p)
  · exact lapse

theorem samePending_handCorridor {c : EventClass} (ne : c ≠ .authority) (x : Option Port) (cs : CorridorRec) :
    SamePending c s (s.handCorridor x cs) := by
  unfold handCorridor
  exact (SamePending.of_ports (s := s) rfl).trans (.each _ _ fun p t => samePending_takeLapse t ne _ _ p)

theorem samePending_takeCorridor {c : EventClass} (na : c ≠ .authority) (nm : c ≠ .memory) : SamePending c s s.takeCorridor := by
  unfold takeCorridor
  exact (samePending_handCorridor s na none _).trans (samePending_useRecord _ nm _)

/-! ### A read leaves all but memory, Arbiter, Router and ports alone -/

/-- From `s` to `t` nothing has changed but configuration memory, the Arbiter, the Router and the ports, as by reads of records. -/
def ReadFrom (s t : State) : Prop :=
  ({ t with memory := s.memory, arbiter := s.arbiter, ports := s.ports, router := s.router } : State) = s

namespace ReadFrom

variable {s t u : State}

theorem refl : s.ReadFrom s := rfl

theorem trans (h : s.ReadFrom t) (g : t.ReadFrom u) : s.ReadFrom u :=
  (congrArg (fun v : State => ({ v with memory := s.memory, arbiter := s.arbiter, ports := s.ports, router := s.router } : State))
    g).trans h

theorem each {ι : Type} (xs : List ι) (f : ι → State → State) (step : ∀ x (t : State), t.ReadFrom (f x t)) :
    s.ReadFrom (s.each xs f) :=
  each_induct (P := s.ReadFrom) xs f refl fun x t h => h.trans (step x t)

theorem lamps (h : s.ReadFrom t) : t.lamps = s.lamps := (congrArg State.lamps h :)
theorem lists (h : s.ReadFrom t) : t.lists = s.lists := (congrArg State.lists h :)
theorem measure (h : s.ReadFrom t) : t.measure = s.measure := (congrArg State.measure h :)
theorem rates (h : s.ReadFrom t) : t.rates = s.rates := (congrArg State.rates h :)
theorem retained (h : s.ReadFrom t) : t.retained = s.retained := (congrArg State.retained h :)
theorem seq (h : s.ReadFrom t) (r : Ramp) : t.seq r = s.seq r := (congrArg (fun u : State => u.seq r) h :)
theorem planList (h : s.ReadFrom t) (r : Ramp) : t.planList r = s.planList r := (congrArg (fun u : State => u.planList r) h :)

end ReadFrom

theorem readFrom_modPort (p : Port) (f : LinkPort → LinkPort) : s.ReadFrom (s.modPort p f) := rfl

theorem readFrom_raise (c : EventClass) : s.ReadFrom (s.raise c) := by
  unfold ReadFrom; rw [raise_ports_only]

theorem readFrom_useRecord (id : RecId) : s.ReadFrom (s.useRecord id) := by
  unfold useRecord
  split
  · cases (s.health id).check with
    | good => exact .refl
    | oneError => exact .refl (s := s)
    | twoErrors =>
      dsimp only
      split
      · exact .refl
      · unfold discover
        refine ReadFrom.trans ?_ (readFrom_raise _ _)
        dsimp only
        split <;> rfl
  · exact .refl

theorem readFrom_giveUp (p : Port) (i : Fin 7) : s.ReadFrom (s.giveUp p i) := by
  unfold giveUp; split
  · exact .refl (s := s)
  · exact .refl

theorem readFrom_becomeSilent (p : Port) : s.ReadFrom (s.becomeSilent p) := by
  have silent := readFrom_modPort s p fun x => { x with silent := true }
  unfold becomeSilent
  dsimp only
  generalize s.modPort p (fun x => { x with silent := true }) = t at silent ⊢
  have given := silent.trans (ReadFrom.each recordNos (giveUp p) fun i u => readFrom_giveUp u p i)
  generalize t.each recordNos (giveUp p) = u at given ⊢
  split
  · exact given.trans (readFrom_modPort u p _)
  · exact given

theorem readFrom_takeLapse (b : Bool) (n : Nat) (p : Port) : s.ReadFrom (s.takeLapse b n p) := by
  unfold takeLapse
  dsimp only
  generalize (fun x : LinkPort => ({ x with lapseTime := n, spared := _ } : LinkPort)) = f
  have lapse := readFrom_modPort s p f
  generalize s.modPort p f = t at lapse ⊢
  split
  · exact lapse.trans (readFrom_becomeSilent t p)
  · exact lapse

theorem readFrom_takeCorridor : s.ReadFrom s.takeCorridor := by
  unfold takeCorridor handCorridor
  refine ReadFrom.trans ?_ (readFrom_useRecord _ _)
  have values : s.ReadFrom { s with
      router := { s.router with routes := s.corridorInUse.routes, edges := s.corridorInUse.edges }
      arbiter := { s.arbiter with defaults := s.corridorInUse.defaultHolder } } := rfl
  exact values.trans (.each _ _ fun p t => readFrom_takeLapse t _ _ p)

theorem rampRow_of_readFrom {s t : State} (h : s.ReadFrom t) (r : Ramp) : t.rampRow r = s.rampRow r := by
  unfold rampRow; rw [h.seq, h.lamps, h.retained]

theorem rampRow_takeCorridor (r : Ramp) : s.takeCorridor.rampRow r = s.rampRow r :=
  rampRow_of_readFrom (readFrom_takeCorridor s) r

/-- The runs of the lanes follow from any state with the same lamps and lanes. -/
theorem lampsFollow_of_row {s t u : State} {r : Ramp} {also : List LaneNo} (row : t.rampRow r = s.rampRow r)
    (h : t.lampsFollow r also u) : s.lampsFollow r also u := by
  obtain ⟨seq, rest⟩ := Prod.mk.inj row
  obtain ⟨lamps, -⟩ := Prod.mk.inj rest
  intro ln
  have lamp : s.lamp r ln = t.lamp r ln := by unfold lamp; rw [lamps]
  have commanded : s.commanded r ln = t.commanded r ln := by unfold commanded; rw [seq]
  rw [lamp, commanded]
  exact h ln

/-! ### The entries with their reads -/

variable {s} {r : Ramp}

/-- The Lane Count reports that follow an entry whose Lane Count is the one in use: the ramp's own report changes nothing but the
Pending Lane Count, and RAMP_STATE is raised by the routes that stand (R104). -/
theorem entry_reported {v w : State} {b : Bool} (pending : SamePending .rampState s v) (hold : (v.seq r).supplyHold = (s.seq r).supplyHold)
    (wasMetering : v.retained.wasMetering.get r = s.retained.wasMetering.get r)
    (turns : v.rampTurns r b [v] w) (follow : s.lampsFollow r [] w) (may : v.MayRaise w)
    (count : w.corridorInUse.laneCount.get r = (w.seq r).laneCount) (laned : (w.seq r).laneCount ≠ 0)
    (configured : (w.seq r).state ≠ .unconfigured) :
    s.rampTurns r b [w.reports] w.reports ∧ s.lampsFollow r [] w.reports := by
  obtain ⟨flag, raised⟩ := turns
  obtain ⟨ownFlag, ownLamps⟩ := Prod.mk.inj (rampOwn_reports_same w r count configured laned)
  have around := (MayRaise.of_ports (s := v) rfl rfl).around raised may (mayRaise_reports w)
  refine ⟨⟨?_, pending.raisedBy_left around.2⟩, lampsFollow_after follow ownLamps ?_⟩
  · rw [ownFlag, flag, hold, wasMetering]
  · rw [seq_reports_same w r count configured laned]

/-- Entry into WARNING, whole: its flag, RAMP_STATE by the routes then in force, and the runs of the lanes turned green (R105). -/
theorem enterWarning_turns (count : s.corridorInUse.laneCount.get r = (s.seq r).laneCount) (laned : (s.seq r).laneCount ≠ 0) :
    s.rampTurns r true [s.enterWarning r] (s.enterWarning r) ∧ s.lampsFollow r [] (s.enterWarning r) := by
  have entered : (s.takeCorridor.warningEntry r).seq r = (s.seq r).warned s.corridorInUse := by
    rw [seq_warningEntry, seq_takeCorridor, corridorInUse_takeCorridor]
  have row := rampRow_takeCorridor s r
  obtain ⟨turns, follow⟩ := warningEntry_turns s.takeCorridor r
  refine entry_reported (samePending_takeCorridor s (by decide) (by decide)) (by rw [seq_takeCorridor]) (by rw [retained_takeCorridor])
    turns (lampsFollow_of_row row follow) (mayRaise_warningEntry _ r) ?_ ?_ ?_
  · rw [(calm_warningEntry _ r).corridorInUse, corridorInUse_takeCorridor, entered]; exact count
  · rw [entered]; exact laned
  · rw [entered]; simp [Sequencer.warned]

/-- Entry into ENDING, whole (R110). -/
theorem enterEnding_turns (count : s.corridorInUse.laneCount.get r = (s.seq r).laneCount) (laned : (s.seq r).laneCount ≠ 0) :
    s.rampTurns r false [s.enterEnding r] (s.enterEnding r) ∧ s.lampsFollow r [] (s.enterEnding r) := by
  have entered := seq_endingEntry s.takeCorridor r
  rw [seq_takeCorridor] at entered
  have row := rampRow_takeCorridor s r
  obtain ⟨turns, follow⟩ := endingEntry_turns s.takeCorridor r
  refine entry_reported (samePending_takeCorridor s (by decide) (by decide)) (by rw [seq_takeCorridor]) (by rw [retained_takeCorridor])
    turns (lampsFollow_of_row row follow) (mayRaise_endingEntry _ r) ?_ ?_ ?_
  · rw [(calm_endingEntry _ r).corridorInUse, corridorInUse_takeCorridor, entered]; exact count
  · rw [entered]; exact laned
  · rw [entered]; simp

/-! ### What follows at OFF -/

theorem reachOff_noDemand (h : (s.planList r).demanded = none) : s.reachOff r = s.offSettled r := by
  unfold reachOff
  dsimp only
  have seen : (s.offSettled r).demandSeen r = none := by
    unfold demandSeen; rw [(beside_offSettled s r).planList, h]; exact ite_self _
  rw [if_neg (by unfold warns; rw [seen]; simp)]

theorem offSettled_configured (count : (s.seq r).pendingCount = none) (laned : (s.seq r).laneCount ≠ 0) : s.offSettled r = s := by
  unfold offSettled
  dsimp only
  rw [count]
  exact if_neg laned

theorem reachOff_rests (count : (s.seq r).pendingCount = none) (laned : (s.seq r).laneCount ≠ 0)
    (h : (s.planList r).demanded = none ∨ (s.seq r).supplyHold = true) : s.reachOff r = s := by
  unfold reachOff
  dsimp only
  rw [offSettled_configured count laned, if_neg]
  unfold warns demandSeen
  rcases h with h | h <;> simp [h]

theorem reachOff_warns (count : (s.seq r).pendingCount = none) (laned : (s.seq r).laneCount ≠ 0) (off : (s.seq r).state = .off)
    (h : (s.planList r).demanded ≠ none) (hold : (s.seq r).supplyHold = false) : s.reachOff r = s.enterWarning r := by
  unfold reachOff
  dsimp only
  rw [offSettled_configured count laned, if_pos]
  unfold warns demandSeen
  simp [off, hold, count, Option.isSome_iff_ne_none, h]

end State

end Sys2Proof.Machine
end

section
/-! PROOFS. The panel (O53): the ramp forced dark under its HOLD entry. -/

namespace Sys2Proof.Machine

open State

namespace State

theorem raisedBetween_of_raised {c : EventClass} {event : Prop} {s t : State} (h : raisedBy c [s] s t) (e : event) :
    raisedBetween c event s t := by
  intro p
  simpa [e] using h p

theorem raisedBetween_of_same {c : EventClass} {event : Prop} {s t : State} (h : SamePending c s t) (e : ¬ event) :
    raisedBetween c event s t := by
  intro p
  rw [h p]
  simp [e]

/-- A state of the ramps and routes as they were, with RAMP_STATE pending where it was: nothing of a ramp has moved. -/
theorem mayRaise_of_same {s t : State} (pending : SamePending .rampState s t)
    (routes : ∀ p, t.delivers .rampState p = s.delivers .rampState p) : s.MayRaise t :=
  ⟨routes, fun p h => (pending p).trans h, fun p h => .inl ((pending p).symm.trans h)⟩

/-- The states in which a ramp goes to OFF at once when it is forced (R112, R113). -/
theorem forceOff_active {s : State} {r : Ramp}
    (h : (s.seq r).state = .warning ∨ (s.seq r).state = .metering ∨ (s.seq r).state = .ending) :
    s.forceOff r = (s.goDark r .off).reachOff r := by
  unfold forceOff
  rcases h with h | h | h <;> rw [h]

theorem forceOff_dark {s : State} {r : Ramp} (h : (s.seq r).state = .off ∨ (s.seq r).state = .darkFault) : s.forceOff r = s := by
  unfold forceOff
  rcases h with h | h <;> rw [h]

/-- A list whose HOLD entry is placed, tested at once: its FALLBACK entry goes, and nothing but lists and ports has changed
(R74, R154). -/
theorem held_spec (s : State) (r : Ramp) : ∃ w, (s.setList r { s.planList r with hold := true }).fallbackTest r = w
    ∧ { w with lists := s.lists, ports := s.ports } = s
    ∧ w.planList r = { s.planList r with hold := true, fallback := none }
    ∧ (∀ r', r' ≠ r → w.planList r' = s.planList r') ∧ SamePending .rampState s w
    ∧ ∀ p, w.delivers .rampState p = s.delivers .rampState p := by
  have test := s.fallbackTest_eq r (l := { s.planList r with hold := true }) (.inl ⟨rfl, rfl, rfl⟩)
  refine ⟨_, test, ?_, ?_, fun r' ne => ?_, ?_, fun p => ?_⟩
  · rw [raiseIf_ports_only]; rfl
  · unfold planList; rw [lists_raiseIf]; exact planList_setList_self ..
  · unfold planList; rw [lists_raiseIf]
    exact (planList_setList_ne _ ne _).trans (planList_setList_ne s ne _)
  · exact (SamePending.of_ports rfl).trans (.raiseIf (by decide) _)
  · rw [delivers_raiseIf]; rfl

end State

theorem exec_panelShortPress {s : State} {r : Ramp} (h : s.running) : exec (.panelShortPress r) s = .next (s.panelShortPress r) :=
  congrArg Host.Outcome.next (whenRunning_runs h _)

theorem exec_panelLongHold {s : State} {r : Ramp} (h : s.running) : exec (.panelLongHold r) s = .next (s.panelLongHold r) :=
  congrArg Host.Outcome.next (whenRunning_runs h _)

theorem panelShortPress_due {s : State} {r : Ramp} (h : (s.button r).shortDue = true) :
    s.panelShortPress r = if (s.seq r).state ≠ .unconfigured
      then (s.setButton r { s.button r with shortDue := false }).changeList r { s.planList r with command := some (.off, .panel) }
      else s.setButton r { s.button r with shortDue := false } := by
  unfold panelShortPress
  rw [if_pos h]
  unfold configuredRamp
  simp only [decide_eq_true_eq]
  rfl

theorem panelLongHold_due {s : State} {r : Ramp} (h : (s.button r).holdDue = true) :
    s.panelLongHold r = if (s.seq r).state ≠ .unconfigured
      then (s.setButton r { s.button r with holdDue := false }).longHold r
      else s.setButton r { s.button r with holdDue := false } := by
  unfold panelLongHold
  rw [if_pos h]
  unfold configuredRamp
  simp only [decide_eq_true_eq]
  rfl

/-- The ramp under a HOLD entry, forced to OFF (R112, R154). -/
theorem forcedOff_spec {w : State} {r : Ramp} (hold : (w.planList r).demanded = none)
    (active : (w.seq r).state = .warning ∨ (w.seq r).state = .metering ∨ (w.seq r).state = .ending) :
    w.Beside (w.forceOff r) ∧ (∀ r', r' ≠ r → (w.forceOff r).seq r' = w.seq r') ∧ Turned r w (w.forceOff r)
      ∧ ((w.seq r).pendingCount = none → (w.seq r).laneCount ≠ 0 →
        (w.forceOff r).seq r = { (w.seq r).discard with lanes := Tab.replicate 2 .dark, state := .off }
        ∧ w.rampTurns r false [w] (w.forceOff r) ∧ w.lampsFollow r [] (w.forceOff r)) := by
  have beside := beside_goDark w r .off
  have dark := seq_goDark w r .off
  have settle : w.forceOff r = (w.goDark r .off).offSettled r := by
    rw [forceOff_active active, reachOff_noDemand (by rw [beside.planList]; exact hold)]
  rw [settle]
  refine ⟨beside.trans (beside_offSettled _ r), fun r' ne => ?_, turned_offSettled (turned_goDark_off w r), fun count some => ?_⟩
  · exact (congrArg Prod.fst (rampRow_offSettled (s := w.goDark r .off) ne)).trans (congrArg Prod.fst (rampRow_goDark ne .off))
  · rw [offSettled_configured (by rw [dark]; exact count) (by rw [dark]; exact some)]
    exact ⟨dark, goDark_turns w r (by decide)⟩

/-- Settles O53: the presses by their cases; a long hold is the HOLD entry's test, then the ramp forced dark. -/
theorem panelPressesActOnTheirRamp : Obligations.PanelPressesActOnTheirRamp := by
  intro r s running
  rw [exec_panelShortPress running, exec_panelLongHold running]
  refine ⟨fun idle => ?_, fun idle => ?_, ?_, fun due => ⟨fun off => ?_, fun on => ?_⟩⟩
  · unfold panelShortPress; rw [if_neg (by simp [idle])]
  · unfold panelLongHold; rw [if_neg (by simp [idle])]
  · rintro due u rfl
    rw [panelShortPress_due due]
    exact ⟨fun off => by rw [if_neg (not_not_intro off)], fun on => by rw [if_pos on]⟩
  · rw [panelLongHold_due due, if_neg (not_not_intro off)]
  · rw [panelLongHold_due due, if_pos on]
    generalize pressed : s.setButton r { s.button r with holdDue := false } = v
    obtain ⟨w, test, frame, list, others, pending, routes⟩ := v.held_spec r
    have long : v.longHold r = (w.forceOff r).setHoldFlag r true := by unfold longHold; rw [test]
    have seq (r' : Ramp) : w.seq r' = s.seq r' := by
      have w_v : w.seq r' = v.seq r' := (congrArg (fun t : State => t.seq r') frame :)
      rw [w_v, ← pressed]; rfl
    have row : w.rampRow r = s.rampRow r := by
      have w_v : w.rampRow r = v.rampRow r := (congrArg (fun t : State => t.rampRow r) frame :)
      rw [w_v, ← pressed]; rfl
    have listV (r' : Ramp) : v.planList r' = s.planList r' := by rw [← pressed]; rfl
    have pendingS : SamePending .rampState s w := by
      refine SamePending.trans (.of_ports ?_) pending
      rw [← pressed]; rfl
    have routesS (p : Port) : w.delivers .rampState p = s.delivers .rampState p := by
      rw [routes, ← pressed]; rfl
    have retained : w.retained = s.retained := by
      have w_v : w.retained = v.retained := (congrArg State.retained frame :)
      rw [w_v, ← pressed]; rfl
    have memory : w.memory = s.memory := by
      have w_v : w.memory = v.memory := (congrArg State.memory frame :)
      rw [w_v, ← pressed]; rfl
    have arbiter : w.arbiter = s.arbiter := by
      have w_v : w.arbiter = v.arbiter := (congrArg State.arbiter frame :)
      rw [w_v, ← pressed]; rfl
    rw [listV] at list
    have demand : (w.planList r).demanded = none := by rw [list]; rfl
    -- What the forced change leaves, whichever the state of the ramp.
    have forced : w.Beside (w.forceOff r) ∧ (∀ r', r' ≠ r → (w.forceOff r).seq r' = w.seq r')
        ∧ raisedBetween .rampState
          ((s.seq r).state = .warning ∨ (s.seq r).state = .metering ∨ (s.seq r).state = .ending) s (w.forceOff r) := by
      by_cases active : (w.seq r).state = .warning ∨ (w.seq r).state = .metering ∨ (w.seq r).state = .ending
      · obtain ⟨beside, rest, turned, -⟩ := forcedOff_spec demand active
        refine ⟨beside, rest, ?_⟩
        rw [seq] at active
        exact raisedBetween_of_raised
          ((mayRaise_of_same pendingS routesS).around turned.raised turned.may (.of_ports rfl rfl)).1 active
      · have dark : (w.seq r).state = .off ∨ (w.seq r).state = .darkFault := by
          rw [seq] at active ⊢
          cases state : (s.seq r).state <;> simp_all
        rw [forceOff_dark dark]
        rw [seq] at active
        exact ⟨.refl, fun _ _ => rfl, raisedBetween_of_same pendingS active⟩
    obtain ⟨beside, rest, raised⟩ := forced
    refine ⟨(w.forceOff r).setHoldFlag r true, by rw [long], ?_, fun r' ne => ⟨?_, ?_⟩, ?_, ?_, ?_, raised, fun dark => ?_,
      fun active count some => ?_⟩
    · rw [planList_setHoldFlag, beside.planList, list]
    · rw [planList_setHoldFlag, beside.planList, others r' ne, listV]
    · exact (rest r' ne).trans (seq r')
    · show (w.forceOff r).retained.hold.set r true = _
      have hold : (w.forceOff r).retained.hold = w.retained.hold := (congrArg Retained.hold beside.retained :)
      rw [hold, retained]
    · exact beside.memory.trans memory
    · exact beside.arbiter.trans arbiter
    · rw [← seq] at dark
      rw [forceOff_dark dark]
      exact ⟨seq r, lampsFollow_of_row row (lampsFollow_refl rfl rfl)⟩
    · rw [← seq] at active count some
      obtain ⟨-, -, turned, whole⟩ := forcedOff_spec demand active
      obtain ⟨there, ⟨flag, -⟩, follow⟩ := whole count some
      rw [seq] at there
      refine ⟨there, ⟨?_, ?_⟩, lampsFollow_of_row row (lampsFollow_after follow rfl rfl)⟩
      · rw [seq, retained] at flag; exact flag
      · exact ((mayRaise_of_same pendingS routesS).around turned.raised turned.may (.of_ports rfl rfl)).1

end Sys2Proof.Machine
end

section
/-! PROOFS. Incidents, dark ramps and their restart (O54). -/

namespace Sys2Proof.Machine

open State

namespace State

/-! ### Ramps that go dark (R111) -/

theorem darken_idle {s : State} {r : Ramp} (h : (s.seq r).state = .unconfigured ∨ (s.seq r).state = .darkFault) : s.darken r = s := by
  unfold darken
  rcases h with h | h <;> rw [h]

theorem darken_lit {s : State} {r : Ramp}
    (h : (s.seq r).state = .off ∨ (s.seq r).state = .warning ∨ (s.seq r).state = .metering ∨ (s.seq r).state = .ending) :
    s.darken r = (s.goDark r .darkFault).setFaultDark r true := by
  unfold darken
  rcases h with h | h | h | h <;> rw [h]

/-- The was-metering flags after a ramp has gone dark: its own, under no Supply Hold, is clear, and every other stands (R122). -/
theorem wasMetering_goDark {s : State} {r : Ramp} (hold : (s.seq r).supplyHold = false) :
    (s.goDark r .darkFault).retained.wasMetering = s.retained.wasMetering.set r false := by
  apply Tab.ext_get
  intro r'
  by_cases same : r' = r
  · subst same
    have flag := (goDark_turns s r' (st := .darkFault) (by decide)).1.1
    rw [hold] at flag
    rw [Tab.get_set_self]
    exact flag
  · rw [Tab.get_set_ne _ _ same]
    exact congrArg Prod.fst (rampOwn_goDark s same .darkFault)

/-! ### What a change of state reads of the state before and after it -/

theorem delivers_congr {s t : State} (router : t.router = s.router) (silent : ∀ p, (t.port p).silent = (s.port p).silent)
    (c : EventClass) (p : Port) : t.delivers c p = s.delivers c p := by
  cases p <;> simp only [delivers, router, silent]

theorem raisedBy_congr {c : EventClass} {vs ws : List State} {s t : State} (g : raisedBy c vs s t)
    (h : ∀ p, (∃ v ∈ vs, v.delivers c p = true) ↔ ∃ v ∈ ws, v.delivers c p = true) : raisedBy c ws s t :=
  fun p => by rw [g p, h p]

/-- Two raises one after the other. -/
theorem raisedBy_trans {c : EventClass} {vs ws : List State} {s t u : State} (h : raisedBy c vs s t) (g : raisedBy c ws t u) :
    raisedBy c (vs ++ ws) s u := by
  intro p
  rw [g p, h p]
  simp only [List.mem_append, or_and_right, exists_or, or_assoc]

theorem delivers_arrived (s : State) (p : Port) (q : Req) (c : EventClass) (p' : Port) :
    (s.arrived p q).delivers c p' = s.delivers c p' :=
  delivers_congr (s := s) (t := s.arrived p q) rfl (fun o => silent_arrived q o) c p'

theorem silent_modPort (s : State) (p : Port) (f : LinkPort → LinkPort) (h : ∀ x, (f x).silent = x.silent) (o : Port) :
    ((s.modPort p f).port o).silent = (s.port o).silent := by
  by_cases e : o = p
  · subst e; rw [port_modPort_self, h]
  · rw [port_modPort_ne _ e]

theorem delivers_answered (s : State) (p : Port) (q : Req) (st : Status) (x : Payload) (c : EventClass) (p' : Port) :
    (s.answered p q st x).delivers c p' = s.delivers c p' :=
  delivers_congr (s := s) (t := s.answered p q st x) rfl (silent_modPort s p _ fun _ => rfl) c p'

theorem samePending_arrived (s : State) (p : Port) (q : Req) (c : EventClass) : SamePending c s (s.arrived p q) :=
  .modPort p _ fun _ => rfl

theorem samePending_answered (s : State) (p : Port) (q : Req) (st : Status) (x : Payload) (c : EventClass) :
    SamePending c s (s.answered p q st x) := .modPort p _ fun _ => rfl

/-- A change of state within a request, seen from before its arrival to after its answer. -/
theorem rampTurns_answered {s u : State} {p : Port} {q : Req} {st : Status} {x : Payload} {r : Ramp} {b : Bool} {vs ws : List State}
    (h : (s.arrived p q).rampTurns r b vs u)
    (same : ∀ o, (∃ v ∈ vs, v.delivers .rampState o = true) ↔ ∃ v ∈ ws, v.delivers .rampState o = true) :
    s.rampTurns r b ws (u.answered p q st x) :=
  ⟨h.1, (samePending_arrived s p q _).raisedBy_left
    (SamePending.raisedBy_right (raisedBy_congr h.2 same) (samePending_answered u p q st x _))⟩

end State

/-- A change of state after steps that leave the ramp, the routes and RAMP_STATE alone. -/
theorem Turned.of_same {s t u : State} {r : Ramp} (pending : SamePending .rampState s t)
    (routes : ∀ p, t.delivers .rampState p = s.delivers .rampState p) (row : t.rampRow r = s.rampRow r) (h : Turned r t u) :
    Turned r s u := by
  obtain ⟨seq, rest⟩ := Prod.mk.inj row
  obtain ⟨-, flag⟩ := Prod.mk.inj rest
  have may := mayRaise_of_same pending routes
  refine ⟨may.trans h.may, (may.around h.raised h.may (.of_ports rfl rfl)).1, ?_, ?_⟩
  · rw [h.hold, seq]
  · rw [h.flag, seq, flag]

namespace State

/-! ### The way out of DARK_FAULT (R114, R136) -/

theorem greenSensed_iff (s : State) (r : Ramp) :
    s.greenSensed r = true ↔ ∃ ln, (s.lamp r ln).sensed = .green ∨ (s.lamp r ln).sensed = .both := by
  have lit (x : Sensed) : x.greenLit = true ↔ x = .green ∨ x = .both := by cases x <;> decide
  unfold greenSensed laneNos
  simp only [List.any_cons, List.any_nil, Bool.or_false, Bool.or_eq_true, lit]
  constructor
  · rintro (h | h)
    · exact ⟨0, h⟩
    · exact ⟨1, h⟩
  · rintro ⟨ln, h⟩
    rcases lane_cases ln with rfl | rfl
    · exact .inl h
    · exact .inr h

/-- At OFF with a Lane Count of 0 the ramp goes on to UNCONFIGURED (R104). -/
theorem reachOff_unconfigured {s : State} {r : Ramp} (count : (s.seq r).pendingCount = none) (zero : (s.seq r).laneCount = 0) :
    s.reachOff r = s.setRampState r .unconfigured := by
  have settled : s.offSettled r = s.setRampState r .unconfigured := by
    unfold offSettled
    dsimp only
    rw [count]
    exact if_pos zero
  unfold reachOff
  dsimp only
  rw [settled, if_neg]
  unfold warns
  rw [seq_setRampState]
  simp

theorem retained_enterWarning (s : State) (r : Ramp) :
    { (s.enterWarning r).retained with wasMetering := s.retained.wasMetering } = s.retained := by
  have beside : s.takeCorridor.Beside (s.enterWarning r) := (beside_warningEntry _ r).trans (beside_reports _)
  have kept := beside.retained
  rw [retained_takeCorridor] at kept
  exact kept

theorem retained_reachOff (s : State) (r : Ramp) :
    { (s.reachOff r).retained with wasMetering := s.retained.wasMetering } = s.retained := by
  have settled := (beside_offSettled s r).retained
  unfold reachOff
  dsimp only
  generalize s.offSettled r = v at settled ⊢
  split
  · have kept := retained_enterWarning v r
    generalize v.enterWarning r = w at kept ⊢
    exact (congrArg (fun x : Retained => { x with wasMetering := s.retained.wasMetering }) kept :).trans settled
  · exact settled

/-- What a ramp that leaves DARK_FAULT goes on to, by its Lane Count and its demanded plan (R104, R105, R114). -/
theorem leaveDarkFault_spec {s : State} {r : Ramp} (count : (s.seq r).pendingCount = none) :
(s.leaveDarkFault r).lists = s.lists
      ∧ (s.leaveDarkFault r).retained.faultDark = s.retained.faultDark.set r false
      ∧ (s.leaveDarkFault r).retained.incident = s.retained.incident
      ∧ ((s.seq r).laneCount = 0 →
        ((s.leaveDarkFault r).seq r).state = .unconfigured ∧ s.rampTurns r false [s] (s.leaveDarkFault r))
      ∧ ((s.seq r).laneCount ≠ 0 → ((s.planList r).demanded = none ∨ (s.seq r).supplyHold = true) →
        ((s.leaveDarkFault r).seq r).state = .off ∧ s.rampTurns r false [s] (s.leaveDarkFault r))
      ∧ ((s.seq r).laneCount ≠ 0 → (s.planList r).demanded ≠ none → (s.seq r).supplyHold = false →
        s.corridorInUse.laneCount.get r = (s.seq r).laneCount →
          ((s.leaveDarkFault r).seq r).state = .warning
            ∧ s.rampTurns r true [s, s.leaveDarkFault r] (s.leaveDarkFault r)) := by
  have off : Turned r s ((s.setFaultDark r false).setRampState r .off) :=
    Turned.of_same (t := s.setFaultDark r false) (.of_ports rfl) (fun _ => rfl) rfl (turned_setRampState (s.setFaultDark r false) r .off)
  have beside := beside_setRampState (s.setFaultDark r false) r .off
  have seq := seq_setRampState (s.setFaultDark r false) r .off
  have lists : (s.leaveDarkFault r).lists = s.lists := (lists_reachOff _ r).trans beside.lists
  have faultDark := congrArg Retained.faultDark beside.retained
  have incident := congrArg Retained.incident beside.retained
  unfold leaveDarkFault at lists ⊢
  generalize (s.setFaultDark r false).setRampState r .off = v at off beside seq lists faultDark incident ⊢
  have countV : (v.seq r).pendingCount = none := by rw [seq]; exact count
  have list : v.planList r = s.planList r := beside.planList r
  refine ⟨lists, (congrArg Retained.faultDark (retained_reachOff v r)).trans faultDark,
    (congrArg Retained.incident (retained_reachOff v r)).trans incident, fun zero => ?_, fun some rest => ?_,
    fun some demand hold settings => ?_⟩
  · rw [reachOff_unconfigured countV (by rw [seq]; exact zero)]
    have turned := off.trans (turned_setRampState v r .unconfigured)
    have state : ((v.setRampState r .unconfigured).seq r).state = .unconfigured := by rw [seq_setRampState]
    refine ⟨state, ?_, turned.raised⟩
    rw [turned.flag, state]
    rfl
  · rw [reachOff_rests countV (by rw [seq]; exact some) (by rw [seq, list]; exact rest)]
    exact ⟨by rw [seq], by rw [off.flag, seq]; rfl, off.raised⟩
  · rw [reachOff_warns countV (by rw [seq]; exact some) (by rw [seq]) (by rw [list]; exact demand) (by rw [seq]; exact hold)]
    have inUse : v.corridorInUse.laneCount.get r = (v.seq r).laneCount := by
      rw [beside.corridorInUse, seq]; exact settings
    have someV : (v.seq r).laneCount ≠ 0 := by rw [seq]; exact some
    obtain ⟨⟨flagV, raised⟩, -⟩ := enterWarning_turns inUse someV
    refine ⟨by rw [seq_enterWarning v r inUse someV], ?_, raisedBy_trans off.raised raised⟩
    have holdV : (v.seq r).supplyHold = false := by rw [seq]; exact hold
    rw [holdV] at flagV
    rw [hold]
    exact flagV

end State

/-! ### The requests -/

theorem enterIncident_later (h new : IncidentRec) (e : h.rank = .high ∨ new.rank = .low) :
    enterIncident (some h) new = { h with later := if h.later < 255 then h.later + 1 else 255 } := by
  have count : min Config.laterMax (h.later + 1) = if h.later < 255 then h.later + 1 else 255 := by
    simp only [Config.laterMax]
    split <;> omega
  unfold enterIncident
  rw [← count]
  dsimp only
  split
  · rename_i low high
    rw [low, high] at e
    rcases e with e | e <;> cases e
  · rfl

theorem enterIncident_replaces (h new : IncidentRec) (low : h.rank = .low) (high : new.rank = .high) :
    enterIncident (some h) new = { new with later := 0 } := by
  unfold enterIncident; dsimp only; rw [low, high]

theorem rankOf_eq (k : IncidentKind) : rankOf k = if k = .conflict ∨ k = .strayGreen then .high else .low := by
  cases k <;> rfl

theorem exec_incidentQualifies {s : State} {r : Ramp} {ln : LaneNo} {k : IncidentKind} (h : s.running) :
    exec (.incidentQualifies r ln k) s = .next (s.incidentQualifies r ln k) :=
  congrArg Host.Outcome.next (whenRunning_runs h _)

theorem incidentQualifies_found {s : State} {r : Ramp} {ln : LaneNo} {k : IncidentKind} {q : Qualified}
    (found : s.qualified.find? (namesLane r ln k) = some q) : s.incidentQualifies r ln k
      = ({ s with qualified := s.qualified.erase q } : State).takeIncident
        { ramp := r, lane := ln, kind := k, commanded := q.commanded, sensed := q.sensed } (rankOf k) := by
  have names := List.find?_some found
  simp only [namesLane, Bool.and_eq_true, decide_eq_true_eq] at names
  obtain ⟨⟨rfl, rfl⟩, rfl⟩ := names
  unfold incidentQualifies
  rw [found]

section Requests

variable {s : State} {r : Ramp} {b l k : Byte}

theorem testIncident_refused (h : b = 0 ∨ 7 ≤ b.toNat ∨ l = 0 ∨ 3 ≤ l.toNat ∨ 2 ≤ k.toNat) :
    s.testIncident b l k = .refuse .badValue s := by
  have rank (hk : 2 ≤ k.toNat) : rankOfCode k = none := by
    unfold rankOfCode
    split
    · omega
    · omega
    · rfl
  unfold testIncident
  rcases h with h | h | h | h | h
  · rw [rampOf_none (.inl h)]
  · rw [rampOf_none (.inr h)]
  · rw [indexOf_none (n := 2) (.inl h)]; cases rampOf b <;> rfl
  · rw [indexOf_none (n := 2) (.inr h)]; cases rampOf b <;> rfl
  · rw [rank h]; cases rampOf b <;> cases indexOf 2 l.toNat <;> rfl

theorem rankOfCode_eq {x : Rank} (h : k = 0 ∧ x = .high ∨ k = 1 ∧ x = .low) : rankOfCode k = some x := by
  rcases h with ⟨rfl, rfl⟩ | ⟨rfl, rfl⟩ <;> rfl

theorem testIncident_eq {ln : LaneNo} {x : Rank} (hb : b.toNat = r.val + 1) (hl : l.toNat = ln.val + 1)
    (hk : rankOfCode k = some x) : s.testIncident b l k
      = if (s.seq r).state = .unconfigured then .refuse .empty s
        else .done (s.takeIncident { ramp := r, lane := ln, kind := .test, commanded := s.commanded r ln,
                                     sensed := (s.lamp r ln).sensed } x) := by
  unfold testIncident
  rw [rampOf_eq hb, indexOf_eq hl, hk]

theorem authority_clearIncident {p : Port} (h : p = .service ∨ s.holder corridorRecord = some p) (b : Byte) :
    Authority p (.clearIncident b) s := by
  intro i need
  by_cases service : p = .service
  · rw [authorityNeeded, if_pos service] at need; cases need
  · rw [authorityNeeded, if_neg service] at need
    exact Option.some.inj need ▸ h.resolve_left service

theorem restartRamp_noRamp (h : b = 0 ∨ 7 ≤ b.toNat) : s.restartRamp b = .refuse .badValue s := by
  unfold restartRamp; rw [rampOf_none h]

theorem restartRamp_unconfigured (hb : b.toNat = r.val + 1) (h : (s.seq r).state = .unconfigured) :
    s.restartRamp b = .refuse .empty s := by
  unfold restartRamp; rw [rampOf_eq hb]; dsimp only; rw [h]

theorem restartRamp_idle (hb : b.toNat = r.val + 1) (h : (s.seq r).state ≠ .unconfigured) (lit : (s.seq r).state ≠ .darkFault) :
    s.restartRamp b = .done s := by
  unfold restartRamp; rw [rampOf_eq hb]; dsimp only
  cases state : (s.seq r).state <;> simp_all

theorem restartRamp_dark (hb : b.toNat = r.val + 1) (h : (s.seq r).state = .darkFault) :
    s.restartRamp b = if s.greenSensed r then .refuse .conditionPresent s else .done (s.leaveDarkFault r) := by
  unfold restartRamp; rw [rampOf_eq hb]; dsimp only; rw [h]

end Requests

/-- Settles O54. -/
theorem incidentsDarkenTheirRamp : Obligations.IncidentsDarkenTheirRamp := by
  refine ⟨fun new => ⟨rfl, fun h => enterIncident_replaces h new, fun h => enterIncident_later h new⟩,
    fun r ln x s => ⟨fun k q running found hx => ?_, fun b l k ready on hb hl hk hx => ?_⟩, fun r ln k s running none => ?_,
    fun r s => ⟨darken_idle, fun lit => ?_⟩, fun b l k s ready => ⟨fun bad => ?_, fun r hb hl hk off => ?_⟩,
    fun p s ready holds => ?_, fun p b s ready => ⟨fun bad => ?_, fun r hb holds => ⟨fun off => ?_, fun on lit => ?_,
      fun dark => ⟨fun green => ?_, fun clear count => ?_⟩⟩⟩⟩
  · rw [exec_incidentQualifies running, incidentQualifies_found found, hx, ← rankOf_eq]
    rfl
  · have rank := rankOfCode_eq hk
    refine exec_done rfl ready nofun rfl rfl (authority_none rfl) ?_
    refine (testIncident_eq hb hl rank).trans ((if_neg on).trans ?_)
    rw [hx]
    rfl
  · rw [exec_incidentQualifies running]
    have missing : s.qualified.find? (namesLane r ln k) = .none := by
      rw [List.find?_eq_none]
      intro q mem
      simpa [namesLane, and_assoc] using none q mem
    unfold incidentQualifies
    rw [missing]
  · rw [darken_lit lit]
    have beside := beside_goDark s r .darkFault
    obtain ⟨turns, follow⟩ := goDark_turns s r (st := .darkFault) (by decide)
    refine ⟨seq_goDark s r .darkFault, fun r' ne => congrArg Prod.fst (rampRow_goDark ne .darkFault), ?_, wasMetering_goDark, turns,
      follow, beside.lists, kept_goDark s r .darkFault⟩
    exact congrArg (·.set r true) (congrArg Retained.faultDark beside.retained)
  · exact exec_ownerRefuses rfl ready rfl rfl (authority_none rfl) nofun (testIncident_refused bad)
  · obtain ⟨ln, lane⟩ : ∃ ln : LaneNo, l.toNat = ln.val + 1 := by
      rcases hl with rfl | rfl
      · exact ⟨0, rfl⟩
      · exact ⟨1, rfl⟩
    obtain ⟨x, rank⟩ : ∃ x, rankOfCode k = some x := by
      rcases hk with rfl | rfl
      · exact ⟨.high, rfl⟩
      · exact ⟨.low, rfl⟩
    exact exec_ownerRefuses rfl ready rfl rfl (authority_none rfl) nofun ((testIncident_eq hb lane rank).trans (if_pos off))
  · exact exec_done rfl ready nofun rfl rfl (authority_clearIncident holds 0) rfl
  · exact exec_ownerRefuses rfl ready rfl rfl (authority_noRamp bad rfl) nofun (restartRamp_noRamp bad)
  · exact exec_ownerRefuses rfl ready rfl rfl (authority_ramp hb holds rfl) nofun (restartRamp_unconfigured hb off)
  · exact exec_done rfl ready nofun rfl rfl (authority_ramp hb holds rfl) (restartRamp_idle hb on lit)
  · exact exec_ownerRefuses rfl ready rfl rfl (authority_ramp hb holds rfl) nofun
      ((restartRamp_dark (s := s.arrived p (.restartRamp b)) hb dark).trans (if_pos ((greenSensed_iff _ r).mpr green)))
  · have noGreen : ¬ s.greenSensed r = true := by
      rw [greenSensed_iff]
      rintro ⟨ln, lit⟩
      rcases clear ln with h | h <;> rcases lit with e | e <;> simp [h] at e
    have run := exec_done (c := .restartRamp p b) rfl ready nofun rfl rfl (authority_ramp hb holds rfl)
      ((restartRamp_dark (s := s.arrived p (.restartRamp b)) hb dark).trans (if_neg noGreen))
    obtain ⟨lists, faultDark, incident, zero, rests, warns⟩ := leaveDarkFault_spec (s := s.arrived p (.restartRamp b)) count
    have arrivedOnly (o : Port) : (∃ v ∈ [s.arrived p (.restartRamp b)], v.delivers .rampState o = true)
        ↔ ∃ v ∈ [s], v.delivers .rampState o = true := by simp [delivers_arrived]
    generalize left : (s.arrived p (.restartRamp b)).leaveDarkFault r = u at run lists faultDark incident zero rests warns
    refine ⟨_, run, faultDark, incident, lists, fun none => ?_, fun some rest => ?_, fun some demand hold settings => ?_⟩
    · obtain ⟨state, turns⟩ := zero none
      exact ⟨state, rampTurns_answered turns arrivedOnly⟩
    · obtain ⟨state, turns⟩ := rests some rest
      exact ⟨state, rampTurns_answered turns arrivedOnly⟩
    · obtain ⟨state, turns⟩ := warns some demand hold settings
      refine ⟨state, rampTurns_answered turns fun o => ?_⟩
      simp [delivers_arrived, delivers_answered]

end Sys2Proof.Machine
end

section
/-! PROOFS. Clearances, greens and signs (O48). -/

namespace Sys2Proof.Machine

open State

namespace State

/-- The runs of the lanes over two moves: a lane restarts where its commanded aspect changes in either (R128). -/
theorem lampsFollow_trans {s v t : State} {r : Ramp} {also : List LaneNo} (h : s.lampsFollow r [] v) (g : v.lampsFollow r [] t)
    (changes : ∀ ln, (ln ∈ also ∨ t.commanded r ln ≠ s.commanded r ln)
      ↔ (v.commanded r ln ≠ s.commanded r ln ∨ t.commanded r ln ≠ v.commanded r ln)) : s.lampsFollow r also t := by
  intro ln
  have twice (m : LaneMonitor) : m.restarted.restarted = m.restarted := rfl
  rw [g ln, h ln]
  simp only [List.not_mem_nil, false_or, changes ln]
  by_cases first : v.commanded r ln ≠ s.commanded r ln
  · rw [if_pos first, if_pos (Or.inl first), twice, ite_self]
  · by_cases second : t.commanded r ln ≠ v.commanded r ln
    · rw [if_pos second, if_neg first, if_pos (Or.inr second)]
    · rw [if_neg second, if_neg first, if_neg (not_or.mpr ⟨first, second⟩)]

theorem commanded_eq {s : State} {r : Ramp} {q : Sequencer} (h : s.seq r = q) (ln : LaneNo) :
    s.commanded r ln = (q.lanes.get ln).aspect := by unfold commanded; rw [h]

theorem aspect_resting (q : Sequencer) (ln : LaneNo) :
    ((Tab.ofFn fun ln => if q.inForce ln then LaneState.restGreen else .dark).get ln).aspect
      = if q.inForce ln then .green else .none := by
  rw [Tab.get_ofFn]; split <;> rfl

/-- A ramp from ENDING to OFF and on to WARNING (R105, R110). -/
theorem clearedOnToWarning {s : State} {r : Ramp} (count : (s.seq r).pendingCount = none) (laned : (s.seq r).laneCount ≠ 0)
    (demand : (s.planList r).demanded ≠ none) (hold : (s.seq r).supplyHold = false)
    (inUse : s.corridorInUse.laneCount.get r = (s.seq r).laneCount) : ∃ t, (s.goDark r .off).reachOff r = t
      ∧ t.seq r = { (s.seq r).discard with
          state := .warning, sign := .flashing true 0, warningTimer := some (s.corridorInUse.warnTime * 100)
          lanes := Tab.ofFn (fun ln => if (s.seq r).inForce ln then .restGreen else .dark) }
      ∧ s.rampTurns r true [s, t] t ∧ s.lampsFollow r ((List.finRange 2).filter (s.seq r).inForce) t
      ∧ t.lists = s.lists ∧ t.kept = s.kept := by
  obtain ⟨⟨-, raised⟩, follow⟩ := goDark_turns s r (st := .off) (by decide)
  have dark := seq_goDark s r .off
  have beside := beside_goDark s r .off
  have kept := kept_goDark s r .off
  generalize s.goDark r .off = v at raised follow dark beside kept ⊢
  have inUseV : v.corridorInUse.laneCount.get r = (v.seq r).laneCount := by rw [beside.corridorInUse, dark]; exact inUse
  have someV : (v.seq r).laneCount ≠ 0 := by rw [dark]; exact laned
  have holdV : (v.seq r).supplyHold = false := by rw [dark]; exact hold
  have warned := seq_enterWarning v r inUseV someV
  rw [dark, beside.corridorInUse] at warned
  obtain ⟨⟨flag, raisedV⟩, followV⟩ := enterWarning_turns inUseV someV
  refine ⟨v.enterWarning r, ?_, ?_, ⟨?_, raisedBy_trans raised raisedV⟩, lampsFollow_trans follow followV fun ln => ?_,
    (lists_enterWarning v r).trans beside.lists, (kept_enterWarning v r).trans kept⟩
  · exact reachOff_warns (by rw [dark]; exact count) someV (by rw [dark]) (by rw [beside.planList]; exact demand) holdV
  · rw [warned]
    simp only [Sequencer.discard, count]
    rfl
  · rw [holdV] at flag
    rw [hold]
    exact flag
  · have offAspect : v.commanded r ln = .none := by rw [commanded_eq dark, Tab.get_replicate]; rfl
    have onAspect : (v.enterWarning r).commanded r ln = if (s.seq r).inForce ln then .green else .none := by
      rw [commanded_eq warned]; exact aspect_resting (s.seq r) ln
    rw [offAspect, onAspect]
    by_cases on : (s.seq r).inForce ln = true <;> simp [on]

/-- A ramp whose green ends while it stops goes on to ENDING (R110, R119). -/
theorem greenEndsMetering {s : State} {r : Ramp} {ln : LaneNo} (green : (s.seq r).lanes.get ln = .green 0)
    (inUse : s.corridorInUse.laneCount.get r = (s.seq r).laneCount) (laned : (s.seq r).laneCount ≠ 0) :
    ∃ t, (s.handLane r ln (.red 0)).enterEnding r = t
      ∧ t.seq r = { (s.seq r).discard with
          state := .ending, pendingCount := none, clearanceTimer := some (s.corridorInUse.clearanceTime * 100)
          lanes := Tab.ofFn (fun ln => if (s.seq r).inForce ln then .restGreen else .dark) }
      ∧ s.rampTurns r false [t] t ∧ s.lampsFollow r [ln] t ∧ t.lists = s.lists ∧ t.kept = s.kept := by
  have frame := handLane_frame s r ln (.red 0)
  have follow := lampsFollow_handLane s r ln (.red 0)
  have red := seq_of_sequencers s (sequencers_handLane s r ln (.red 0))
  have kept := kept_handLane s r ln (.red 0)
  generalize s.handLane r ln (.red 0) = v at frame follow red kept ⊢
  have settings : v.corridorInUse = s.corridorInUse := (congrArg State.corridorInUse frame :)
  have lists : v.lists = s.lists := (congrArg State.lists frame :)
  have retained : v.retained = s.retained := (congrArg State.retained frame :)
  have ports : v.ports = s.ports := (congrArg State.ports frame :)
  have inUseV : v.corridorInUse.laneCount.get r = (v.seq r).laneCount := by rw [settings, red]; exact inUse
  have someV : (v.seq r).laneCount ≠ 0 := by rw [red]; exact laned
  have ended := seq_enterEnding v r inUseV someV
  rw [red, settings] at ended
  obtain ⟨⟨flag, raised⟩, followV⟩ := enterEnding_turns inUseV someV
  refine ⟨v.enterEnding r, rfl, ended, ⟨?_, (SamePending.of_ports ports).raisedBy_left raised⟩,
    lampsFollow_trans follow followV fun ln' => ?_, (lists_enterEnding v r).trans lists, (kept_enterEnding v r).trans kept⟩
  · rw [red, retained] at flag; exact flag
  · have redAspect : v.commanded r ln' = if ln' = ln then .red else s.commanded r ln' := by
      rw [commanded_eq red]
      simp only [Tab.get_set]
      split <;> rfl
    rw [redAspect, List.mem_singleton]
    by_cases same : ln' = ln
    · subst same
      have lit : s.commanded r ln' = .green := by unfold commanded; rw [green]; rfl
      simp [lit]
    · simp [same]

end State

theorem exec_clearanceTimerExpiry {s : State} {r : Ramp} (h : s.running) :
    exec (.clearanceTimerExpiry r) s = .next (s.clearanceTimerExpiry r) := congrArg Host.Outcome.next (whenRunning_runs h _)

theorem exec_greenEnd {s : State} {r : Ramp} {ln : LaneNo} (h : s.running) :
    exec (.greenEnd r ln) s = .next (s.greenEnd r ln) := congrArg Host.Outcome.next (whenRunning_runs h _)

theorem exec_signPhaseChange {s : State} {r : Ramp} (h : s.running) :
    exec (.signPhaseChange r) s = .next (s.signPhaseChange r) := congrArg Host.Outcome.next (whenRunning_runs h _)

/-- Settles O48. -/
theorem clearancesGreensAndSignsEnd : Obligations.ClearancesGreensAndSignsEnd := by
  refine ⟨fun r s running => ?_, fun r ln s running => ?_, fun r s running => ?_⟩
  · rw [exec_clearanceTimerExpiry running]
    refine ⟨fun idle => ?_, fun ending timer count laned => ?_⟩
    · unfold clearanceTimerExpiry
      rw [if_neg (fun due => idle.elim (· due.1) (· due.2))]
    · have due : s.clearanceTimerExpiry r = (s.goDark r .off).reachOff r := if_pos ⟨ending, timer⟩
      rw [due]
      refine ⟨fun rest => ?_, fun demand hold inUse => ?_⟩
      · have dark := seq_goDark s r .off
        have beside := beside_goDark s r .off
        refine ⟨s.goDark r .off, ?_, dark, (goDark_turns s r (by decide)).1, (goDark_turns s r (by decide)).2, beside.lists,
          kept_goDark s r .off⟩
        rw [reachOff_rests (by rw [dark]; exact count) (by rw [dark]; exact laned) (by rw [dark, beside.planList]; exact rest)]
      · obtain ⟨t, arrived, rest⟩ := clearedOnToWarning count laned demand hold inUse
        exact ⟨t, by rw [arrived], rest⟩
  · rw [exec_greenEnd running]
    refine ⟨fun idle => ?_, fun metering green => ⟨fun going unheld => ?_, fun stopping inUse laned => ?_⟩⟩
    · unfold greenEnd
      rw [if_neg (fun due => idle.elim (· due.1) (· due.2))]
    · have red := seq_of_sequencers s (sequencers_handLane s r ln (.red 0))
      have frame := handLane_frame s r ln (.red 0)
      have still : s.greenEnd r ln = s.handLane r ln (.red 0) := by
        unfold greenEnd judgeHeld
        rw [if_pos ⟨metering, green⟩]
        dsimp only
        rw [red]
        simp [going, unheld]
      exact ⟨s.handLane r ln (.red 0), by rw [still], red, lampsFollow_handLane s r ln (.red 0), (congrArg State.ports frame :),
        (congrArg State.lists frame :), kept_handLane s r ln (.red 0)⟩
    · have red := seq_of_sequencers s (sequencers_handLane s r ln (.red 0))
      have stops : s.greenEnd r ln = (s.handLane r ln (.red 0)).enterEnding r := by
        unfold greenEnd
        rw [if_pos ⟨metering, green⟩]
        dsimp only
        rw [red]
        exact if_pos stopping
      obtain ⟨t, ended, rest⟩ := greenEndsMetering green inUse laned
      exact ⟨t, by rw [stops, ended], rest⟩
  · rw [exec_signPhaseChange running]
    refine ⟨fun on e sign due => ?_, fun idle => ?_⟩
    · unfold signPhaseChange
      rw [sign]
      exact congrArg Host.Outcome.next (if_pos due)
    · unfold signPhaseChange
      rcases idle with sign | ⟨on, e, sign, early⟩
      · rw [sign]
      · rw [sign]
        exact congrArg Host.Outcome.next (if_neg (Nat.not_le.mpr early))

end Sys2Proof.Machine
end

section
/-! PROOFS. The start of metering (O49) and the following of a changed demand (O51). -/

namespace Sys2Proof.Machine

open State

namespace State

theorem handLanes_frame (s : State) (r : Ramp) (st : LaneState) :
    { s.handLanes r st with sequencers := s.sequencers, lamps := s.lamps } = s :=
  each_induct (P := fun t => ({ t with sequencers := s.sequencers, lamps := s.lamps } : State) = s) laneNos _ rfl fun ln t h => by
    have lane := congrArg (fun u : State => { u with sequencers := s.sequencers, lamps := s.lamps })
      (handLane_frame t r ln (if (t.seq r).inForce ln then st else .dark))
    exact lane.trans h

/-! ### A timing reckoned (R60, R80) -/

section Reckoned

variable {s : State} {r : Ramp} {x : Plan}

theorem readTopPlan_reads (h : s.demands r x) :
    s.ReadFrom (s.readTopPlan r).1 ∧ SamePending .rampState s (s.readTopPlan r).1 := by
  unfold readTopPlan
  rcases h with ⟨k, slot, present⟩ | ⟨builtin, -⟩
  · rw [slot]
    dsimp only
    rw [(calm_useRecord s (.plan k)).readablePlan, present]
    exact ⟨readFrom_useRecord s _, samePending_useRecord s (by decide) _⟩
  · rw [builtin]
    exact ⟨.refl, .refl⟩

/-- A timing reckoned from a readable plan: two reads, the Red Minimum taken, a third read. -/
theorem reckonTiming_reads (h : s.demands r x) (rate : Plan → Nat) :
    ((s.reckonTiming r rate).1.lamps = s.lamps ∧ (s.reckonTiming r rate).1.retained = s.retained
        ∧ (s.reckonTiming r rate).1.measure = s.measure)
      ∧ SamePending .rampState s (s.reckonTiming r rate).1 := by
  obtain ⟨read, pending⟩ := readTopPlan_reads h
  unfold reckonTiming
  dsimp only
  generalize (s.readTopPlan r).1 = top at read pending ⊢
  have table := read.trans (readFrom_useRecord top .safety)
  have pendingTable := pending.trans (samePending_useRecord top (by decide) .safety)
  generalize top.useRecord .safety = v at table pendingTable ⊢
  generalize taken : v.takeRedMinimum r v.safetyInUse.redMinimum = w
  have settings := readFrom_takeCorridor w
  have pendingW : SamePending .rampState v w := .of_ports (by rw [← taken]; rfl)
  refine ⟨⟨?_, ?_, ?_⟩, (pendingTable.trans pendingW).trans (samePending_takeCorridor w (by decide) (by decide))⟩
  · rw [settings.lamps, ← taken]; exact table.lamps
  · rw [settings.retained, ← taken]; exact table.retained
  · rw [settings.measure, ← taken]; exact table.measure

theorem demands_of_calm {u : State} (calm : s.Calm u) (lists : u.lists = s.lists) (h : s.demands r x) : u.demands r x := by
  unfold demands planList at h ⊢
  rw [lists, calm.safetyInUse]
  exact h.imp_left fun ⟨k, slot, present⟩ => ⟨k, slot, by rw [calm.readablePlan]; exact present⟩

/-- Before its start timing a ramp that enters METERING hands its lanes over and clears its queue estimate (R30, R107). -/
theorem prepareMetering_follow (s : State) (r : Ramp) (returning : Bool) :
    (s.prepareMetering r returning).retained = s.retained ∧ (s.prepareMetering r returning).ports = s.ports
      ∧ (s.prepareMetering r returning).lists = s.lists ∧ s.lampsFollow r [] (s.prepareMetering r returning)
      ∧ ((s.prepareMetering r returning).meas r).queueEstimate = 0 := by
  have frame := handLanes_frame s r (.red 0)
  have handed := lampsFollow_handLanes s r (.red 0)
  unfold prepareMetering
  dsimp only
  generalize s.handLanes r (.red 0) = v at frame handed ⊢
  refine ⟨(congrArg State.retained frame :), (congrArg State.ports frame :), (congrArg State.lists frame :), ?_, ?_⟩
  · refine lampsFollow_after handed rfl ?_
    rw [seq_setMeas, seq_modSeq_self]
    rfl
  · rw [meas_setMeas_self]

/-- A timing adopted and METERING entered, with the reports of the timing's read (R107). -/
theorem metered_turns {v y : State} {tm : Timing} (pending : SamePending .rampState s y)
    (retained : y.retained = s.retained) (hold : (y.seq r).supplyHold = (s.seq r).supplyHold) (follow : s.lampsFollow r [] y)
    (inUse : y.corridorInUse.laneCount.get r = (y.seq r).laneCount) (laned : (y.seq r).laneCount ≠ 0)
    (h : v = ((y.modSeq r (Sequencer.startSlots tm)).setRampState r .metering).reports) :
    s.rampTurns r true [v] v ∧ s.lampsFollow r [] v ∧ v.measure = y.measure := by
  have started : (y.modSeq r (Sequencer.startSlots tm)).seq r = (y.seq r).startSlots tm := seq_modSeq_self ..
  have calmV := calm_modSeq y r (Sequencer.startSlots tm)
  have sameV : (y.modSeq r (Sequencer.startSlots tm)).lamps = y.lamps ∧ (y.modSeq r (Sequencer.startSlots tm)).retained = y.retained
      ∧ (y.modSeq r (Sequencer.startSlots tm)).measure = y.measure ∧ (y.modSeq r (Sequencer.startSlots tm)).ports = y.ports :=
    ⟨rfl, rfl, rfl, rfl⟩
  generalize y.modSeq r (Sequencer.startSlots tm) = x at started calmV sameV h
  obtain ⟨lampsX, retainedX, measureX, portsX⟩ := sameV
  obtain ⟨turns, lampsW⟩ := setRampState_turns x r (st := .metering) (by decide)
  have seqW := seq_setRampState x r .metering
  have mayW := mayRaise_setRampState x r .metering
  have calmW := calm_setRampState x r .metering
  have besideW := beside_setRampState x r .metering
  generalize x.setRampState r .metering = w at turns lampsW seqW mayW calmW besideW h
  rw [started] at seqW
  have lanedW : (w.seq r).laneCount = (y.seq r).laneCount := by rw [seqW]; rfl
  have followW : s.lampsFollow r [] w := lampsFollow_after follow (by rw [lampsW, lampsX]) (by rw [seqW]; rfl)
  obtain ⟨turned, followed⟩ := entry_reported (pending.trans (.of_ports portsX)) (by rw [started]; exact hold)
    (by rw [retainedX, retained]) turns followW mayW
    (by rw [calmW.corridorInUse, calmV.corridorInUse, lanedW]; exact inUse) (by rw [lanedW]; exact laned) (by rw [seqW]; simp)
  rw [h]
  refine ⟨turned, followed, ?_⟩
  exact (beside_reports w).measure.trans (besideW.measure.trans measureX)

/-- Entry into METERING, whole: its flag, RAMP_STATE by the routes then in force, the runs of the lanes turned red, and the queue
estimate (R30, R107). -/
theorem enterMetering_turns (returning : Bool) (h : s.demands r x)
    (inUse : s.corridorInUse.laneCount.get r = (s.seq r).laneCount) (laned : (s.seq r).laneCount ≠ 0) :
    s.rampTurns r true [s.enterMetering r returning] (s.enterMetering r returning)
      ∧ s.lampsFollow r [] (s.enterMetering r returning) ∧ ((s.enterMetering r returning).meas r).queueEstimate = 0 := by
  obtain ⟨retained, ports, lists, follow, estimate⟩ := prepareMetering_follow s r returning
  have prepared := seq_of_sequencers s (sequencers_prepareMetering s r returning)
  have calm : s.Calm (s.prepareMetering r returning) :=
    ((calm_handLanes s r _).trans (calm_modSeq _ r _)).trans (calm_setMeas _ r _)
  unfold enterMetering startTiming
  dsimp only
  generalize s.prepareMetering r returning = u at retained ports lists follow estimate prepared calm ⊢
  generalize (fun p : Plan => (if returning = true then (u.rate r).lastFinal else none).getD p.startRate) = rate
  have demands := demands_of_calm calm lists h
  obtain ⟨lim, -, -, seqY, -, settings⟩ := reckonTiming_spec demands rate
  obtain ⟨⟨lampsY, retainedY, measureY⟩, pendingY⟩ := reckonTiming_reads demands rate
  generalize u.reckonTiming r rate = y at seqY settings lampsY retainedY measureY pendingY ⊢
  have lanedY : (y.1.seq r).laneCount = (s.seq r).laneCount := by rw [seqY, prepared]; rfl
  generalize entered : ((y.1.modSeq r (Sequencer.startSlots y.2)).setRampState r .metering).reports = v
  obtain ⟨turned, followed, measure⟩ := metered_turns (s := s) ((SamePending.of_ports ports).trans pendingY)
    (retainedY.trans retained) (by rw [seqY, prepared]; rfl)
    (lampsFollow_after follow (congrArg (·.get r) lampsY) (by rw [seqY]))
    (by rw [settings, calm.corridorInUse, lanedY]; exact inUse) (by rw [lanedY]; exact laned) entered.symm
  refine ⟨turned, followed, ?_⟩
  unfold meas at estimate ⊢
  rw [measure, measureY]
  exact estimate

end Reckoned

end State

theorem exec_warningTimerExpiry {s : State} {r : Ramp} (h : s.running) :
    exec (.warningTimerExpiry r) s = .next (s.warningTimerExpiry r) := congrArg Host.Outcome.next (whenRunning_runs h _)

/-- Settles O49. -/
theorem meteringStartsAtTheWarningsEnd : Obligations.MeteringStartsAtTheWarningsEnd := by
  intro r s running
  rw [exec_warningTimerExpiry running]
  refine ⟨fun idle => ?_, fun x lim tm warning timer laned inUse demands hlim htm => ?_⟩
  · unfold warningTimerExpiry
    rw [if_neg (fun due => idle.elim (· due.1) (· due.2))]
  · have due : s.warningTimerExpiry r = s.enterMetering r false := if_pos ⟨warning, timer⟩
    obtain ⟨lim', tm', hlim', htm', seq, lists⟩ := enterMetering_spec false demands inUse laned
    obtain ⟨turns, follow, estimate⟩ := enterMetering_turns false demands inUse laned
    have same : tm' = tm := by rw [htm', htm, hlim', hlim]; rfl
    rw [same] at seq
    exact ⟨s.enterMetering r false, by rw [due], seq, estimate, turns, follow, lists, kept_enterMetering s r false⟩

/-! ### A changed demand (R105, R106, R108 to R110) -/

namespace State

variable {s : State} {r : Ramp}

theorem anyGreen_iff (q : Sequencer) : q.anyGreen = true ↔ ∃ ln, (q.lanes.get ln).isGreen = true := by
  unfold Sequencer.anyGreen laneNos
  simp only [List.any_cons, List.any_nil, Bool.or_false, Bool.or_eq_true]
  constructor
  · rintro (h | h)
    · exact ⟨0, h⟩
    · exact ⟨1, h⟩
  · rintro ⟨ln, h⟩
    rcases lane_cases ln with rfl | rfl
    · exact .inl h
    · exact .inr h

theorem demandSeen_none (h : (s.seq r).pendingCount ≠ none ∨ (s.planList r).demanded = none) : s.demandSeen r = none := by
  unfold demandSeen
  rcases h with h | h
  · rw [if_pos (Option.isSome_iff_ne_none.mpr h)]
  · rw [h]; exact ite_self _

theorem demandSeen_demanded (h : (s.seq r).pendingCount = none) : s.demandSeen r = (s.planList r).demanded := by
  unfold demandSeen; rw [h]; rfl

/-- An off demand leaves a ramp that is not lit alone. -/
theorem handDemand_off (seen : s.demandSeen r = none) (h : (s.seq r).state = .off ∨ (s.seq r).state = .ending) : s.handDemand r = s := by
  unfold handDemand; dsimp only; rw [seen]; rcases h with h | h <;> rw [h]

theorem handDemand_stops (seen : s.demandSeen r = none) (metering : (s.seq r).state = .metering)
    (green : ∃ ln, ((s.seq r).lanes.get ln).isGreen = true) : s.handDemand r = s.setSeq r { s.seq r with stopping := true } := by
  unfold handDemand; dsimp only; rw [seen, metering]; exact if_pos ((anyGreen_iff _).mpr green)

theorem handDemand_ends (seen : s.demandSeen r = none) (metering : (s.seq r).state = .metering)
    (red : ∀ ln, ((s.seq r).lanes.get ln).isGreen = false) : s.handDemand r = s.enterEnding r := by
  unfold handDemand; dsimp only; rw [seen, metering]
  refine if_neg fun green => ?_
  obtain ⟨ln, lit⟩ := (anyGreen_iff _).mp green
  rw [red ln] at lit
  cases lit

theorem handDemand_dark (seen : s.demandSeen r = none) (warning : (s.seq r).state = .warning) :
    s.handDemand r = (s.goDark r .off).reachOff r := by
  unfold handDemand; dsimp only; rw [seen, warning]

theorem handDemand_unfollowed (h : (s.seq r).state = .unconfigured ∨ (s.seq r).state = .darkFault) : s.handDemand r = s := by
  unfold handDemand; dsimp only
  rcases h with h | h <;> rw [h]

section Demanded

variable {n : PlanRef} (seen : s.demandSeen r = some n)

include seen

theorem handDemand_warns (off : (s.seq r).state = .off) :
    s.handDemand r = if (s.seq r).supplyHold = true then s else s.enterWarning r := by
  unfold handDemand; dsimp only; rw [seen, off]
  unfold warns
  rw [seen, off]
  cases (s.seq r).supplyHold <;> rfl

theorem handDemand_warning (warning : (s.seq r).state = .warning) : s.handDemand r = s := by
  unfold handDemand; dsimp only; rw [seen, warning]

theorem handDemand_retimes (metering : (s.seq r).state = .metering) :
    s.handDemand r = ((s.setSeq r { s.seq r with stopping := false }).changeTiming r).judgeHeld r := by
  unfold handDemand; dsimp only; rw [seen, metering]

theorem handDemand_returns (ending : (s.seq r).state = .ending) : s.handDemand r = s.enterMetering r true := by
  unfold handDemand; dsimp only; rw [seen, ending]

end Demanded

theorem demanded_of_demands {x : Plan} (h : s.demands r x) : ∃ n, (s.planList r).demanded = some n := by
  rcases h with ⟨k, slot, -⟩ | ⟨builtin, -⟩
  · exact ⟨_, slot⟩
  · exact ⟨_, builtin⟩

/-- The change timing of a metering ramp, its Held Slot clear (R80). -/
theorem seq_retimed {x : Plan} {lim : Limits} {tm : Timing} (h : s.demands r x)
    (inUse : s.corridorInUse.laneCount.get r = (s.seq r).laneCount) (laned : (s.seq r).laneCount ≠ 0)
    (count : (s.seq r).pendingCount = none) (metering : (s.seq r).state = .metering) (unheld : (s.seq r).heldSlot = false)
    (hlim : lim = limitsOf s.safetyInUse x (s.seq r).laneCount)
    (htm : tm = timingOf lim (clampNat lim.low lim.high ((s.rate r).lastFinal.getD x.startRate))) :
    (((s.setSeq r { s.seq r with stopping := false }).changeTiming r).judgeHeld r).seq r
      = { s.seq r with stopping := false, redMinimum := some s.safetyInUse.redMinimum, pendingTiming := some tm } := by
  generalize going : s.setSeq r { s.seq r with stopping := false } = u
  have calm : s.Calm u := by rw [← going]; exact calm_setSeq s r _
  have seq : u.seq r = { s.seq r with stopping := false } := by rw [← going, seq_setSeq_self]
  have lists : u.lists = s.lists := by rw [← going]; rfl
  have rate : u.rate r = s.rate r := by rw [← going]; rfl
  have demands := demands_of_calm calm lists h
  obtain ⟨lim', tm', hlim', htm', retimed, -⟩ := changeTiming_spec demands (by rw [calm.corridorInUse, seq]; exact inUse)
    (by rw [seq]; exact laned) (by rw [seq]; simp [metering])
  have same : tm' = tm := by rw [htm', htm, hlim', hlim, calm.safetyInUse, seq, rate]
  rw [same, seq, calm.safetyInUse] at retimed
  generalize u.changeTiming r = v at retimed ⊢
  have held : v.judgeHeld r = v := by
    unfold judgeHeld
    rw [if_neg]
    rintro ⟨-, heldSlot⟩
    rw [retimed] at heldSlot
    rw [unheld] at heldSlot
    cases heldSlot
  rw [held, retimed, ← count]

end State

/-- Settles O51: the demand by the state of the ramp. -/
theorem demandIsFollowedInEveryState : Obligations.DemandIsFollowedInEveryState := by
  refine ⟨fun r s => ⟨handDemand_unfollowed, fun waits => ?_⟩, fun r s laned inUse count => ⟨fun off => ?_, ?_⟩⟩
  · have seen := demandSeen_none (.inl waits)
    exact ⟨handDemand_off seen, handDemand_stops seen⟩
  · have seen := demandSeen_none (s := s) (.inr off)
    refine ⟨handDemand_off seen, fun warning => ?_, handDemand_stops seen, fun metering red => ?_⟩
    · have dark := seq_goDark s r .off
      rw [handDemand_dark seen warning, reachOff_rests (by rw [dark]; exact count) (by rw [dark]; exact laned)
        (.inl (by rw [(beside_goDark s r .off).planList]; exact off))]
      exact ⟨dark, goDark_turns s r (by decide)⟩
    · rw [handDemand_ends seen metering red]
      refine ⟨?_, enterEnding_turns inUse laned⟩
      rw [seq_enterEnding s r inUse laned, ← count]
      rfl
  · intro x lim tm demands hlim htm
    obtain ⟨n, demanded⟩ := demanded_of_demands demands
    have seen := (demandSeen_demanded count).trans demanded
    refine ⟨fun off free => ?_, fun off held => ?_, handDemand_warning seen, fun metering unheld => ?_, fun ending => ?_⟩
    · rw [handDemand_warns seen off, if_neg (by simp [free])]
      refine ⟨?_, enterWarning_turns inUse laned⟩
      rw [seq_enterWarning s r inUse laned, ← count]
    · rw [handDemand_warns seen off, if_pos held]
    · rw [handDemand_retimes seen metering]
      exact seq_retimed demands inUse laned count metering unheld hlim htm
    · obtain ⟨lim', tm', hlim', htm', seq, -⟩ := enterMetering_spec true demands inUse laned
      obtain ⟨turns, follow, -⟩ := enterMetering_turns true demands inUse laned
      have same : tm' = tm := by rw [htm', htm, hlim', hlim]; rfl
      rw [handDemand_returns seen ending]
      refine ⟨?_, turns, follow⟩
      rw [seq, same, ← count]
      rfl

end Sys2Proof.Machine
end

section
/-! PROOFS. Slots (O50): who is given one, and the check-in conditions that a sample states. -/

namespace Sys2Proof.Machine

open State

namespace Sequencer

/-- A slot given, as the statements write it (R115, R118, R121). -/
theorem slotGiven_eq (q : Sequencer) (ln : LaneNo) (tm : Timing) :
    Sequencer.slotGiven tm ln { q with lanes := q.lanes.set ln (.green (tm.greenTime * Config.samplesPerDs)) }
      = { q with
          lanes := q.lanes.set ln (.green (tm.greenTime * 10)), slotTimer := some (tm.slotInterval * 10)
          heldSlot := false, lastLane := some ln, timing := some tm, pendingTiming := none
          lastVehicles := tm.vehiclesPerGreen, greens := q.greens.set ln (q.greens.get ln + 1) } := rfl

/-- An eligible lane is RED (R117). -/
theorem aspect_eligible {q : Sequencer} {ln : LaneNo} (h : q.eligible ln = true) : (q.lanes.get ln).aspect = .red := by
  obtain ⟨-, ⟨e, m, red, -⟩, -⟩ := (eligible_iff q ln).mp h
  rw [red]; rfl

end Sequencer

namespace State

variable {s : State} {r : Ramp}

/-- Lane `ln` is the next eligible lane of `q`, in the words of the statements. -/
def FirstInTurn (q : Sequencer) (ln : LaneNo) : Prop :=
  ∀ other, other ≠ ln → q.eligible other = true → match q.lastLane with
    | some last => last = other
    | none => ln < other

/-- What an offered slot leaves alone. -/
theorem offerSlot_rest (s : State) (r : Ramp) : (s.offerSlot r).ports = s.ports ∧ (s.offerSlot r).lists = s.lists
    ∧ (s.offerSlot r).kept = s.kept :=
  ⟨(congrArg State.ports (offerSlot_frame s r) :), lists_offerSlot s r, kept_offerSlot s r⟩

theorem judgeHeld_held (metering : (s.seq r).state = .metering) (held : (s.seq r).heldSlot = true) : s.judgeHeld r = s.offerSlot r :=
  if_pos ⟨metering, held⟩

theorem judgeHeld_idle (h : (s.seq r).state ≠ .metering ∨ (s.seq r).heldSlot = false) : s.judgeHeld r = s := by
  unfold judgeHeld
  rw [if_neg]
  rintro ⟨metering, held⟩
  rcases h with h | h
  · exact h metering
  · rw [h] at held; cases held

/-- With no eligible lane the Held Slot stays held. -/
theorem judgeHeld_none (h : ∀ ln, (s.seq r).eligible ln = false) : s.judgeHeld r = s := by
  by_cases held : (s.seq r).heldSlot = true
  · by_cases metering : (s.seq r).state = .metering
    · rw [judgeHeld_held metering held, offerSlot_held h]
      have same : ({ s.seq r with heldSlot := true } : Sequencer) = s.seq r := by rw [← held]
      show s.setSeq r { s.seq r with heldSlot := true } = s
      rw [same]
      unfold setSeq seq
      rw [Tab.set_get]
    · exact judgeHeld_idle (.inl metering)
  · exact judgeHeld_idle (.inr (by simpa using held))

/-- A GREEN_END in a metering ramp that goes on, its Held Slot judged again (R116, R119). -/
theorem greenEnd_judges {ln : LaneNo} (metering : (s.seq r).state = .metering) (green : (s.seq r).lanes.get ln = .green 0)
    (going : (s.seq r).stopping = false) : s.greenEnd r ln = (s.handLane r ln (.red 0)).judgeHeld r := by
  unfold greenEnd
  rw [if_pos ⟨metering, green⟩]
  dsimp only
  rw [seq_of_sequencers s (sequencers_handLane s r ln (.red 0))]
  exact if_neg (by simp [going])

/-- A slot given after a lane's green has ended: the runs of both lanes start again (R118, R119, R128). -/
theorem lampsFollow_greenThenSlot {ln' ln : LaneNo} {v t : State} {q : Sequencer} {g : LaneState} (green : (s.seq r).lanes.get ln' = .green 0)
    (hv : v.seq r = q) (hq : q.lanes = (s.seq r).lanes.set ln' (.red 0)) (ht : (t.seq r).lanes = q.lanes.set ln g)
    (lit : g.aspect = .green) (eligible : q.eligible ln = true) (h : s.lampsFollow r [] v) (g' : v.lampsFollow r [] t) :
    s.lampsFollow r [ln', ln] t := by
  refine lampsFollow_trans h g' fun ln'' => ?_
  have redV (k : LaneNo) : v.commanded r k = if k = ln' then .red else s.commanded r k := by
    rw [commanded_eq hv, hq]
    simp only [Tab.get_set]
    split <;> rfl
  have greenT (k : LaneNo) : t.commanded r k = if k = ln then .green else v.commanded r k := by
    unfold commanded
    rw [ht, hv]
    simp only [Tab.get_set]
    split
    · exact lit
    · rfl
  have redThere : v.commanded r ln = .red := by rw [commanded_eq hv]; exact Sequencer.aspect_eligible eligible
  have litThere : s.commanded r ln' = .green := by unfold commanded; rw [green]; rfl
  simp only [List.mem_cons, List.not_mem_nil, or_false]
  by_cases first : ln'' = ln'
  · subst first
    simp [redV, litThere]
  · by_cases second : ln'' = ln
    · subst second
      simp [greenT, redThere]
    · simp [first, second, greenT, redV]

end State

theorem exec_slotExpiry {s : State} {r : Ramp} (h : s.running) : exec (.slotExpiry r) s = .next (s.slotExpiry r) :=
  congrArg Host.Outcome.next (whenRunning_runs h _)

theorem exec_redMinimumReached {s : State} {r : Ramp} {ln : LaneNo} (h : s.running) :
    exec (.redMinimumReached r ln) s = .next (s.redMinimumReached r ln) := congrArg Host.Outcome.next (whenRunning_runs h _)

section Slots

variable {s : State} {r : Ramp} {q : Sequencer} {ln : LaneNo} {tm : Timing}

/-- A slot that falls due goes to the next eligible lane (R116 to R118). -/
theorem slotExpiry_given (metering : (s.seq r).state = .metering) (timer : (s.seq r).slotTimer = some 0)
    (eligible : (s.seq r).eligible ln = true) (first : FirstInTurn (s.seq r) ln)
    (timing : (s.seq r).pendingTiming = some tm ∨ (s.seq r).pendingTiming = none ∧ (s.seq r).timing = some tm) :
    (s.slotExpiry r).seq r = Sequencer.slotGiven tm ln
        { s.seq r with lanes := (s.seq r).lanes.set ln (.green (tm.greenTime * Config.samplesPerDs)) }
      ∧ s.lampsFollow r [] (s.slotExpiry r) ∧ (s.slotExpiry r).ports = s.ports ∧ (s.slotExpiry r).lists = s.lists
      ∧ (s.slotExpiry r).kept = s.kept := by
  have due : s.slotExpiry r = (s.modSeq r fun q => { q with slotTimer := none }).offerSlot r := if_pos ⟨metering, timer⟩
  have stopped : (s.modSeq r fun q => { q with slotTimer := none }).seq r = { s.seq r with slotTimer := none } := seq_modSeq_self ..
  have row : (s.modSeq r fun q => { q with slotTimer := none }).lamps = s.lamps := rfl
  have rest := offerSlot_rest (s.modSeq r fun q => { q with slotTimer := none }) r
  rw [due]
  have follow := lampsFollow_offerSlot (s.modSeq r fun q => { q with slotTimer := none }) r
  refine ⟨?_, fun k => ?_, rest⟩
  · rw [seq_offerSlot (s := s.modSeq r fun q => { q with slotTimer := none }) (ln := ln) (tm := tm) (by rw [stopped]; exact eligible)
      (by rw [stopped]; exact first) (by rw [stopped]; exact timing), stopped]
    rfl
  · have commanded : (s.modSeq r fun q => { q with slotTimer := none }).commanded r k = s.commanded r k := by
      rw [commanded_eq stopped]; rfl
    rw [follow k, commanded]
    rfl

theorem slotExpiry_held (metering : (s.seq r).state = .metering) (timer : (s.seq r).slotTimer = some 0)
    (none : ∀ ln, (s.seq r).eligible ln = false) :
    s.slotExpiry r = s.setSeq r { s.seq r with slotTimer := .none, heldSlot := true } := by
  have due : s.slotExpiry r = (s.modSeq r fun q => { q with slotTimer := .none }).offerSlot r := if_pos ⟨metering, timer⟩
  have stopped : (s.modSeq r fun q => { q with slotTimer := .none }).seq r = { s.seq r with slotTimer := .none } := seq_modSeq_self ..
  rw [due, offerSlot_held (by rw [stopped]; exact none)]
  show (s.setSeq r { s.seq r with slotTimer := .none }).setSeq r
    { (s.modSeq r fun q => { q with slotTimer := .none }).seq r with heldSlot := true } = _
  rw [stopped]
  unfold setSeq
  rw [Tab.set_set]

theorem redMinimumReached_given {ln' : LaneNo} (metering : (s.seq r).state = .metering) (held : (s.seq r).heldSlot = true)
    (served : (s.seq r).redServed ln' = true) (eligible : (s.seq r).eligible ln = true) (first : FirstInTurn (s.seq r) ln)
    (timing : (s.seq r).pendingTiming = some tm ∨ (s.seq r).pendingTiming = none ∧ (s.seq r).timing = some tm) :
    (s.redMinimumReached r ln').seq r = Sequencer.slotGiven tm ln
        { s.seq r with lanes := (s.seq r).lanes.set ln (.green (tm.greenTime * Config.samplesPerDs)) }
      ∧ s.lampsFollow r [] (s.redMinimumReached r ln') ∧ (s.redMinimumReached r ln').ports = s.ports
      ∧ (s.redMinimumReached r ln').lists = s.lists ∧ (s.redMinimumReached r ln').kept = s.kept := by
  have due : s.redMinimumReached r ln' = s.offerSlot r := (if_pos served).trans (judgeHeld_held metering held)
  rw [due]
  exact ⟨seq_offerSlot eligible first timing, lampsFollow_offerSlot s r, offerSlot_rest s r⟩

theorem redMinimumReached_idle (h : (s.seq r).redServed ln = false ∨ (s.seq r).heldSlot = false
    ∨ ∀ ln', (s.seq r).eligible ln' = false) : s.redMinimumReached r ln = s := by
  unfold redMinimumReached
  rcases h with unserved | unheld | none
  · rw [if_neg (by simp [unserved])]
  · rw [judgeHeld_idle (.inr unheld)]; exact ite_self _
  · rw [judgeHeld_none none]; exact ite_self _

/-- A green that ends gives the Held Slot to the next eligible lane (R116, R119). -/
theorem greenEnd_given {ln' : LaneNo} (metering : (s.seq r).state = .metering)
    (hq : q = { s.seq r with lanes := (s.seq r).lanes.set ln' (.red 0) }) (green : (s.seq r).lanes.get ln' = .green 0)
    (held : (s.seq r).heldSlot = true) (going : (s.seq r).stopping = false) (eligible : q.eligible ln = true)
    (first : FirstInTurn q ln) (timing : q.pendingTiming = some tm ∨ q.pendingTiming = none ∧ q.timing = some tm) :
    (s.greenEnd r ln').seq r = Sequencer.slotGiven tm ln
        { q with lanes := q.lanes.set ln (.green (tm.greenTime * Config.samplesPerDs)) }
      ∧ s.lampsFollow r [ln', ln] (s.greenEnd r ln') ∧ (s.greenEnd r ln').ports = s.ports ∧ (s.greenEnd r ln').lists = s.lists
      ∧ (s.greenEnd r ln').kept = s.kept := by
  have red : (s.handLane r ln' (.red 0)).seq r = q := by
    rw [hq]; exact seq_of_sequencers s (sequencers_handLane s r ln' (.red 0))
  have frame := handLane_frame s r ln' (.red 0)
  have followed := lampsFollow_handLane s r ln' (.red 0)
  have keptV := kept_handLane s r ln' (.red 0)
  rw [greenEnd_judges metering green going]
  generalize s.handLane r ln' (.red 0) = v at red frame followed keptV ⊢
  have offered : v.judgeHeld r = v.offerSlot r := judgeHeld_held (by rw [red, hq]; exact metering) (by rw [red, hq]; exact held)
  obtain ⟨ports, lists, kept⟩ := offerSlot_rest v r
  have given := seq_offerSlot (s := v) (by rw [red]; exact eligible) (by rw [red]; exact first) (by rw [red]; exact timing)
  rw [red] at given
  rw [offered]
  refine ⟨given, lampsFollow_greenThenSlot (g := .green (tm.greenTime * Config.samplesPerDs)) green red (by rw [hq]) (by rw [given]; rfl)
    rfl eligible followed (lampsFollow_offerSlot v r), ports.trans (congrArg State.ports frame :),
    lists.trans (congrArg State.lists frame :), kept.trans keptV⟩

theorem greenEnd_held {ln' : LaneNo} (metering : (s.seq r).state = .metering)
    (hq : q = { s.seq r with lanes := (s.seq r).lanes.set ln' (.red 0) }) (green : (s.seq r).lanes.get ln' = .green 0)
    (going : (s.seq r).stopping = false) (none : ∀ ln, q.eligible ln = false) :
    (s.greenEnd r ln').seq r = q ∧ s.lampsFollow r [] (s.greenEnd r ln') ∧ (s.greenEnd r ln').ports = s.ports
      ∧ (s.greenEnd r ln').lists = s.lists ∧ (s.greenEnd r ln').kept = s.kept := by
  have red : (s.handLane r ln' (.red 0)).seq r = q := by
    rw [hq]; exact seq_of_sequencers s (sequencers_handLane s r ln' (.red 0))
  have frame := handLane_frame s r ln' (.red 0)
  rw [greenEnd_judges metering green going, judgeHeld_none (by rw [red]; exact none)]
  exact ⟨red, lampsFollow_handLane s r ln' (.red 0), (congrArg State.ports frame :), (congrArg State.lists frame :),
    kept_handLane s r ln' (.red 0)⟩

end Slots

/-! ### The check-in conditions of a sample (R16) -/

namespace State

/-- A check-in condition reads the loops, the loop records and the mark that a second ended. -/
theorem checkInAt_congr {s t : State} (h : (t.loops, t.memory, t.timer) = (s.loops, s.memory, s.timer)) (r : Ramp) (ln : LaneNo) :
    t.checkInAt r ln = s.checkInAt r ln := by
  obtain ⟨loops, rest⟩ := Prod.mk.inj h
  obtain ⟨memory, timer⟩ := Prod.mk.inj rest
  unfold checkInAt checkInLoop judgedState loopRec loop
  rw [loops, memory, timer]

theorem checkInAt_none {t : State} {r : Ramp} {ln : LaneNo}
    (h : ∀ i, (t.loop i).ident ≠ some { role := .checkin, ramp := some r, lane := some (ln.val + 1) }) :
    t.checkInAt r ln = .unsupervised := by
  have missing : t.checkInLoop r ln = none := by
    unfold checkInLoop
    rw [List.find?_eq_none]
    intro i _
    simpa using h i
  unfold checkInAt
  rw [missing]

theorem checkInAt_unique {t : State} {r : Ramp} {ln : LaneNo} {i : LoopNo}
    (h : (t.loop i).ident = some { role := .checkin, ramp := some r, lane := some (ln.val + 1) })
    (only : ∀ j, j ≠ i → (t.loop j).ident ≠ some { role := .checkin, ramp := some r, lane := some (ln.val + 1) }) :
    t.checkInAt r ln = if t.judgedState i ≠ .ok then .unsupervised
      else if (t.loop i).presence = some true then .present else .absent := by
  have found : t.checkInLoop r ln = some i := by
    unfold checkInLoop
    cases search : loopNos.find? fun i => (t.loop i).ident = some { role := .checkin, ramp := some r, lane := some (ln.val + 1) } with
    | none =>
      rw [List.find?_eq_none] at search
      exact absurd h (by simpa using search i (mem_loopNos i))
    | some j =>
      have there : (t.loop j).ident = some { role := .checkin, ramp := some r, lane := some (ln.val + 1) } := by
        simpa using List.find?_some search
      by_contra other
      exact only j (fun e => other (congrArg some e)) there
  unfold checkInAt
  rw [found]

/-- The check-in of a ramp: stated, and the Held Slot judged again where it changes (R16, R116). -/
theorem stateCheckIn_eq (s : State) (r : Ramp) {q : Sequencer}
    (h : q = { s.seq r with checkIn := Tab.ofFn fun ln => if ln.val < (s.seq r).laneCount then some (s.checkInAt r ln) else none }) :
    s.stateCheckIn r = if q.checkIn = (s.seq r).checkIn then s else (s.setSeq r q).judgeHeld r := by
  have conditions : (Tab.ofFn fun ln => if (s.seq r).inForce ln then some (s.checkInAt r ln) else none) = q.checkIn := by
    rw [h]; simp only [Sequencer.inForce, decide_eq_true_eq]
  unfold stateCheckIn
  dsimp only
  rw [conditions, h]

theorem stateCheckIn_keeps {s : State} {r : Ramp} {q : Sequencer}
    (h : q = { s.seq r with checkIn := Tab.ofFn fun ln => if ln.val < (s.seq r).laneCount then some (s.checkInAt r ln) else none })
    (idle : (s.seq r).state ≠ .metering ∨ (s.seq r).heldSlot = false ∨ q.checkIn = (s.seq r).checkIn
      ∨ ∀ ln, q.eligible ln = false) : (s.stateCheckIn r).seq r = q := by
  rw [stateCheckIn_eq s r h]
  by_cases same : q.checkIn = (s.seq r).checkIn
  · have unchanged : q = { s.seq r with checkIn := (s.seq r).checkIn } := by rw [← same, h]
    rw [if_pos same, unchanged]
  · have seq : (s.setSeq r q).seq r = q := seq_setSeq_self ..
    have state : q.state = (s.seq r).state := by rw [h]
    have held : q.heldSlot = (s.seq r).heldSlot := by rw [h]
    have still : (s.setSeq r q).judgeHeld r = s.setSeq r q := by
      rcases idle with metering | unheld | change | none
      · exact judgeHeld_idle (.inl (by rw [seq, state]; exact metering))
      · exact judgeHeld_idle (.inr (by rw [seq, held]; exact unheld))
      · exact absurd change same
      · exact judgeHeld_none (by rw [seq]; exact none)
    rw [if_neg same, still, seq]

theorem stateCheckIn_given {s : State} {r : Ramp} {q : Sequencer} {ln : LaneNo} {tm : Timing}
    (h : q = { s.seq r with checkIn := Tab.ofFn fun ln => if ln.val < (s.seq r).laneCount then some (s.checkInAt r ln) else none })
    (metering : (s.seq r).state = .metering) (held : (s.seq r).heldSlot = true) (change : q.checkIn ≠ (s.seq r).checkIn)
    (eligible : q.eligible ln = true) (first : FirstInTurn q ln)
    (timing : q.pendingTiming = some tm ∨ q.pendingTiming = none ∧ q.timing = some tm) :
    (s.stateCheckIn r).seq r = Sequencer.slotGiven tm ln
      { q with lanes := q.lanes.set ln (.green (tm.greenTime * Config.samplesPerDs)) } := by
  have seq : (s.setSeq r q).seq r = q := seq_setSeq_self ..
  rw [stateCheckIn_eq s r h, if_neg change,
    judgeHeld_held (by rw [seq, h]; exact metering) (by rw [seq, h]; exact held),
    seq_offerSlot (by rw [seq]; exact eligible) (by rw [seq]; exact first) (by rw [seq]; exact timing), seq]

end State

/-- The check-ins of a SAMPLE, each ramp's own (R16). -/
theorem SampleStages.checkIns {inp : Inputs} {u sensed looped checked pressed : State}
    (h : SampleStages inp u sensed looped checked pressed) (r : Ramp) : ∃ v : State,
      v.seq r = u.seq r ∧ pressed.seq r = (v.stateCheckIn r).seq r ∧ ∀ ln, v.checkInAt r ln = pressed.checkInAt r ln := by
  obtain ⟨v, same, before, after⟩ := h.checkedSeq r
  refine ⟨v, ?_, ?_, fun ln => ?_⟩
  · calc v.seq r = looped.seq r := before
      _ = sensed.seq r := (congrArg (fun t : State => t.seq r) h.loopedFrame :)
      _ = u.seq r := (congrArg (fun t : State => t.seq r) h.sensedFrame :)
  · calc pressed.seq r = checked.seq r := (congrArg (fun t : State => t.seq r) h.pressedFrame :)
      _ = _ := after
  · have pressedChecked : (pressed.loops, pressed.memory, pressed.timer) = (checked.loops, checked.memory, checked.timer) :=
      (congrArg (fun t : State => (t.loops, t.memory, t.timer)) h.pressedFrame :)
    have checkedLooped : (checked.loops, checked.memory, checked.timer) = (looped.loops, looped.memory, looped.timer) :=
      (congrArg (fun t : State => (t.loops, t.memory, t.timer)) h.checkedFrame :)
    exact checkInAt_congr (same.trans (pressedChecked.trans checkedLooped).symm) r ln

/-- Settles O50. -/
theorem slotsGoToTheNextEligibleLane : Obligations.SlotsGoToTheNextEligibleLane := by
  refine ⟨Sequencer.eligible_iff, fun r s running metering => ⟨?_, ?_, fun timer none => ?_, fun idle => ?_, fun ln idle => ?_⟩, ?_⟩
  · rintro q given ln tm eligible first timing rfl
    refine ⟨?_, ?_, fun ln' hq green held going => ?_⟩
    · rintro rfl timer
      exact ⟨s.slotExpiry r, exec_slotExpiry running, slotExpiry_given metering timer eligible first timing⟩
    · rintro rfl held ln' served
      exact ⟨s.redMinimumReached r ln', exec_redMinimumReached running,
        redMinimumReached_given metering held served eligible first timing⟩
    · exact ⟨s.greenEnd r ln', exec_greenEnd running, greenEnd_given metering hq green held going eligible first timing⟩
  · intro q ln' hq green held going none
    exact ⟨s.greenEnd r ln', exec_greenEnd running, greenEnd_held metering hq green going none⟩
  · rw [exec_slotExpiry running, slotExpiry_held metering timer none]
  · rw [exec_slotExpiry running]
    exact congrArg Host.Outcome.next (if_neg fun due => idle due.2)
  · rw [exec_redMinimumReached running, redMinimumReached_idle idle]
  · rintro inp first s u running rfl
    generalize hu : ((s.settle inp).tick).each first State.takeStep = u
    obtain ⟨sensed, looped, checked, pressed, stages, done⟩ := sampleInputs_stages inp u
    refine ⟨u.sampleInputs inp, ?_, ?_, fun r' q hq => ?_⟩
    · show Host.Outcome.next (s.whenRunning (State.sample inp first)) = _
      rw [whenRunning_runs running]
      unfold State.sample
      rw [hu]
    · rintro r' ln x rfl
      exact ⟨checkInAt_none, fun i there only => checkInAt_unique there only⟩
    · obtain ⟨v, before, after, conditions⟩ := stages.checkIns r'
      have seqDone : (u.sampleInputs inp).seq r' = pressed.seq r' := by rw [done]; rfl
      have conditionsDone (ln : LaneNo) : (u.sampleInputs inp).checkInAt r' ln = v.checkInAt r' ln := by
        rw [done, conditions ln]; rfl
      simp only [conditionsDone, ← before] at hq
      rw [seqDone, after, ← before]
      exact ⟨stateCheckIn_keeps hq, fun metering held change ln tm => stateCheckIn_given hq metering held change⟩

end Sys2Proof.Machine
end

section
/-! PROOFS. The failure of the supply (O55): every configured ramp takes the Supply Hold and is forced dark. -/

namespace Sys2Proof.Machine

open State

namespace State

/-- The ramp is in a state that a supply failure ends (R113). -/
def Active (s : State) (r : Ramp) : Prop :=
  (s.seq r).state = .warning ∨ (s.seq r).state = .metering ∨ (s.seq r).state = .ending

theorem forceOff_idle {s : State} {r : Ramp} (h : ¬ s.Active r) : s.forceOff r = s := by
  unfold Active at h
  unfold forceOff
  cases state : (s.seq r).state <;> simp_all

theorem supplyHold_offSettled (s : State) (r : Ramp) : ((s.offSettled r).seq r).supplyHold = (s.seq r).supplyHold := by
  unfold offSettled
  dsimp only
  split <;> split
  · rw [seq_setRampState, seq_setSeq_self]
  · rw [seq_setSeq_self]
  · rw [seq_setRampState]
  · rfl

/-- Under the Supply Hold no plan is followed at OFF (R173). -/
theorem reachOff_held {s : State} {r : Ramp} (hold : (s.seq r).supplyHold = true) : s.reachOff r = s.offSettled r := by
  unfold reachOff
  dsimp only
  rw [if_neg]
  unfold warns
  rw [supplyHold_offSettled, hold]
  simp

theorem rampRow_forceOff {s : State} {r r' : Ramp} (hold : s.Active r → (s.seq r).supplyHold = true) (ne : r' ≠ r) :
    (s.forceOff r).rampRow r' = s.rampRow r' := by
  by_cases active : s.Active r
  · have dark := seq_goDark s r .off
    rw [forceOff_active active, reachOff_held (by rw [dark]; exact hold active), rampRow_offSettled ne, rampRow_goDark ne]
  · rw [forceOff_idle active]

/-- A ramp under the Supply Hold forced dark: its flag stands, and RAMP_STATE is raised where its state changes (R113, R123). -/
theorem forceOff_held {s : State} {r : Ramp} (hold : s.Active r → (s.seq r).supplyHold = true) :
    s.Beside (s.forceOff r) ∧ (s.forceOff r).retained = s.retained ∧ s.MayRaise (s.forceOff r)
      ∧ raisedBetween .rampState (s.Active r) s (s.forceOff r) := by
  by_cases active : s.Active r
  · have dark := seq_goDark s r .off
    have off : s.forceOff r = (s.goDark r .off).offSettled r := by
      rw [forceOff_active active, reachOff_held (by rw [dark]; exact hold active)]
    have turned : Turned r s (s.forceOff r) := by rw [off]; exact turned_offSettled (turned_goDark_off s r)
    have beside : s.Beside (s.forceOff r) := by rw [off]; exact (beside_goDark s r .off).trans (beside_offSettled _ r)
    refine ⟨beside, ?_, turned.may, raisedBetween_of_raised turned.raised active⟩
    have flags : (s.forceOff r).retained.wasMetering = s.retained.wasMetering := by
      apply Tab.ext_get
      intro r'
      by_cases same : r' = r
      · subst same
        rw [turned.flag, if_pos (hold active)]
      · exact congrArg (fun x => x.2.2) (rampRow_forceOff hold same)
    have rest := beside.retained
    rw [← flags] at rest
    exact rest
  · rw [forceOff_idle active]
    exact ⟨.refl, rfl, .of_ports rfl rfl, raisedBetween_of_same .refl active⟩

theorem active_of_row {s t : State} {r : Ramp} (row : t.rampRow r = s.rampRow r) : t.Active r ↔ s.Active r := by
  unfold Active
  rw [show t.seq r = s.seq r from congrArg Prod.fst row]

/-- All ramps forced dark in turn, each under its Supply Hold. -/
theorem forceOffs_held (xs : List Ramp) (nodup : xs.Nodup) (s : State)
    (hold : ∀ r, s.Active r → (s.seq r).supplyHold = true) :
    s.Beside (s.each xs forceOff) ∧ (s.each xs forceOff).retained = s.retained ∧ s.MayRaise (s.each xs forceOff)
      ∧ raisedBetween .rampState (∃ r ∈ xs, s.Active r) s (s.each xs forceOff)
      ∧ ∀ r, ∃ u : State, u.rampRow r = s.rampRow r
        ∧ (s.each xs forceOff).rampRow r = if r ∈ xs then (u.forceOff r).rampRow r else u.rampRow r := by
  induction xs generalizing s with
  | nil => exact ⟨.refl, rfl, .of_ports rfl rfl, raisedBetween_of_same .refl (by simp), fun r => ⟨s, rfl, by simp [each]⟩⟩
  | cons x xs ih =>
    obtain ⟨fresh, nodup⟩ := List.nodup_cons.mp nodup
    obtain ⟨beside, retained, may, raised⟩ := forceOff_held (s := s) (hold x)
    have step : s.each (x :: xs) forceOff = (s.forceOff x).each xs forceOff := rfl
    have row {r : Ramp} (ne : r ≠ x) : (s.forceOff x).rampRow r = s.rampRow r := rampRow_forceOff (hold x) ne
    have off : (s.forceOff x).Active x → ((s.forceOff x).seq x).supplyHold = true := by
      intro active
      by_cases before : s.Active x
      · have dark := seq_goDark s x .off
        rw [forceOff_active before, reachOff_held (by rw [dark]; exact hold x before), supplyHold_offSettled, dark]
        exact hold x before
      · rw [forceOff_idle before] at active ⊢
        exact hold x active
    have holds (r : Ramp) : (s.forceOff x).Active r → ((s.forceOff x).seq r).supplyHold = true := by
      by_cases same : r = x
      · subst same; exact off
      · rw [active_of_row (row same), show (s.forceOff x).seq r = s.seq r from congrArg Prod.fst (row same)]
        exact hold r
    obtain ⟨besideR, retainedR, mayR, raisedR, rowsR⟩ := ih nodup (s.forceOff x) holds
    rw [step]
    refine ⟨beside.trans besideR, retainedR.trans retained, may.trans mayR, fun p => ?_, fun r => ?_⟩
    · have later : (∃ r ∈ xs, (s.forceOff x).Active r) ↔ ∃ r ∈ xs, s.Active r := by
        refine exists_congr fun r => and_congr_right fun mem => ?_
        exact active_of_row (row fun same => fresh (same ▸ mem))
      rw [raisedR p, raised p, later, may.routes p]
      simp only [List.mem_cons, exists_eq_or_imp]
      tauto
    · obtain ⟨u, before, after⟩ := rowsR r
      by_cases same : r = x
      · subst same
        rw [if_neg fresh] at after
        exact ⟨s, rfl, by rw [if_pos List.mem_cons_self, after, before]⟩
      · refine ⟨u, before.trans (row same), ?_⟩
        rw [after]
        simp [same]

end State

theorem exec_supplyFailAsserted {s : State} (h : s.running) : exec .supplyFailAsserted s = .next s.supplyFailAsserted :=
  congrArg Host.Outcome.next (whenRunning_runs h _)

/-- The part once the supply has failed, before its ramps go dark (R173). -/
def failing (s : State) : State := ((s.setSupplyInput true).captureWasMetering).setSupplyHolds

theorem seq_failing (s : State) (r : Ramp) : (failing s).seq r
    = { s.seq r with supplyHold := (s.seq r).supplyHold || decide ((s.seq r).state ≠ .unconfigured) } := by
  unfold failing setSupplyHolds seq
  exact Tab.get_map ..

/-- Settles O55. -/
theorem supplyFailHoldsEveryRamp : Obligations.SupplyFailHoldsEveryRamp := by
  intro s running
  rw [exec_supplyFailAsserted running]
  refine ⟨fun idle => ?_, fun sampled input => ?_⟩
  · unfold supplyFailAsserted
    rw [if_neg (by rcases idle with h | h <;> simp [h])]
  · have due : s.supplyFailAsserted = (failing s).each ramps forceOff := if_pos (by simp [sampled, input])
    have active (r : Ramp) : (failing s).Active r ↔ s.Active r := by unfold Active; rw [seq_failing]
    have held (r : Ramp) : (failing s).Active r → ((failing s).seq r).supplyHold = true := by
      rw [active, seq_failing]
      rintro (h | h | h) <;> simp [h]
    have lamps : (failing s).lamps = s.lamps := rfl
    have flags : (failing s).retained = { s.retained with
        wasMetering := Tab.ofFn fun r => decide ((s.seq r).state = .warning ∨ (s.seq r).state = .metering) } := by
      have captured : (s.sequencers.map fun q : Sequencer => decide (q.state = .warning ∨ q.state = .metering))
          = Tab.ofFn fun r => decide ((s.seq r).state = .warning ∨ (s.seq r).state = .metering) := by
        apply Tab.ext_get
        intro r
        rw [Tab.get_map, Tab.get_ofFn]
        rfl
      rw [← captured]
      rfl
    have supply : (failing s).supply = { s.supply with input := true } := rfl
    have lists : (failing s).lists = s.lists := rfl
    have memory : (failing s).memory = s.memory := rfl
    have pending : SamePending .rampState s (failing s) := .of_ports rfl
    have routes (p : Port) : (failing s).delivers .rampState p = s.delivers .rampState p := rfl
    have seq := seq_failing s
    rw [due]
    generalize failing s = v at active held lamps flags supply lists memory pending routes seq ⊢
    obtain ⟨beside, retained, -, raised, rows⟩ := forceOffs_held ramps ramps_nodup v held
    generalize v.each ramps forceOff = t at beside retained raised rows
    refine ⟨t, rfl, beside.supply.trans supply, beside.lists.trans lists, beside.memory.trans memory, retained.trans flags, fun p => ?_,
      fun r => ?_⟩
    · have event : (∃ r ∈ ramps, v.Active r) ↔ ∃ r, s.Active r := by simp [mem_ramps, active]
      rw [raised p, pending p, event, routes p]
      rfl
    · obtain ⟨u, before, after⟩ := rows r
      rw [if_pos (mem_ramps r)] at after
      have seqT : t.seq r = (u.forceOff r).seq r := congrArg Prod.fst after
      have seqU : u.seq r = v.seq r := congrArg Prod.fst before
      have activeU : u.Active r ↔ s.Active r := (active_of_row before).trans (active r)
      refine ⟨fun off => ?_, fun dark => ?_, fun lit count laned => ?_⟩
      · have idle : ¬ u.Active r := by rw [activeU]; unfold Active; simp [off]
        rw [seqT, forceOff_idle idle, seqU, seq, off]
        simp
      · have idle : ¬ u.Active r := by rw [activeU]; unfold Active; rcases dark with h | h <;> simp [h]
        rw [seqT, forceOff_idle idle, seqU, seq]
        rcases dark with h | h <;> simp [h]
      · have dark := seq_goDark u r .off
        have countU : ((u.goDark r .off).seq r).pendingCount = none := by rw [dark, seqU, seq]; exact count
        have lanedU : ((u.goDark r .off).seq r).laneCount ≠ 0 := by rw [dark, seqU, seq]; exact laned
        have configured : (s.seq r).state ≠ .unconfigured := by rcases lit with h | h | h <;> simp [h]
        have holdU : (u.seq r).supplyHold = true := by rw [seqU, seq]; simp [configured]
        have off : u.forceOff r = u.goDark r .off := by
          rw [forceOff_active (activeU.mpr lit), reachOff_rests countU lanedU (.inr (by rw [dark]; exact holdU))]
        have lampsT : t.lamps.get r = (u.goDark r .off).lamps.get r := by
          rw [← off]; exact congrArg (fun x => x.2.1) after
        have lampsU : u.lamps.get r = s.lamps.get r := by
          rw [← lamps]; exact congrArg (fun x => x.2.1) before
        refine ⟨?_, fun ln => ?_⟩
        · rw [seqT, off, dark, seqU, seq]
          simp [configured, Sequencer.discard]
        · have follow := lampsFollow_after (goDark_turns u r (st := .off) (by decide)).2 lampsT (by rw [seqT, off])
          have lamp : s.lamp r ln = u.lamp r ln := by unfold lamp; rw [lampsU]
          have commanded : s.commanded r ln = u.commanded r ln := by unfold commanded; rw [seqU, seq]
          rw [lamp, commanded]
          exact follow ln

end Sys2Proof.Machine
end

section
/-! PROOFS. The change of a list seen from the events and the records it does not touch: no class but RAMP_STATE, FALLBACK, MEMORY and
AUTHORITY becomes pending, and no record comes to have one error. -/

namespace Sys2Proof.Machine

open State

/-- Class `c` is none of those that a change of a list, a move of a sequencer or a read of a record raises. -/
structure Aside (c : EventClass) : Prop where
  rampState : c ≠ .rampState
  fallback : c ≠ .fallback
  memory : c ≠ .memory
  authority : c ≠ .authority

namespace State

/-- From `s` to `t` only such classes have become pending as sequencers, lists and reads raise, and no record has come to have one
error. -/
structure Settles (s t : State) : Prop where
  pending : ∀ c, Aside c → SamePending c s t
  sound : ∀ id, (s.health id).check ≠ .oneError → (t.health id).check ≠ .oneError

namespace Settles

variable {s t u : State}

theorem refl : s.Settles s := ⟨fun _ _ => .refl, fun _ h => h⟩
theorem trans (h : s.Settles t) (g : t.Settles u) : s.Settles u :=
  ⟨fun c a => (h.pending c a).trans (g.pending c a), fun id e => g.sound id (h.sound id e)⟩

theorem of_eq (ports : t.ports = s.ports) (memory : t.memory = s.memory) : s.Settles t :=
  ⟨fun _ _ => .of_ports ports, fun id h => by unfold health; rw [memory]; exact h⟩

theorem of_pending (pending : ∀ c, Aside c → SamePending c s t) (memory : t.memory = s.memory) : s.Settles t :=
  ⟨pending, fun id h => by unfold health; rw [memory]; exact h⟩

theorem each {ι : Type} (xs : List ι) (f : ι → State → State) (step : ∀ x (t : State), t.Settles (f x t)) : s.Settles (s.each xs f) :=
  each_induct (P := s.Settles) xs f refl fun x t h => h.trans (step x t)

end Settles

variable (s : State) (r : Ramp)

theorem settles_raise {d : EventClass} (h : ∀ c, Aside c → c ≠ d) : s.Settles (s.raise d) :=
  .of_pending (fun c a => .raise (h c a)) (memory_raise s d)

theorem settles_raiseIf {d : EventClass} (h : ∀ c, Aside c → c ≠ d) (b : Bool) : s.Settles (s.raiseIf b d) :=
  .of_pending (fun c a => .raiseIf (h c a) b) (memory_raiseIf s b d)

/-! ### Reads -/

theorem health_setHealth (id id' : RecId) (h : Health) :
    (s.setHealth id h).health id' = if RecId.turn id' = RecId.turn id then h else s.health id' := by
  unfold health setHealth; exact Tab.get_set ..

theorem health_raise (c : EventClass) (id : RecId) : (s.raise c).health id = s.health id := by
  unfold health; rw [memory_raise]

/-- A use of a record leaves no single error behind in it, and changes no other record (R159, R160). -/
theorem check_useRecord (id id' : RecId) (h : (s.health id').check ≠ .oneError) : ((s.useRecord id).health id').check ≠ .oneError := by
  unfold useRecord
  split
  · cases check : (s.health id).check with
    | good => exact h
    | oneError =>
      have corrected : (s.correct id).health id' = (s.setHealth id { s.health id with check := .good }).health id' := rfl
      dsimp only
      rw [corrected, health_setHealth]
      split
      · simp
      · exact h
    | twoErrors =>
      dsimp only
      split
      · exact h
      · have found : (s.discover id).health id' = (s.setHealth id { s.health id with damagedMark := true }).health id' := by
          unfold discover
          dsimp only
          rw [health_raise]
          split <;> rfl
        rw [found, health_setHealth]
        split
        · simp [check]
        · exact h
  · exact h

theorem settles_useRecord (id : RecId) : s.Settles (s.useRecord id) :=
  ⟨fun _ a => samePending_useRecord s a.memory id, fun id' h => check_useRecord s id id' h⟩

theorem settles_takeCorridor : s.Settles s.takeCorridor := by
  have handed : s.Settles (s.handCorridor none s.corridorInUse) :=
    .of_pending (fun c a => samePending_handCorridor s a.authority none _) (handCorridor_spec s none _).2.2.1
  exact handed.trans (settles_useRecord _ _)

/-! ### Moves of a sequencer -/

theorem settles_setSeq (q : Sequencer) : s.Settles (s.setSeq r q) := .of_eq rfl rfl
theorem settles_modSeq (f : Sequencer → Sequencer) : s.Settles (s.modSeq r f) := .of_eq rfl rfl

theorem settles_handLane (ln : LaneNo) (st : LaneState) : s.Settles (s.handLane r ln st) :=
  .of_eq (congrArg State.ports (handLane_frame s r ln st) :) (congrArg State.memory (handLane_frame s r ln st) :)

theorem settles_handLanes (st : LaneState) : s.Settles (s.handLanes r st) := .each _ _ fun ln t => settles_handLane t r ln _
theorem settles_darkLanes : s.Settles (s.darkLanes r) := .each _ _ fun ln t => settles_handLane t r ln _

theorem settles_setRampState (st : RampState) : s.Settles (s.setRampState r st) := by
  refine .of_pending (fun c a => ?_) (beside_setRampState s r st).memory
  unfold setRampState
  dsimp only
  refine SamePending.trans (.of_ports ?_) (.raise a.rampState)
  split <;> split <;> simp [each, laneNos]

theorem settles_setRate (x : RampRate) : s.Settles (s.setRate r x) := .of_eq rfl rfl

theorem settles_goDark (st : RampState) : s.Settles (s.goDark r st) :=
  ((settles_darkLanes s r).trans (settles_modSeq _ r _)).trans (settles_setRampState _ r st)

theorem settles_warningEntry : s.Settles (s.warningEntry r) :=
  (((settles_handLanes s r _).trans (settles_modSeq _ r _)).trans (settles_setRate _ r _)).trans (settles_setRampState _ r _)

theorem settles_endingEntry : s.Settles (s.endingEntry r) :=
  ((settles_handLanes s r _).trans (settles_modSeq _ r _)).trans (settles_setRampState _ r _)

theorem settles_offSettled : s.Settles (s.offSettled r) := by
  unfold offSettled
  dsimp only
  split <;> split
  · exact (settles_setSeq s r _).trans (settles_setRampState _ r _)
  · exact settles_setSeq s r _
  · exact settles_setRampState s r _
  · exact .refl

theorem settles_offFollowed : s.Settles (s.offFollowed r) := by
  unfold offFollowed; split
  · exact settles_warningEntry s r
  · exact .refl

theorem settles_report : s.Settles (s.report r) := by
  have toOff {t : State} (h : s.Settles t) : s.Settles (((t.goDark r .off).offSettled r).offFollowed r) :=
    ((h.trans (settles_goDark _ r _)).trans (settles_offSettled _ r)).trans (settles_offFollowed _ r)
  unfold report
  dsimp only
  cases (s.seq r).state with
  | off =>
    dsimp only; split
    · exact (settles_setSeq s r _).trans (settles_setRampState _ r _)
    · exact settles_setSeq s r _
  | darkFault => exact settles_setSeq s r _
  | unconfigured =>
    dsimp only; split
    · exact .refl
    · exact ((settles_setSeq s r _).trans (settles_setRampState _ r _)).trans (settles_offFollowed _ r)
  | warning =>
    dsimp only; split
    · exact settles_setSeq s r _
    · exact toOff (settles_setSeq s r _)
  | metering =>
    dsimp only; split
    · exact settles_setSeq s r _
    · split
      · exact settles_setSeq s r _
      · exact (settles_setSeq s r _).trans (settles_endingEntry _ r)
  | ending => exact settles_setSeq s r _

theorem settles_reports : s.Settles s.reports := .each _ _ fun r t => settles_report t r
theorem settles_useCorridor : s.Settles s.useCorridor := (settles_takeCorridor s).trans (settles_reports _)

theorem settles_enterWarning : s.Settles (s.enterWarning r) :=
  ((settles_takeCorridor s).trans (settles_warningEntry _ r)).trans (settles_reports _)

theorem settles_enterEnding : s.Settles (s.enterEnding r) :=
  ((settles_takeCorridor s).trans (settles_endingEntry _ r)).trans (settles_reports _)

theorem settles_reachOff : s.Settles (s.reachOff r) := by
  unfold reachOff
  dsimp only
  split
  · exact (settles_offSettled s r).trans (settles_enterWarning _ r)
  · exact settles_offSettled s r

theorem settles_judgeHeld : s.Settles (s.judgeHeld r) :=
  .of_eq (congrArg State.ports (judgeHeld_frame s r) :) (congrArg State.memory (judgeHeld_frame s r) :)

/-! ### Changes of a list -/

theorem settles_setList (l : PlanList) : s.Settles (s.setList r l) := .of_eq rfl rfl

theorem settles_removeFallback : s.Settles (s.removeFallback r) :=
  (settles_setList s r _).trans (settles_raiseIf _ (fun _ a => a.fallback) _)

theorem settles_placeFallback (n : PlanRef) : s.Settles (s.placeFallback r n) :=
  (settles_setList s r _).trans (settles_raiseIf _ (fun _ a => a.fallback) _)

theorem settles_fallbackTest : s.Settles (s.fallbackTest r) := by
  unfold fallbackTest
  cases (s.planList r).governingPlan with
  | none => exact settles_removeFallback s r
  | some k =>
    dsimp only
    split
    · exact (settles_useRecord s _).trans (settles_removeFallback _ r)
    · exact (settles_useRecord s _).trans (settles_placeFallback _ r _)

theorem settles_readTopPlan : s.Settles (s.readTopPlan r).1 := by
  unfold readTopPlan
  split
  · rename_i k _
    have read := settles_useRecord s (.plan k)
    dsimp only
    generalize s.useRecord (.plan k) = t at read ⊢
    split
    · exact read
    · split
      · exact read.trans (settles_setList t r _)
      · exact read.trans (settles_fallbackTest t r)
  · exact .refl

theorem settles_reckonTiming (rate : Plan → Nat) : s.Settles (s.reckonTiming r rate).1 := by
  have top := settles_readTopPlan s r
  unfold reckonTiming
  dsimp only
  generalize (s.readTopPlan r).1 = t at top ⊢
  have table := top.trans (settles_useRecord t .safety)
  generalize t.useRecord .safety = u at table ⊢
  exact (table.trans (settles_modSeq u r _)).trans (settles_takeCorridor _)

theorem settles_prepareMetering (returning : Bool) : s.Settles (s.prepareMetering r returning) := by
  have handed := settles_handLanes s r (.red 0)
  unfold prepareMetering
  dsimp only
  generalize s.handLanes r (.red 0) = t at handed ⊢
  exact handed.trans (.of_eq rfl rfl)

theorem settles_enterMetering (returning : Bool) : s.Settles (s.enterMetering r returning) := by
  have prepared := settles_prepareMetering s r returning
  unfold enterMetering startTiming
  dsimp only
  generalize s.prepareMetering r returning = t at prepared ⊢
  generalize (fun p : Plan => (if returning = true then (t.rate r).lastFinal else none).getD p.startRate) = rate
  have timed := prepared.trans (settles_reckonTiming t r rate)
  generalize t.reckonTiming r rate = u at timed ⊢
  exact ((timed.trans (settles_modSeq _ r _)).trans (settles_setRampState _ r _)).trans (settles_reports _)

theorem settles_changeTiming : s.Settles (s.changeTiming r) := by
  unfold changeTiming
  dsimp only
  generalize (fun p : Plan => (s.rate r).lastFinal.getD p.startRate) = rate
  have timed := settles_reckonTiming s r rate
  generalize s.reckonTiming r rate = u at timed ⊢
  exact (timed.trans (settles_modSeq _ r _)).trans (settles_reports _)

theorem settles_handDemand : s.Settles (s.handDemand r) := by
  unfold handDemand
  dsimp only
  split
  · split
    · exact settles_enterWarning s r
    · exact .refl
  · exact (settles_goDark s r .off).trans (settles_reachOff _ r)
  · split
    · exact settles_setSeq s r _
    · exact settles_enterEnding s r
  · exact ((settles_setSeq s r _).trans (settles_changeTiming _ r)).trans (settles_judgeHeld _ r)
  · exact settles_enterMetering s r true
  · exact .refl

theorem settles_changeList (l : PlanList) : s.Settles (s.changeList r l) := by
  have tested : s.Settles (if l.governing = (s.planList r).governing then s.setList r l else (s.setList r l).fallbackTest r) := by
    split
    · exact settles_setList s r l
    · exact (settles_setList s r l).trans (settles_fallbackTest _ r)
  unfold changeList
  dsimp only
  generalize (if l.governing = (s.planList r).governing then s.setList r l else (s.setList r l).fallbackTest r) = t at tested ⊢
  split
  · exact tested
  · exact tested.trans (settles_handDemand t r)

end State

end Sys2Proof.Machine
end

section
/-! PROOFS. The evaluations of the schedule (R93 to R97): what they leave alone, the SCHEDULE entries they decide, and what raises
SCHEDULE. -/

namespace Sys2Proof.Machine

open State

/-! ### The entries of an evaluation, ascending by slot -/

theorem Calm.readableSchedule {s t : State} (h : s.Calm t) : t.readableSchedule = s.readableSchedule := by
  funext j; unfold State.readableSchedule; rw [h.damaged, schedule_of_kept h.kept]

theorem Calm.readableShift {s t : State} (h : s.Calm t) (i : ShiftSlot) : t.readableShift i = s.readableShift i := by
  unfold State.readableShift; rw [h.damaged, shifts_of_kept h.kept]

theorem Calm.scheduleEntries {s t : State} (h : s.Calm t) : t.scheduleEntries = s.scheduleEntries := by
  unfold State.scheduleEntries; rw [Calm.readableSchedule h]

theorem mem_scheduleEntries {s : State} {e : ScheduleRec} : e ∈ s.scheduleEntries ↔ ∃ j, s.readableSchedule j = some e := by
  simp [scheduleEntries, scheduleSlots]

/-- An entry stands in the list after those of the lower slots and before those of the higher ones. -/
theorem scheduleEntries_split {s : State} {j : ScheduleSlot} {e : ScheduleRec} (h : s.readableSchedule j = some e) :
    ∃ pre post, s.scheduleEntries = pre ++ e :: post ∧ (∀ x ∈ pre, ∃ i, i < j ∧ s.readableSchedule i = some x)
      ∧ ∀ x ∈ post, ∃ i, j < i ∧ s.readableSchedule i = some x := by
  obtain ⟨low, high, slots⟩ := List.mem_iff_append.1 (List.mem_finRange j)
  have ascending : (low ++ j :: high).Pairwise (· < ·) := slots ▸ List.pairwise_lt_finRange 48
  obtain ⟨-, above, below⟩ := List.pairwise_append.1 ascending
  obtain ⟨after, -⟩ := List.pairwise_cons.1 above
  refine ⟨low.filterMap s.readableSchedule, high.filterMap s.readableSchedule, ?_, fun x hx => ?_, fun x hx => ?_⟩
  · rw [scheduleEntries, scheduleSlots, slots, List.filterMap_append, List.filterMap_cons, h]
  · obtain ⟨i, mem, read⟩ := List.mem_filterMap.1 hx
    exact ⟨i, below i mem j List.mem_cons_self, read⟩
  · obtain ⟨i, mem, read⟩ := List.mem_filterMap.1 hx
    exact ⟨i, after i mem, read⟩

/-! ### The deciding Actions -/

section Deciding

variable {s : State} {n : DateTime} {r : Ramp}

theorem minuteAction_none (h : ∀ j e, s.readableSchedule j = some e → e.names r = true → e.matchesMinute n = false) :
    minuteAction s.scheduleEntries n r = none := by
  have empty : (s.scheduleEntries.filter fun e => e.matchesMinute n && e.names r) = [] := by
    refine List.filter_eq_nil_iff.2 fun e he both => ?_
    obtain ⟨j, read⟩ := mem_scheduleEntries.1 he
    obtain ⟨now, names⟩ := Bool.and_eq_true_iff.1 both
    rw [h j e read names] at now
    cases now
  rw [minuteAction, empty]
  rfl

theorem minuteAction_some {j : ScheduleSlot} {e : ScheduleRec} (read : s.readableSchedule j = some e) (names : e.names r = true)
    (now : e.matchesMinute n = true)
    (later : ∀ j' e', j < j' → s.readableSchedule j' = some e' → e'.names r = true → e'.matchesMinute n = false) :
    minuteAction s.scheduleEntries n r = some e.action := by
  obtain ⟨pre, post, entries, -, high⟩ := scheduleEntries_split read
  have none_after : (post.filter fun e => e.matchesMinute n && e.names r) = [] := by
    refine List.filter_eq_nil_iff.2 fun e' he' both => ?_
    obtain ⟨j', lt, read'⟩ := high e' he'
    obtain ⟨now', names'⟩ := Bool.and_eq_true_iff.1 both
    rw [later j' e' lt read' names'] at now'
    cases now'
  rw [minuteAction, entries, List.filter_append, List.filter_cons_of_pos (by simp [now, names]), none_after, List.getLast?_concat]
  rfl

theorem any_matchesMinute : (s.scheduleEntries.any fun e => e.matchesMinute n) = true
    ↔ ∃ j e, s.readableSchedule j = some e ∧ e.matchesMinute n = true := by
  simp only [List.any_eq_true, mem_scheduleEntries]
  exact ⟨fun ⟨e, ⟨j, read⟩, now⟩ => ⟨j, e, read, now⟩, fun ⟨j, e, read, now⟩ => ⟨e, ⟨j, read⟩, now⟩⟩

/-- An entry not older than the candidate replaces it. -/
theorem betterCandidate_taken {now a : Nat} {e : ScheduleRec} {best : Option (Nat × Action)} (age : e.age now = some a)
    (h : ∀ b x, best = some (b, x) → a ≤ b) : betterCandidate now best e = some (a, e.action) := by
  unfold betterCandidate
  rw [age]
  cases best with
  | none => rfl
  | some c => exact if_pos (h c.1 c.2 rfl)

/-- A candidate found comes from the one before or from an entry. -/
theorem foldl_betterCandidate_source (now : Nat) (es : Entries) (best : Option (Nat × Action)) :
    ∀ a x, es.foldl (betterCandidate now) best = some (a, x) → best = some (a, x) ∨ ∃ e ∈ es, e.age now = some a := by
  induction es generalizing best with
  | nil => exact fun a x h => Or.inl h
  | cons e es ih =>
    intro a x h
    rcases ih _ a x h with head | ⟨e', mem, age⟩
    · unfold betterCandidate at head
      split at head
      · exact Or.inl head
      · rename_i b age
        obtain ⟨rfl, -⟩ := Prod.mk.inj (Option.some.inj head)
        exact Or.inr ⟨e, List.mem_cons_self, age⟩
      · rename_i b c y age
        split at head
        · obtain ⟨rfl, -⟩ := Prod.mk.inj (Option.some.inj head)
          exact Or.inr ⟨e, List.mem_cons_self, age⟩
        · exact Or.inl head
    · exact Or.inr ⟨e', List.mem_cons_of_mem _ mem, age⟩

theorem foldl_betterCandidate_none {now : Nat} {es : Entries} (h : ∀ e ∈ es, e.age now = none) :
    es.foldl (betterCandidate now) none = none := by
  cases found : es.foldl (betterCandidate now) none with
  | none => rfl
  | some c =>
    rcases foldl_betterCandidate_source now es none c.1 c.2 found with same | ⟨e, mem, age⟩
    · cases same
    · rw [h e mem] at age; cases age

/-- Entries that are all older leave the candidate. -/
theorem foldl_betterCandidate_keeps {now a : Nat} {x : Action} {es : Entries} (h : ∀ e ∈ es, ∀ b, e.age now = some b → a < b) :
    es.foldl (betterCandidate now) (some (a, x)) = some (a, x) := by
  induction es with
  | nil => rfl
  | cons e es ih =>
    have step : betterCandidate now (some (a, x)) e = some (a, x) := by
      unfold betterCandidate
      cases age : e.age now with
      | none => rfl
      | some b => exact if_neg (by have := h e List.mem_cons_self b age; omega)
    rw [List.foldl_cons, step]
    exact ih fun e' mem => h e' (List.mem_cons_of_mem _ mem)

theorem catchUpAction_none {now : Nat} (h : ∀ j e, s.readableSchedule j = some e → e.names r = true → e.age now = none) :
    catchUpAction s.scheduleEntries now r = none := by
  rw [catchUpAction, foldl_betterCandidate_none, Option.map_none]
  intro e he
  obtain ⟨mem, names⟩ := List.mem_filter.1 he
  obtain ⟨j, read⟩ := mem_scheduleEntries.1 mem
  exact h j e read names

theorem catchUpAction_some {now : Nat} {j : ScheduleSlot} {e : ScheduleRec} {a : Nat} (read : s.readableSchedule j = some e)
    (names : e.names r = true) (age : e.age now = some a)
    (youngest : ∀ j' e' a', s.readableSchedule j' = some e' → e'.names r = true → e'.age now = some a' → a < a' ∨ a = a' ∧ j' ≤ j) :
    catchUpAction s.scheduleEntries now r = some e.action := by
  obtain ⟨pre, post, entries, low, high⟩ := scheduleEntries_split read
  have later : ∀ x ∈ post.filter (·.names r), ∀ b, x.age now = some b → a < b := by
    intro x hx b older
    obtain ⟨mem, names'⟩ := List.mem_filter.1 hx
    obtain ⟨j', lt, read'⟩ := high x mem
    rcases youngest j' x b read' names' older with h | ⟨-, le⟩
    · exact h
    · exact absurd lt (not_lt.2 le)
  have taken : betterCandidate now ((pre.filter (·.names r)).foldl (betterCandidate now) none) e = some (a, e.action) := by
    refine betterCandidate_taken age fun b x before => ?_
    rcases foldl_betterCandidate_source now _ none b x before with same | ⟨e', hx, older⟩
    · cases same
    · obtain ⟨mem, names'⟩ := List.mem_filter.1 hx
      obtain ⟨j', -, read'⟩ := low e' mem
      rcases youngest j' e' b read' names' older with h | ⟨h, -⟩ <;> omega
  have named : (e :: post).filter (·.names r) = e :: post.filter (·.names r) := List.filter_cons_of_pos names
  rw [catchUpAction, entries, List.filter_append, named, List.foldl_append, List.foldl_cons, taken,
    foldl_betterCandidate_keeps later]
  rfl

end Deciding

/-! ### An evaluation from its state before to its state after -/

namespace State

/-- An evaluation of the schedule: each ramp's SCHEDULE entry is set as `step` has it, the other entries of the lists and what a
change of a list keeps stand, and SCHEDULE is raised where `raised` holds. -/
structure Evaluated (step : Ramp → Option Action → Option Action) (raised : Prop) (s t : State) : Prop where
  kept : t.kept = s.kept
  sound : ∀ id, (s.health id).check ≠ .oneError → (t.health id).check ≠ .oneError
  hold : ∀ r, (t.planList r).hold = (s.planList r).hold
  command : ∀ r, (t.planList r).command = (s.planList r).command
  schedule : ∀ r, (t.planList r).schedule = step r (s.planList r).schedule
  pending : ∀ p, classIn .schedule (t.port p).pending = true
    ↔ classIn .schedule (s.port p).pending = true ∨ t.delivers .schedule p = true ∧ raised

variable (s : State)

theorem calm_readSchedules : s.Calm s.readSchedules := Calm.each _ _ s fun _ t => calm_useRecord t _
theorem readFrom_readSchedules : s.ReadFrom s.readSchedules := .each _ _ fun _ t => readFrom_useRecord t _
theorem settles_readSchedules : s.Settles s.readSchedules := .each _ _ fun _ t => settles_useRecord t _

theorem aside_schedule : Aside .schedule := ⟨by decide, by decide, by decide, by decide⟩

theorem health_raiseIf (b : Bool) (c : EventClass) (id : RecId) : (s.raiseIf b c).health id = s.health id := by
  unfold health; rw [memory_raiseIf]

theorem planList_raiseIf (b : Bool) (c : EventClass) (r : Ramp) : (s.raiseIf b c).planList r = s.planList r := by
  unfold planList; rw [lists_raiseIf]

theorem kept_setSchedules (f : Ramp → State → State) (hf : ∀ r t, f r t = t ∨ ∃ a, f r t = t.setSchedule r a) :
    (s.each ramps f).kept = s.kept :=
  each_proj State.kept ramps f s fun r t => by
    rcases hf r t with h | ⟨a, h⟩
    · rw [h]
    · rw [h]; exact kept_changeList t r _

theorem settles_setSchedules (f : Ramp → State → State) (hf : ∀ r t, f r t = t ∨ ∃ a, f r t = t.setSchedule r a) :
    s.Settles (s.each ramps f) :=
  .each _ _ fun r t => by
    rcases hf r t with h | ⟨a, h⟩
    · rw [h]; exact .refl
    · rw [h]; exact settles_changeList t r _

/-- The entries of a list but for the fallback number, which the change itself decides. -/
def listEntries (t : State) (r : Ramp) : Bool × Option (Action × Originator) × Option Action :=
  ((t.planList r).hold, (t.planList r).command, (t.planList r).schedule)

theorem listEntries_setSchedules (f : Ramp → State → State) (step : Ramp → Option Action → Option Action)
    (hf : ∀ r t, f r t = t ∧ step r (t.planList r).schedule = (t.planList r).schedule
      ∨ f r t = t.setSchedule r (step r (t.planList r).schedule)) (r : Ramp) :
    (s.each ramps f).listEntries r
      = ((s.planList r).hold, (s.planList r).command, step r (s.planList r).schedule) := by
  have all := each_at State.listEntries (fun _ => ()) (fun _ r x => (x.1, x.2.1, step r x.2.2)) f ramps ramps_nodup
    (fun _ _ => rfl)
    (fun r t => by
      rcases hf r t with ⟨h, same⟩ | h
      · rw [h]; unfold listEntries; dsimp only; rw [same]
      · obtain ⟨hold, command, schedule, -⟩ :=
          t.changeList_entries r { t.planList r with schedule := step r (t.planList r).schedule }
        rw [h]; unfold listEntries setSchedule; rw [hold, command, schedule])
    (fun r r' t ne => by
      rcases hf r t with ⟨h, -⟩ | h
      · rw [h]
      · obtain ⟨-, -, -, others⟩ := t.changeList_entries r { t.planList r with schedule := step r (t.planList r).schedule }
        rw [h]; unfold listEntries setSchedule; rw [others r' ne])
    s r
  rw [if_pos (mem_ramps r)] at all
  exact all

/-- An evaluation in the shape of both: the reads, the ramps in turn, SCHEDULE (log 33). -/
theorem evaluated_of_steps (f : Ramp → State → State) (step : Ramp → Option Action → Option Action) (b : Bool)
    (hf : ∀ r t, f r t = t ∧ step r (t.planList r).schedule = (t.planList r).schedule
      ∨ f r t = t.setSchedule r (step r (t.planList r).schedule)) :
    Evaluated step (b = true) s ((s.readSchedules.each ramps f).raiseIf b .schedule) := by
  have sets : ∀ r t, f r t = t ∨ ∃ a, f r t = t.setSchedule r a := fun r t => (hf r t).imp And.left fun h => ⟨_, h⟩
  have calm := calm_readSchedules s
  have read := readFrom_readSchedules s
  have kept := (kept_setSchedules s.readSchedules f sets).trans calm.kept
  have settles := (settles_readSchedules s).trans (settles_setSchedules s.readSchedules f sets)
  have entries := listEntries_setSchedules s.readSchedules f step hf
  generalize s.readSchedules.each ramps f = t at kept settles entries ⊢
  simp only [read.planList] at entries
  unfold listEntries at entries
  refine ⟨?_, fun id h => ?_, fun r => ?_, fun r => ?_, fun r => ?_, fun p => ?_⟩
  · rw [kept_raiseIf]; exact kept
  · rw [health_raiseIf]; exact settles.sound id h
  · rw [planList_raiseIf]; exact (Prod.mk.inj (entries r)).1
  · rw [planList_raiseIf]; exact (Prod.mk.inj (Prod.mk.inj (entries r)).2).1
  · rw [planList_raiseIf]; exact (Prod.mk.inj (Prod.mk.inj (entries r)).2).2
  · rw [pending_raiseIf, settles.pending .schedule aside_schedule p, delivers_raiseIf]
    simp [and_comm]

/-- A minute evaluation (R94, R97). -/
theorem evaluated_minuteEvaluation : Evaluated
    (fun r old => (minuteAction s.scheduleEntries s.retained.clock r).or old)
    (∃ j e, s.readableSchedule j = some e ∧ e.matchesMinute s.retained.clock = true) s s.minuteEvaluation := by
  unfold minuteEvaluation
  dsimp only
  rw [Calm.scheduleEntries (calm_readSchedules s), (readFrom_readSchedules s).retained, ← any_matchesMinute]
  refine evaluated_of_steps s _ _ _ fun r t => ?_
  cases minuteAction s.scheduleEntries s.retained.clock r with
  | none => exact Or.inl ⟨rfl, rfl⟩
  | some a => exact Or.inr rfl

/-- A catch-up evaluation (R95, R96, R97). -/
theorem evaluated_catchUp : Evaluated (fun r _ => catchUpAction s.scheduleEntries s.retained.clock.minuteOfWeek r) True s s.catchUp := by
  have steps := evaluated_of_steps s
    (fun r t => t.setSchedule r (catchUpAction s.scheduleEntries s.retained.clock.minuteOfWeek r))
    (fun r _ => catchUpAction s.scheduleEntries s.retained.clock.minuteOfWeek r) true fun r t => Or.inr rfl
  unfold catchUp
  dsimp only
  rw [Calm.scheduleEntries (calm_readSchedules s), (readFrom_readSchedules s).retained]
  simpa only [raiseIf, if_true] using steps

end State

/-! ### SET_CLOCK -/

section SetClock

variable {s : State} {p : Port} {y mo d h mi sec : Byte}

theorem authority_setClock (hh : s.holder corridorRecord = some p) : Authority p (.setClock 0 y mo d h mi sec) s :=
  fun _ e => Option.some.inj e ▸ hh

end SetClock

theorem clock_of_kept {s t : State} (h : t.kept = s.kept) : t.retained.clock = s.retained.clock
    ∧ t.retained.clockValid = s.retained.clockValid ∧ t.retained.phase = s.retained.phase :=
  ⟨(congrArg (fun x : State => x.retained.clock) h :), (congrArg (fun x : State => x.retained.clockValid) h :),
    (congrArg (fun x : State => x.retained.phase) h :)⟩

/-- An accepted clock, and the catch-up from it (R88). -/
theorem acceptClock_catchesUp (s : State) (n : DateTime) :
    ((s.acceptClock n).retained.clock = n ∧ (s.acceptClock n).retained.clockValid = true ∧ (s.acceptClock n).retained.phase = 0)
      ∧ (∀ r, ((s.acceptClock n).planList r).hold = (s.planList r).hold
        ∧ ((s.acceptClock n).planList r).command = (s.planList r).command
        ∧ ((s.acceptClock n).planList r).schedule = catchUpAction s.scheduleEntries n.minuteOfWeek r)
      ∧ raisedBy .schedule [s.acceptClock n] s (s.acceptClock n) := by
  have evaluated := evaluated_catchUp ({ s with retained := { s.retained with clock := n, clockValid := true, phase := 0 } } : State)
  unfold acceptClock
  generalize ({ s with retained := { s.retained with clock := n, clockValid := true, phase := 0 } } : State).catchUp = t
    at evaluated ⊢
  refine ⟨clock_of_kept evaluated.kept, fun r => ⟨evaluated.hold r, evaluated.command r, evaluated.schedule r⟩, fun p => ?_⟩
  exact (evaluated.pending p).trans (or_congr Iff.rfl (by simp))

/-- Settles O47. -/
theorem setClockCatchesUp : Obligations.SetClockCatchesUp := by
  intro p y mo d h mi sec s n ready held time
  have authority := authority_setClock (y := y) (mo := mo) (d := d) (h := h) (mi := mi) (sec := sec) held
  refine ⟨fun bad => ?_, fun good => ?_⟩
  · refine exec_ownerRefuses rfl ready rfl rfl authority (by decide) ?_
    change (s.arrived p _).setClock y mo d h mi sec = _
    unfold State.setClock
    dsimp only
    rw [← time, if_neg (by rw [bad]; decide)]
  · have taken : (s.arrived p (.setClock 0 y mo d h mi sec)).setClock y mo d h mi sec
        = .done ((s.arrived p (.setClock 0 y mo d h mi sec)).acceptClock n) := by
      unfold State.setClock
      dsimp only
      rw [← time, if_pos good]
    refine ⟨_, exec_done rfl ready (by simp) rfl rfl authority taken, ?_⟩
    have caught := acceptClock_catchesUp (s.arrived p (.setClock 0 y mo d h mi sec)) n
    have start := samePending_arrived s p (.setClock 0 y mo d h mi sec) .schedule
    generalize Req.setClock 0 y mo d h mi sec = q at caught start ⊢
    generalize (s.arrived p q).acceptClock n = t at caught ⊢
    obtain ⟨⟨clock, valid, phase⟩, entries, raised⟩ := caught
    refine ⟨clock, valid, phase, ?_, fun r => ?_⟩
    · refine start.raisedBy_left (SamePending.raisedBy_right (raisedBy_congr raised fun p' => ?_)
        (samePending_answered t p q .done .empty .schedule))
      simp [delivers_answered]
    · obtain ⟨hold, command, schedule⟩ := entries r
      refine ⟨hold, command, fun none_named => ?_, fun j e a read names age youngest => ?_⟩
      · exact schedule.trans (catchUpAction_none none_named)
      · exact schedule.trans (catchUpAction_some read names age youngest)

end Sys2Proof.Machine
end

section
/-! PROOFS. The advance of the clock (R85, R86) and the shift records (R90, R91). -/

namespace Sys2Proof.Machine

open State

namespace State

variable (s : State)

theorem router_setHealth (id : RecId) (h : Health) : (s.setHealth id h).router = s.router := rfl

/-! ### The reads of the shift records -/

theorem calm_readShifts : s.Calm s.readShifts := (calm_useRecord s _).trans (calm_useRecord _ _)
theorem readFrom_readShifts : s.ReadFrom s.readShifts := (readFrom_useRecord s _).trans (readFrom_useRecord _ _)
theorem settles_readShifts : s.Settles s.readShifts := (settles_useRecord s _).trans (settles_useRecord _ _)

theorem delivers_readShifts (c : EventClass) (p : Port) : s.readShifts.delivers c p = s.delivers c p :=
  delivers_congr (s := s) (t := s.readShifts) (by unfold readShifts; simp) (calm_readShifts s).silent c p

theorem check_useRecord_self (id : RecId) (h : s.memory.holds id = true) : ((s.useRecord id).health id).check ≠ .oneError := by
  cases check : (s.health id).check with
  | good => exact check_useRecord s id id (by simp [check])
  | oneError =>
    have corrected : (s.useRecord id).health id = (s.setHealth id { s.health id with check := .good }).health id := by
      unfold useRecord; rw [if_pos h, check]; rfl
    rw [corrected, health_setHealth, if_pos rfl]
    simp
  | twoErrors => exact check_useRecord s id id (by simp [check])

/-- A shift record that is present has no single error after the reads (R159). -/
theorem check_readShifts {i : ShiftSlot} (h : s.memory.shifts.get i ≠ none) : (s.readShifts.health (.shift i)).check ≠ .oneError := by
  have holds : s.memory.holds (.shift i) = true := Option.isSome_iff_ne_none.2 h
  unfold readShifts
  match i with
  | 0 => exact check_useRecord _ _ _ (check_useRecord_self s _ holds)
  | 1 =>
    refine check_useRecord_self _ _ (Option.isSome_iff_ne_none.2 ?_)
    rw [shifts_of_kept (calm_useRecord s (.shift 0)).kept]
    exact h

/-! ### A shift record applied -/

variable {s}

/-- What a shift record applied changes. -/
structure Shifted (i : ShiftSlot) (x : ShiftRec) (s t : State) : Prop where
  retained : t.retained = { s.retained with clock := { s.retained.clock with hour := x.landingHour, minute := 0, second := 0 } }
  shifts : t.memory.shifts = s.memory.shifts.set i (some { x with appliedYear := some s.retained.clock.year })
  safety : t.memory.safety = s.memory.safety
  planList : ∀ r, t.planList r = s.planList r
  readable : t.readableSchedule = s.readableSchedule
  sound : ∀ id, (s.health id).check ≠ .oneError → (t.health id).check ≠ .oneError
  pending : ∀ p, classIn .schedule (t.port p).pending = true
    ↔ classIn .schedule (s.port p).pending = true ∨ s.delivers .schedule p = true

theorem readableSchedule_congr {t : State} (records : t.memory.schedule = s.memory.schedule)
    (health : ∀ j, t.health (.schedule j) = s.health (.schedule j)) : t.readableSchedule = s.readableSchedule := by
  funext j
  unfold readableSchedule damaged ConfigMemory.holds
  rw [records, health]

theorem turn_shift_ne_schedule (i : ShiftSlot) (j : ScheduleSlot) : RecId.turn (.schedule j) ≠ RecId.turn (.shift i) := by
  intro h
  have := congrArg Fin.val h
  simp only [RecId.turn] at this
  omega

theorem shifted_applyShift (i : ShiftSlot) (x : ShiftRec) : Shifted i x s (s.applyShift i x) := by
  unfold applyShift
  dsimp only
  generalize before : ((s.setClockTime _).setShift i _) = u
  have same : u.ports = s.ports ∧ u.router = s.router ∧ u.lists = s.lists ∧ u.memory.health = s.memory.health
    ∧ u.memory.schedule = s.memory.schedule ∧ u.memory.safety = s.memory.safety := by
      rw [← before]; exact ⟨rfl, rfl, rfl, rfl, rfl, rfl⟩
  obtain ⟨ports, router, lists, health, schedule, safety⟩ := same
  refine ⟨?_, ?_, ?_, fun r => ?_, ?_, fun id h => ?_, fun p => ?_⟩
  · rw [retained_raise, ← before]; rfl
  · rw [memory_raise, ← before]; rfl
  · rw [memory_raise]; exact safety
  · unfold State.planList; rw [lists_raise]; exact congrArg (·.get r) lists
  · refine readableSchedule_congr (by rw [memory_raise]; exact schedule) fun j => ?_
    rw [health_raise, health_setHealth, if_neg (turn_shift_ne_schedule i j)]
    exact congrArg (fun h : Tab 132 Health => h.get (RecId.turn (.schedule j))) health
  · rw [health_raise, health_setHealth]
    split
    · simp
    · unfold State.health at h ⊢; rw [health]; exact h
  · rw [pending_raise]
    have delivered : (u.setHealth (.shift i) { u.health (.shift i) with check := .good }).delivers .schedule p = s.delivers .schedule p :=
      delivers_congr (s := s) (t := u.setHealth (.shift i) { u.health (.shift i) with check := .good }) router
        (fun p => congrArg (fun x => (x.get (portIdx p)).silent) ports) .schedule p
    have port : (u.setHealth (.shift i) { u.health (.shift i) with check := .good }).port p = s.port p :=
      congrArg (·.get (portIdx p)) ports
    rw [delivered, port]
    simp

/-! ### The judgement of the shift records -/

theorem judgeShift_applies {i : ShiftSlot} {x : ShiftRec} (read : s.readableShift i = some x)
    (applies : x.applies s.retained.clock = true) : s.judgeShift i = (s.applyShift i x, some x.direction) := by
  unfold judgeShift; rw [read]; exact if_pos applies

theorem judgeShift_rests {i : ShiftSlot} (h : ∀ x, s.readableShift i = some x → x.applies s.retained.clock = false) :
    s.judgeShift i = (s, none) := by
  unfold judgeShift
  cases read : s.readableShift i with
  | none => rfl
  | some x => exact if_neg (by rw [h x read]; decide)

/-- Record `i` is the one that is applied: it applies, and record 1 before it does not (R90). -/
def Shifts (s : State) (i : ShiftSlot) (x : ShiftRec) : Prop :=
  s.readableShift i = some x ∧ x.applies s.retained.clock = true
    ∧ (i = 0 ∨ ∀ y, s.readableShift 0 = some y → y.applies s.retained.clock = false)

/-- Where a record applies, one is applied: record 1, or record 2 where record 1 does not apply. -/
theorem exists_shifts (h : ¬ ∀ i x, s.readableShift i = some x → x.applies s.retained.clock = false) : ∃ i x, s.Shifts i x := by
  by_cases zero : ∀ y, s.readableShift 0 = some y → y.applies s.retained.clock = false
  · push Not at h
    obtain ⟨i, x, read, applies⟩ := h
    exact ⟨i, x, read, Bool.eq_true_of_not_eq_false applies, Or.inr zero⟩
  · push Not at zero
    obtain ⟨y, read, applies⟩ := zero
    exact ⟨0, y, read, Bool.eq_true_of_not_eq_false applies, Or.inl rfl⟩

theorem judgeShifts_applies {i : ShiftSlot} {x : ShiftRec} (h : s.Shifts i x) :
    s.judgeShifts = (s.readShifts.applyShift i x, some x.direction) := by
  obtain ⟨read, applies, first⟩ := h
  have same := Calm.readableShift (calm_readShifts s)
  have clock : s.readShifts.retained.clock = s.retained.clock := by rw [(readFrom_readShifts s).retained]
  unfold judgeShifts
  match i with
  | 0 => rw [judgeShift_applies ((same 0).trans read) (by rw [clock]; exact applies)]
  | 1 =>
    have rests : ∀ y, s.readShifts.readableShift 0 = some y → y.applies s.readShifts.retained.clock = false := by
      rw [same 0, clock]; exact first.resolve_left (by decide)
    rw [judgeShift_rests rests]
    exact judgeShift_applies ((same 1).trans read) (by rw [clock]; exact applies)

theorem judgeShifts_rests (h : ∀ i x, s.readableShift i = some x → x.applies s.retained.clock = false) :
    s.judgeShifts = (s.readShifts, none) := by
  have rests : ∀ i x, s.readShifts.readableShift i = some x → x.applies s.readShifts.retained.clock = false := fun i => by
    rw [Calm.readableShift (calm_readShifts s), (readFrom_readShifts s).retained]; exact h i
  unfold judgeShifts
  rw [judgeShift_rests (rests 0)]
  exact judgeShift_rests (rests 1)

/-! ### The advance (R85) -/

/-- The state that the evaluation of an advance without a shift starts from: at a full hour the shift records have been read. -/
def hourRead (s : State) : State := if s.retained.clock.minute = 0 then s.readShifts else s

theorem followAdvance_rests (second : s.retained.clock.second = 0)
    (h : s.retained.clock.minute ≠ 0 ∨ ∀ i x, s.readableShift i = some x → x.applies s.retained.clock = false) :
    s.followAdvance = s.hourRead.minuteEvaluation := by
  unfold followAdvance hourRead
  dsimp only
  by_cases full : s.retained.clock.minute = 0
  · rw [if_pos (c := _ ∧ _) ⟨full, second⟩, if_pos full, judgeShifts_rests (h.resolve_left (not_not.2 full)), if_neg (by simp), (readFrom_readShifts s).retained, if_pos second]
  · rw [if_neg (c := _ ∧ _) fun both => full both.1, if_neg full, if_neg (by simp), if_pos second]

theorem followAdvance_shifts {i : ShiftSlot} {x : ShiftRec} (minute : s.retained.clock.minute = 0) (second : s.retained.clock.second = 0)
    (h : s.Shifts i x) : s.followAdvance = if x.direction = .forward then (s.readShifts.applyShift i x).catchUp
      else (s.readShifts.applyShift i x).minuteEvaluation := by
  have landed : (s.readShifts.applyShift i x).retained.clock.second = 0 := by
    rw [(shifted_applyShift (s := s.readShifts) i x).retained]
  unfold followAdvance
  dsimp only
  rw [if_pos (c := _ ∧ _) ⟨minute, second⟩, judgeShifts_applies h, if_pos (c := _ = 0) landed]
  simp only [Option.some.injEq]

/-- What an advance leaves as it was, but for the clock's own date and time. -/
structure Followed (s t : State) : Prop where
  phase : t.retained.phase = s.retained.phase
  valid : t.retained.clockValid = s.retained.clockValid
  safety : t.memory.safety = s.memory.safety
  hold : ∀ r, (t.planList r).hold = (s.planList r).hold
  command : ∀ r, (t.planList r).command = (s.planList r).command
  sound : s.retained.clock.minute = 0 → ∀ i, s.memory.shifts.get i ≠ none → (t.health (.shift i)).check ≠ .oneError

variable {u v : State} {step : Ramp → Option Action → Option Action} {raised : Prop}

theorem followed_readShifts : s.Followed s.readShifts := by
  have read := readFrom_readShifts s
  refine ⟨by rw [read.retained], by rw [read.retained], safety_of_kept (calm_readShifts s).kept, fun r => by rw [read.planList],
    fun r => by rw [read.planList], fun _ i present => check_readShifts s present⟩

theorem followed_hourRead : s.Followed s.hourRead := by
  unfold hourRead
  split
  · exact followed_readShifts
  · rename_i part
    exact ⟨rfl, rfl, rfl, fun _ => rfl, fun _ => rfl, fun full => absurd full part⟩

theorem Followed.shifted {i : ShiftSlot} {x : ShiftRec} (h : s.Followed u) (g : Shifted i x u v) : s.Followed v where
  phase := by rw [g.retained]; exact h.phase
  valid := by rw [g.retained]; exact h.valid
  safety := g.safety.trans h.safety
  hold r := by rw [g.planList]; exact h.hold r
  command r := by rw [g.planList]; exact h.command r
  sound full i present := g.sound _ (h.sound full i present)

theorem Followed.evaluated (h : s.Followed u) (g : Evaluated step raised u v) : s.Followed v where
  phase := (clock_of_kept g.kept).2.2.trans h.phase
  valid := (clock_of_kept g.kept).2.1.trans h.valid
  safety := (safety_of_kept g.kept).trans h.safety
  hold r := (g.hold r).trans (h.hold r)
  command r := (g.command r).trans (h.command r)
  sound full i present := g.sound _ (h.sound full i present)

/-- An advance to a full minute without a shift (R90, R94, R97). -/
theorem followAdvance_minute (second : s.retained.clock.second = 0)
    (h : s.retained.clock.minute ≠ 0 ∨ ∀ i x, s.readableShift i = some x → x.applies s.retained.clock = false) :
    s.Followed s.followAdvance ∧ Evaluated (fun r old => (minuteAction s.scheduleEntries s.retained.clock r).or old)
      (∃ j e, s.readableSchedule j = some e ∧ e.matchesMinute s.retained.clock = true) s.hourRead s.followAdvance := by
  have evaluated := evaluated_minuteEvaluation s.hourRead
  have calm : s.Calm s.hourRead := Calm.ite (calm_readShifts s) (.refl s)
  have retained : s.hourRead.retained = s.retained := by
    unfold hourRead; split
    · exact (readFrom_readShifts s).retained
    · rfl
  rw [Calm.scheduleEntries calm, Calm.readableSchedule calm, retained] at evaluated
  rw [followAdvance_rests second h]
  exact ⟨followed_hourRead.evaluated evaluated, evaluated⟩

/-- An advance to a full hour at which a shift record is applied: the evaluation that follows raises SCHEDULE again, a catch-up always
and a minute evaluation for an entry that matches (R91, R97). -/
theorem followAdvance_shifted {i : ShiftSlot} {x : ShiftRec} (minute : s.retained.clock.minute = 0) (second : s.retained.clock.second = 0)
    (h : s.Shifts i x) : s.Followed s.followAdvance ∧ ∃ u step, Shifted i x s.readShifts u
      ∧ Evaluated step (x.direction = .forward ∨ ∃ j e, s.readableSchedule j = some e ∧ e.matchesMinute u.retained.clock = true)
        u s.followAdvance := by
  have applied := shifted_applyShift (s := s.readShifts) i x
  have caught := evaluated_catchUp (s.readShifts.applyShift i x)
  have minuted := evaluated_minuteEvaluation (s.readShifts.applyShift i x)
  rw [applied.readable, Calm.readableSchedule (calm_readShifts s)] at minuted
  rw [followAdvance_shifts minute second h]
  generalize s.readShifts.applyShift i x = u at applied caught minuted ⊢
  have followed := followed_readShifts.shifted applied
  cases direction : x.direction with
  | forward =>
    simp only [if_true, true_or]
    exact ⟨followed.evaluated caught, u, _, applied, caught⟩
  | back =>
    simp only [reduceCtorEq, if_false, false_or]
    exact ⟨followed.evaluated minuted, u, _, applied, minuted⟩

theorem followed_followAdvance (second : s.retained.clock.second = 0) : s.Followed s.followAdvance := by
  by_cases rests : s.retained.clock.minute ≠ 0 ∨ ∀ i x, s.readableShift i = some x → x.applies s.retained.clock = false
  · exact (followAdvance_minute second rests).1
  · obtain ⟨minute, some_applies⟩ := not_or.1 rests
    obtain ⟨i, x, h⟩ := exists_shifts some_applies
    exact (followAdvance_shifted (not_not.1 minute) second h).1

end State

/-! ### CLOCK_ADVANCE -/

/-- The state at CLOCK_ADVANCE once the clock has gone on by its second. -/
def State.ticked (s : State) : State :=
  { s with retained := { s.retained with clock := s.retained.clock.nextSecond, phase := s.retained.phase - 100 } }

theorem exec_clockAdvance_early {s : State} (h : s.running) (early : s.retained.phase < 100) : exec .clockAdvance s = .next s := by
  refine congrArg Host.Outcome.next ((whenRunning_runs h _).trans ?_)
  exact if_neg (Nat.not_le.2 early)

theorem exec_clockAdvance_due {s : State} (h : s.running) (due : 100 ≤ s.retained.phase) :
    exec .clockAdvance s = .next (if s.retained.clockValid = true then s.ticked.followAdvance else s.ticked) := by
  refine congrArg Host.Outcome.next ((whenRunning_runs h _).trans ?_)
  exact if_pos due

theorem followAdvance_part {s : State} (h : s.retained.clock.second ≠ 0) : s.followAdvance = s := by
  unfold followAdvance
  dsimp only
  rw [if_neg (c := _ ∧ _) fun both => h both.2, if_neg (by simp), if_neg h]

/-- Settles O46. -/
theorem clockAdvanceFollowsTheSchedule : Obligations.ClockAdvanceFollowsTheSchedule := by
  intro s n running next
  refine ⟨exec_clockAdvance_early running, fun due => ?_⟩
  have run := exec_clockAdvance_due running due
  have clock : s.ticked.retained.clock = n := next.symm
  have schedule : s.ticked.readableSchedule = s.readableSchedule := rfl
  have shift : s.ticked.readableShift = s.readableShift := rfl
  refine ⟨fun idle => ?_, fun valid second => ?_⟩
  · rw [run]
    have stays : (if s.retained.clockValid = true then s.ticked.followAdvance else s.ticked) = s.ticked := by
      rcases idle with invalid | part
      · exact if_neg (by rw [invalid]; decide)
      · rw [followAdvance_part (by rw [clock]; exact part), ite_self]
    rw [stays, next]
    rfl
  · rw [if_pos valid] at run
    have second' : s.ticked.retained.clock.second = 0 := by rw [clock]; exact second
    have followed := followed_followAdvance second'
    refine ⟨_, run, followed.phase, followed.valid.trans valid, followed.safety, fun r => ⟨followed.hold r, followed.command r⟩,
      fun i full present => followed.sound (by rw [clock]; exact full) i present, fun i x full read applies first => ?_,
      fun rests => ?_⟩
    · have chosen : s.ticked.Shifts i x := ⟨read, by rw [clock]; exact applies, by rw [clock]; exact first⟩
      obtain ⟨-, u, step, shifted, evaluated⟩ := followAdvance_shifted (by rw [clock]; exact full) second' chosen
      have read := readFrom_readShifts s.ticked
      generalize s.ticked.followAdvance = t at evaluated ⊢
      have landed : t.retained.clock = u.retained.clock := (clock_of_kept evaluated.kept).1
      refine ⟨?_, ?_, fun p => ?_⟩
      · rw [landed, shifted.retained, read.retained, clock]; rfl
      · rw [shifts_of_kept evaluated.kept, shifted.shifts, read.retained, clock, shifts_of_kept (calm_readShifts s.ticked).kept]
        rfl
      · rw [evaluated.pending p, shifted.pending p, delivers_readShifts, landed,
          (settles_readShifts s.ticked).pending .schedule aside_schedule p, or_assoc]
        rfl
    · obtain ⟨-, evaluated⟩ := followAdvance_minute second' (by rw [clock]; exact rests)
      rw [clock] at evaluated
      have read : s.ticked.ReadFrom s.ticked.hourRead := by
        unfold hourRead; split
        · exact readFrom_readShifts _
        · exact .refl
      have calm : s.ticked.Calm s.ticked.hourRead := Calm.ite (calm_readShifts _) (.refl _)
      have settles : s.ticked.Settles s.ticked.hourRead := by
        unfold hourRead; split
        · exact settles_readShifts _
        · exact .refl
      generalize s.ticked.followAdvance = t at evaluated ⊢
      generalize s.ticked.hourRead = u at evaluated read calm settles
      refine ⟨?_, ?_, fun p => ?_, fun r => ⟨fun none_matches => ?_, fun j e read' names now later => ?_⟩⟩
      · rw [(clock_of_kept evaluated.kept).1, read.retained]; exact clock
      · rw [shifts_of_kept evaluated.kept, shifts_of_kept calm.kept]; rfl
      · rw [evaluated.pending p, settles.pending .schedule aside_schedule p]; rfl
      · rw [evaluated.schedule r, minuteAction_none (s := s.ticked) none_matches, read.planList]; rfl
      · rw [evaluated.schedule r, minuteAction_some (s := s.ticked) read' names now later]; rfl

end Sys2Proof.Machine
end

section
/-! PROOFS. The six stored records and the bytes that carry them (R194): each field decodes from the bytes it encodes to and from no
others, and so does each record. -/

namespace Sys2Proof.Machine

/-! ### One field -/

section Fields

variable {a b : Byte} {lo hi n : Nat}

theorem toNat_eq_iff {n : Nat} (h : n < 256) : n = b.toNat ↔ byte1 n = b :=
  ⟨fun e => by rw [e, byte1_toNat], fun e => by rw [← e, toNat_byte1 h]⟩

/-- A field of codes: a value decodes from the byte that carries its code alone. -/
theorem coded_iff {α : Type} {ofCode : Nat → Option α} {code : α → Nat} (decodes : ∀ x, ofCode (code x) = some x)
    (codes : ∀ {m x}, ofCode m = some x → code x = m) (small : ∀ x, code x < 256) {x : α} :
    ofCode b.toNat = some x ↔ byte1 (code x) = b := by
  rw [← toNat_eq_iff (small x)]
  exact ⟨codes, fun e => e ▸ decodes x⟩

theorem role_iff {x : Role} : Role.ofCode b.toNat = some x ↔ byte1 x.code = b :=
  coded_iff ofCode_role role_code fun x => by cases x <;> decide

theorem mode_iff {x : Mode} : Mode.ofCode b.toNat = some x ↔ byte1 x.code = b :=
  coded_iff ofCode_mode mode_code fun x => by cases x <;> decide

theorem yes_iff {x : Bool} : yesOfCode b.toNat = some x ↔ byte1 x.toNat = b :=
  coded_iff ofCode_yes yes_code fun x => by cases x <;> decide

theorem on_iff {x : Bool} : onOfCode b.toNat = some x ↔ byte1 (!x).toNat = b :=
  coded_iff (code := fun x => (!x).toNat) ofCode_on on_code fun x => by cases x <;> decide

theorem direction_iff {x : Direction} : Direction.ofCode b.toNat = some x ↔ byte1 x.code = b :=
  coded_iff ofCode_direction direction_code fun x => by cases x <;> decide

theorem route_iff {x : Route} : Route.ofCode b.toNat = some x ↔ byte1 x.code = b :=
  coded_iff ofCode_route route_code fun x => by cases x <;> decide

theorem edge_iff {x : Edge} : Edge.ofCode b.toNat = some x ↔ byte1 x.code = b :=
  coded_iff ofCode_edge edge_code fun x => by cases x <;> decide

theorem policy_iff {x : RestartPolicy} : RestartPolicy.ofCode b.toNat = some x ↔ byte1 x.code = b :=
  coded_iff ofCode_policy policy_code fun x => by cases x <;> decide

theorem planRef_iff {x : PlanRef} : PlanRef.ofNumber b.toNat = some x ↔ byte1 x.number = b :=
  coded_iff ofNumber_planRef planRef_number fun x => by
    cases x with
    | builtin => decide
    | slot k => exact Nat.lt_of_le_of_lt (Nat.succ_le_of_lt k.isLt) (by decide)

theorem action_iff {x : Action} : Action.ofCode b.toNat = some x ↔ x.code = b :=
  ⟨action_code, fun e => e ▸ ofCode_action x⟩

theorem week_iff {x : Week} : Week.ofCode b.toNat = some x ↔ (∀ n, x = .nth n → 1 ≤ n ∧ n ≤ 4) ∧ byte1 x.code = b := by
  refine ⟨fun h => ⟨fun n hn => ?_, by rw [week_code h, byte1_toNat]⟩, fun ⟨range, e⟩ => ?_⟩
  · subst hn
    unfold Week.ofCode at h
    split at h
    · cases h
    · obtain ⟨m, read, same⟩ := Option.map_eq_some_iff.1 h
      cases same
      exact between_range read
  · have small : x.code < 256 := by
      cases x with
      | nth n => have := range n rfl; simp only [Week.code]; omega
      | last => decide
    rw [← e, toNat_byte1 small]
    exact ofCode_week range

theorem between_iff {m : Nat} : between lo hi n = some m ↔ (lo ≤ m ∧ m ≤ hi) ∧ m = n :=
  ⟨fun h => ⟨between_range h, between_some h⟩, fun ⟨range, e⟩ => e ▸ between_in range⟩

theorem between_byte_iff (small : hi < 256) {m : Nat} : between lo hi b.toNat = some m ↔ (lo ≤ m ∧ m ≤ hi) ∧ byte1 m = b := by
  rw [between_iff]
  exact and_congr_right fun range => toNat_eq_iff (by omega)

/-- A field of two bytes. -/
theorem between_word_iff (small : hi < 65536) {m : Nat} : between lo hi (a.toNat * 256 + b.toNat) = some m
    ↔ (lo ≤ m ∧ m ≤ hi) ∧ bytes2 m = [a, b] := by
  rw [between_iff]
  refine and_congr_right fun range => ⟨fun e => by rw [e, bytes2_word], fun e => ?_⟩
  obtain ⟨high, low⟩ := List.cons_eq_cons.1 e
  have low := List.head_eq_of_cons_eq low
  subst high low
  simp only [BitVec.toNat_ofNat]
  omega

theorem optionally_number_iff (small : n < 255) {x : Option (Fin n)} :
    optionally (indexOf n) b.toNat = some x ↔ (x.map numberByte).getD 0xFF = b :=
  ⟨optional_number_byte, fun e => e ▸ optionally_number small x⟩

theorem optionally_value_iff (small : hi < 255) {x : Option Nat} : optionally (between lo hi) b.toNat = some x
    ↔ (∀ m, x = some m → lo ≤ m ∧ m ≤ hi) ∧ (x.map byte1).getD 0xFF = b := by
  refine ⟨fun h => ⟨fun m hm => ?_, optional_value_byte h⟩, fun ⟨range, e⟩ => e ▸ optionally_value small range⟩
  unfold optionally at h
  split at h
  · rw [hm] at h; cases h
  · obtain ⟨k, read, same⟩ := Option.map_eq_some_iff.1 h
    rw [hm] at same
    exact Option.some.inj same ▸ between_range read

theorem mask_iff {w : Nat} (hw : w ≤ 8) {x : BitVec w} : maskOf w b.toNat = some x ↔ x ≠ 0 ∧ x.setWidth 8 = b := by
  refine ⟨fun h => ⟨?_, mask_byte hw h⟩, fun ⟨member, e⟩ => e ▸ maskOf_byte hw member⟩
  rintro rfl
  have zero := mask_byte hw h
  unfold maskOf at h
  rw [← zero] at h
  simp at h

theorem defaultHolder_iff {x : Option Port} : defaultHolderOf b.toNat = some x ↔ x ≠ some .service ∧ holderByte x = b := by
  refine ⟨fun h => ⟨?_, defaultHolder_byte h⟩, fun ⟨port, e⟩ => e ▸ defaultHolderOf_byte port⟩
  rintro rfl
  unfold defaultHolderOf at h
  split at h <;> cases h

theorem tabAll_iff {α : Type} [Inhabited α] {f : Fin n → Option α} {t : Tab n α} :
    tabAll f = some t ↔ ∀ i, f i = some (t.get i) := by
  refine ⟨fun h i => ?_, tabAll_in⟩
  obtain ⟨rfl, present⟩ := tabAll_some h
  obtain ⟨x, hx⟩ := Option.isSome_iff_exists.1 (present i)
  simp [hx]

end Fields

/-! ### The fields of a record, one after the other -/

section Reading

variable {α β : Type} {f : Option α} {k : α → Option β} {x : β} {a : α} {C P : Prop}

theorem read_first (rest : ∀ b, k b = some x ↔ b = a ∧ P) : (f >>= k) = some x ↔ f = some a ∧ P := by
  refine Option.bind_eq_some_iff.trans ⟨?_, ?_⟩
  · rintro ⟨b, field, more⟩
    obtain ⟨rfl, p⟩ := (rest b).1 more
    exact ⟨field, p⟩
  · rintro ⟨field, p⟩
    exact ⟨a, field, (rest a).2 ⟨rfl, p⟩⟩

theorem read_next (rest : ∀ b, k b = some x ↔ (C ∧ b = a) ∧ P) : (f >>= k) = some x ↔ C ∧ f = some a ∧ P := by
  refine Option.bind_eq_some_iff.trans ⟨?_, ?_⟩
  · rintro ⟨b, field, more⟩
    obtain ⟨⟨c, rfl⟩, p⟩ := (rest b).1 more
    exact ⟨c, field, p⟩
  · rintro ⟨c, field, p⟩
    exact ⟨a, field, (rest a).2 ⟨⟨c, rfl⟩, p⟩⟩

theorem read_last (rest : ∀ b, k b = some x ↔ C ∧ b = a) : (f >>= k) = some x ↔ C ∧ f = some a := by
  have := read_next (f := f) (k := k) (x := x) (a := a) (C := C) (P := True) fun b => (rest b).trans (and_true _).symm.to_iff
  rwa [and_true] at this

end Reading

theorem decodeLoop_iff {bs : List Byte} {x : LoopRec} : decodeLoop bs = some x ↔
    Role.ofCode (byteAt bs 0) = some x.ident.role ∧ optionally (indexOf 6) (byteAt bs 1) = some x.ident.ramp
    ∧ optionally (between 1 5) (byteAt bs 2) = some x.ident.lane ∧ between 30 900 (wordAt bs 3) = some x.stuckOnTime
    ∧ between 1 60 (byteAt bs 5) = some x.silenceTime ∧ between 4 20 (byteAt bs 6) = some x.chatterLimit := by
  refine read_first fun _ => ?_
  iterate 4 refine read_next fun _ => ?_
  refine read_last fun _ => ?_
  obtain ⟨⟨_, _, _⟩, _, _, _⟩ := x
  simp [and_assoc]

theorem decodePlan_iff {bs : List Byte} {x : Plan} : decodePlan bs = some x ↔
    Mode.ofCode (byteAt bs 0) = some x.mode ∧ yesOfCode (byteAt bs 1) = some x.coordinated
    ∧ between 20 600 (wordAt bs 2) = some x.targetOccupancy ∧ between 0 4095 (wordAt bs 4) = some x.feedbackGain
    ∧ between 120 3600 (wordAt bs 6) = some x.fixedRate ∧ between 120 3600 (wordAt bs 8) = some x.startRate
    ∧ between 120 3600 (wordAt bs 10) = some x.rateMinimum ∧ between 120 3600 (wordAt bs 12) = some x.rateMaximum
    ∧ between 1 2 (byteAt bs 14) = some x.vehiclesPerGreen ∧ between 10 60 (byteAt bs 15) = some x.greenTime
    ∧ between 0 250 (byteAt bs 16) = some x.queueKeep ∧ between 1 250 (byteAt bs 17) = some x.queueStorage
    ∧ between 50 1000 (wordAt bs 18) = some x.queueEndThreshold ∧ between 1 20 (byteAt bs 20) = some x.flushPeriods
    ∧ PlanRef.ofNumber (byteAt bs 21) = some x.fallbackPlan := by
  refine read_first fun _ => ?_
  iterate 13 refine read_next fun _ => ?_
  refine read_last fun _ => ?_
  cases x
  simp [and_assoc]

theorem decodeSchedule_iff {bs : List Byte} {x : ScheduleRec} : decodeSchedule bs = some x ↔
    maskOf 7 (byteAt bs 0) = some x.dayMask ∧ between 0 23 (byteAt bs 1) = some x.hour ∧ between 0 59 (byteAt bs 2) = some x.minute
    ∧ maskOf 6 (byteAt bs 3) = some x.rampMask ∧ Action.ofCode (byteAt bs 4) = some x.action := by
  refine read_first fun _ => ?_
  iterate 3 refine read_next fun _ => ?_
  refine read_last fun _ => ?_
  cases x
  simp [and_assoc]

theorem decodeShift_iff {bs : List Byte} {x : ShiftRec} : decodeShift bs = some x ↔
    between 1 12 (byteAt bs 0) = some x.month ∧ Week.ofCode (byteAt bs 1) = some x.week ∧ between 1 7 (byteAt bs 2) = some x.weekday
    ∧ between 1 22 (byteAt bs 3) = some x.hour ∧ Direction.ofCode (byteAt bs 4) = some x.direction
    ∧ optionally (between 0 99) (byteAt bs 5) = some x.appliedYear := by
  refine read_first fun _ => ?_
  iterate 4 refine read_next fun _ => ?_
  refine read_last fun _ => ?_
  cases x
  simp [and_assoc]

theorem decodeSafety_iff {bs : List Byte} {x : SafetyRec} : decodeSafety bs = some x ↔
    between 15 50 (byteAt bs 0) = some x.redMinimum ∧ between 10 30 (byteAt bs 1) = some x.greenMinimum
    ∧ between 10 60 (byteAt bs 2) = some x.greenMaximum ∧ between 120 900 (wordAt bs 3) = some x.rateFloor
    ∧ between 600 3600 (wordAt bs 5) = some x.rateCeiling ∧ between 240 1800 (wordAt bs 7) = some x.safeRate := by
  refine read_first fun _ => ?_
  iterate 4 refine read_next fun _ => ?_
  refine read_last fun _ => ?_
  cases x
  simp [and_assoc]

theorem decodeRoutes_iff {bs : List Byte} {i : Nat} {x : Routes} : decodeRoutes bs i = some x ↔
    Route.ofCode (byteAt bs i) = some x.loopFault ∧ Route.ofCode (byteAt bs (i + 1)) = some x.stationData
    ∧ Route.ofCode (byteAt bs (i + 2)) = some x.rampState ∧ Route.ofCode (byteAt bs (i + 3)) = some x.fallback
    ∧ Route.ofCode (byteAt bs (i + 4)) = some x.incident ∧ Route.ofCode (byteAt bs (i + 5)) = some x.allowance
    ∧ Route.ofCode (byteAt bs (i + 6)) = some x.queue ∧ Route.ofCode (byteAt bs (i + 7)) = some x.memory
    ∧ Route.ofCode (byteAt bs (i + 8)) = some x.schedule ∧ Route.ofCode (byteAt bs (i + 9)) = some x.restart
    ∧ Route.ofCode (byteAt bs (i + 10)) = some x.period := by
  refine read_first fun _ => ?_
  iterate 9 refine read_next fun _ => ?_
  refine read_last fun _ => ?_
  cases x
  simp [and_assoc]

theorem decodeEdges_iff {bs : List Byte} {i : Nat} {x : Edges} : decodeEdges bs i = some x ↔
    Edge.ofCode (byteAt bs i) = some x.loopFault ∧ Edge.ofCode (byteAt bs (i + 1)) = some x.stationData
    ∧ Edge.ofCode (byteAt bs (i + 2)) = some x.fallback ∧ Edge.ofCode (byteAt bs (i + 3)) = some x.allowance
    ∧ Edge.ofCode (byteAt bs (i + 4)) = some x.queue := by
  refine read_first fun _ => ?_
  iterate 3 refine read_next fun _ => ?_
  refine read_last fun _ => ?_
  cases x
  simp [and_assoc]

theorem decodeCorridor_iff {bs : List Byte} {x : CorridorRec} : decodeCorridor bs = some x ↔
    (tabAll fun r : Fin 6 => between 0 2 (byteAt bs r.val)) = some x.laneCount ∧ between 10 120 (byteAt bs 6) = some x.warnTime
    ∧ between 15 300 (wordAt bs 7) = some x.clearanceTime ∧ between 0 4095 (wordAt bs 9) = some x.allowanceGain
    ∧ between 20 600 (wordAt bs 11) = some x.bottleneckTarget ∧ between 0 20000 (wordAt bs 13) = some x.allowanceMinimum
    ∧ between 0 20000 (wordAt bs 15) = some x.allowanceMaximum ∧ between 0 20000 (wordAt bs 17) = some x.startAllowance
    ∧ onOfCode (byteAt bs 19) = some x.coordinationEnable ∧ RestartPolicy.ofCode (byteAt bs 20) = some x.restartPolicy
    ∧ (tabAll fun i : Fin 7 => defaultHolderOf (byteAt bs (21 + i.val))) = some x.defaultHolder
    ∧ (tabAll fun p : Fin 3 => between 10 3600 (wordAt bs (28 + 2 * p.val))) = some x.lapseTime
    ∧ decodeRoutes bs 34 = some x.routes ∧ decodeEdges bs 45 = some x.edges := by
  refine read_first fun _ => ?_
  iterate 12 refine read_next fun _ => ?_
  refine read_last fun _ => ?_
  cases x
  simp [and_assoc]

end Sys2Proof.Machine
end

section
/-! PROOFS. The stored records and their bytes, whole (O12): a record decodes exactly from the bytes it encodes to. -/

namespace Sys2Proof.Machine

/-! ### The bytes from an offset on -/

section Bytes

variable {bs l : List Byte} {i : Nat}

theorem cons_eq_drop {b : Byte} (h : i < bs.length) : b :: l = bs.drop i ↔ b = bs.getD i 0 ∧ l = bs.drop (i + 1) := by
  rw [List.drop_eq_getElem_cons h, List.cons_eq_cons, List.getD_eq_getElem _ _ h]

theorem nil_eq_drop (h : bs.length = i) : [] = bs.drop i ↔ True := by
  rw [List.drop_eq_nil_of_le h.le]; simp

theorem word_eq_drop {n : Nat} (h : i + 1 < bs.length) :
    bytes2 n ++ l = bs.drop i ↔ bytes2 n = [bs.getD i 0, bs.getD (i + 1) 0] ∧ l = bs.drop (i + 2) := by
  unfold bytes2
  rw [List.cons_append, List.cons_append, List.nil_append, cons_eq_drop (by omega), cons_eq_drop h]
  simp [and_assoc]

theorem last_word_eq_drop {n : Nat} (h : i + 2 = bs.length) : bytes2 n = bs.drop i ↔ bytes2 n = [bs.getD i 0, bs.getD (i + 1) 0] := by
  rw [← List.append_nil (bytes2 n), word_eq_drop (by omega), nil_eq_drop h.symm, and_true, List.append_nil]

theorem table_eq_drop {n : Nat} {α : Type} {t : Tab n α} {g : α → Byte} (h : i + n ≤ bs.length) :
    t.list.map g ++ l = bs.drop i ↔ (∀ k : Fin n, g (t.get k) = bs.getD (i + k.val) 0) ∧ l = bs.drop (i + n) := by
  have split : bs.drop i = (bs.drop i).take n ++ bs.drop (i + n) := by
    rw [← List.drop_drop, List.take_append_drop]
  have length : (t.list.map g).length = ((bs.drop i).take n).length := by simp [t.len]; omega
  have entries : t.list.map g = (bs.drop i).take n ↔ ∀ k : Fin n, g (t.get k) = bs.getD (i + k.val) 0 := by
    have entry (k : Nat) (hk : k < n) : ((bs.drop i).take n)[k]'(by simp; omega) = bs.getD (i + k) 0 := by
      rw [List.getElem_take, List.getElem_drop, List.getD_eq_getElem _ _ (by omega)]
    refine ⟨fun e k => ?_, fun e => List.ext_getElem length fun k hk hk' => ?_⟩
    · have := List.getElem_of_eq e (i := k.val) (by simp [t.len])
      rwa [List.getElem_map, entry k.val k.isLt] at this
    · have lt : k < n := by simpa [t.len] using hk
      rw [List.getElem_map, entry k lt]
      exact e ⟨k, lt⟩
  rw [← entries]
  refine ⟨fun e => List.append_inj (e.trans split) length, fun ⟨first, rest⟩ => ?_⟩
  rw [first, rest, ← split]

theorem list_three {α : Type} (t : Tab 3 α) : t.list = [t.get 0, t.get 1, t.get 2] :=
  List.ext_getElem t.len fun k hk hk' => by
    match k, hk' with
    | 0, _ => rfl
    | 1, _ => rfl
    | 2, _ => rfl

theorem words_eq_drop {t : Tab 3 Nat} (h : i + 6 ≤ bs.length) : t.list.flatMap bytes2 ++ l = bs.drop i
    ↔ (∀ p : Fin 3, bytes2 (t.get p) = [bs.getD (i + 2 * p.val) 0, bs.getD (i + 2 * p.val + 1) 0]) ∧ l = bs.drop (i + 6) := by
  rw [list_three, List.flatMap_cons, List.flatMap_cons, List.flatMap_singleton, List.append_assoc, List.append_assoc,
    word_eq_drop (by omega), word_eq_drop (by omega), word_eq_drop (by omega)]
  simp [Fin.forall_fin_succ, and_assoc]

end Bytes

/-! ### The six records -/

/-- The form of O12 from the two facts it says: a record has the bytes of its form, and decodes from the bytes it encodes to and from
no others. -/
theorem carriesRecord_of_iff {α : Type} {n : Nat} {inRange : α → Prop} {encode : α → List Byte} {decode : List Byte → Option α}
    (length : ∀ x, (encode x).length = n)
    (carries : ∀ bs x, bs.length = n → (decode bs = some x ↔ inRange x ∧ encode x = bs)) : carriesRecord n inRange encode decode := by
  refine ⟨fun x range => ⟨length x, (carries _ x (length x)).2 ⟨range, rfl⟩⟩, fun bs hbs => ⟨fun x => (carries bs x hbs).1, fun h => ?_⟩⟩
  cases found : decode bs with
  | none => rfl
  | some x =>
    obtain ⟨range, same⟩ := (carries bs x hbs).1 found
    exact absurd same (h x range)

theorem one_or_two {n : Nat} : 1 ≤ n ∧ n ≤ 2 ↔ n = 1 ∨ n = 2 := by omega

section Records

variable {bs : List Byte}

theorem loop_carries {x : LoopRec} (h : bs.length = 7) : decodeLoop bs = some x ↔ x.inRange ∧ encodeLoop x = bs := by
  have bytes : encodeLoop x = bs ↔ encodeLoop x = bs.drop 0 := Iff.rfl
  rw [decodeLoop_iff, bytes]
  unfold encodeLoop LoopRec.inRange
  simp only [List.cons_append, List.nil_append, byteAt, wordAt, role_iff, optionally_number_iff, optionally_value_iff, between_byte_iff,
    between_word_iff, Nat.reduceLT, h, cons_eq_drop, word_eq_drop, nil_eq_drop, Nat.reduceAdd]
  tauto

theorem plan_carries {x : Plan} (h : bs.length = 22) : decodePlan bs = some x ↔ x.inRange ∧ encodePlan x = bs := by
  have bytes : encodePlan x = bs ↔ encodePlan x = bs.drop 0 := Iff.rfl
  rw [decodePlan_iff, bytes]
  unfold encodePlan Plan.inRange
  simp only [List.append_assoc, List.cons_append, List.nil_append, byteAt, wordAt, mode_iff, yes_iff, planRef_iff, between_byte_iff,
    between_word_iff, Nat.reduceLT, h, cons_eq_drop, word_eq_drop, nil_eq_drop, Nat.reduceAdd, Nat.zero_le, true_and, one_or_two]
  tauto

theorem schedule_carries {x : ScheduleRec} (h : bs.length = 5) : decodeSchedule bs = some x ↔ x.inRange ∧ encodeSchedule x = bs := by
  have bytes : encodeSchedule x = bs ↔ encodeSchedule x = bs.drop 0 := Iff.rfl
  rw [decodeSchedule_iff, bytes]
  unfold encodeSchedule ScheduleRec.inRange
  simp only [byteAt, mask_iff, action_iff, between_byte_iff, Nat.reduceLT, Nat.reduceLeDiff, h, cons_eq_drop, nil_eq_drop, Nat.reduceAdd,
    Nat.zero_le, true_and]
  tauto

theorem shift_carries {x : ShiftRec} (h : bs.length = 6) : decodeShift bs = some x ↔ x.inRange ∧ encodeShift x = bs := by
  have bytes : encodeShift x = bs ↔ encodeShift x = bs.drop 0 := Iff.rfl
  rw [decodeShift_iff, bytes]
  unfold encodeShift ShiftRec.inRange
  simp only [byteAt, week_iff, direction_iff, optionally_value_iff, between_byte_iff, Nat.reduceLT, h, cons_eq_drop, nil_eq_drop,
    Nat.reduceAdd, Nat.zero_le, true_and]
  tauto

theorem safety_carries {x : SafetyRec} (h : bs.length = 9) : decodeSafety bs = some x ↔ x.inRange ∧ encodeSafety x = bs := by
  have bytes : encodeSafety x = bs ↔ encodeSafety x = bs.drop 0 := Iff.rfl
  rw [decodeSafety_iff, bytes]
  unfold encodeSafety SafetyRec.inRange
  simp only [List.append_assoc, List.cons_append, List.nil_append, byteAt, wordAt, between_byte_iff, between_word_iff, Nat.reduceLT, h,
    cons_eq_drop, word_eq_drop, last_word_eq_drop, Nat.reduceAdd]
  tauto

theorem corridor_carries {x : CorridorRec} (h : bs.length = 50) : decodeCorridor bs = some x ↔ x.inRange ∧ encodeCorridor x = bs := by
  have bytes : encodeCorridor x = bs ↔ encodeCorridor x = bs.drop 0 := Iff.rfl
  rw [decodeCorridor_iff, bytes]
  unfold encodeCorridor CorridorRec.inRange
  simp only [List.append_assoc, List.cons_append, List.nil_append, byteAt, wordAt, on_iff, policy_iff, defaultHolder_iff, tabAll_iff,
    between_byte_iff, between_word_iff, decodeRoutes_iff, decodeEdges_iff, route_iff, edge_iff, encodeRoutes, encodeEdges, List.map_cons,
    List.map_nil, Nat.reduceLT, Nat.reduceLeDiff, h, cons_eq_drop, word_eq_drop, table_eq_drop, words_eq_drop, nil_eq_drop,
    Nat.reduceAdd, Nat.zero_add, Nat.zero_le, true_and, and_true, forall_and]
  exact iff_of_eq (by ac_rfl)

end Records

theorem length_encodeCorridor (x : CorridorRec) : (encodeCorridor x).length = 50 := by
  simp [encodeCorridor, encodeRoutes, encodeEdges, bytes2, list_three, Tab.len]

/-- Settles O12. -/
theorem recordsKeepTheirBytes : Obligations.RecordsKeepTheirBytes :=
  ⟨carriesRecord_of_iff (fun _ => rfl) fun _ _ => loop_carries, carriesRecord_of_iff (fun _ => rfl) fun _ _ => plan_carries,
    carriesRecord_of_iff (fun _ => rfl) fun _ _ => schedule_carries, carriesRecord_of_iff (fun _ => rfl) fun _ _ => shift_carries,
    carriesRecord_of_iff (fun _ => rfl) fun _ _ => safety_carries, carriesRecord_of_iff length_encodeCorridor fun _ _ => corridor_carries⟩

end Sys2Proof.Machine
end

section
/-! PROOFS. The reads at the start of a period close (R10, R22): what the judgements of the last sample, the close read of the loop
records and the use of the corridor settings leave of the state before. -/

namespace Sys2Proof.Machine

open State

namespace Loop

/-- What a loop counts for its period, with its identity. -/
def tally (l : Loop) : Option Identity × Nat × Nat × Bool × Bool × Bool :=
  (l.ident, l.onSamples, l.count, l.notOkSeen, l.rewritten, l.testSeen)

theorem value_of_tally {l l' : Loop} (h : l'.tally = l.tally) : l'.value = l.value := by
  simp only [tally, Prod.mk.injEq] at h
  obtain ⟨ident, on, count, notOk, rewritten, test⟩ := h
  simp only [value, valid, ident, on, count, notOk, rewritten, test]

theorem tally_enterStuck (x : LoopRec) (l : Loop) : (l.enterStuck x).tally = l.tally := by
  unfold enterStuck; split <;> rfl
theorem tally_clearStuck (l : Loop) : l.clearStuck.tally = l.tally := by
  unfold clearStuck; split <;> rfl
theorem tally_enterSilence (x : LoopRec) (l : Loop) : (l.enterSilence x).tally = l.tally := by
  unfold enterSilence; split <;> rfl
theorem tally_judgeSecond (x : LoopRec) (l : Loop) : (l.judgeSecond x).tally = l.tally := by
  rw [judgeSecond_frame]; rfl

/-- The period of a loop starts again: its accumulators and marks are clear and its last closed period is `v` (R10). -/
structure StartsAnew (v : PeriodValue) (l : Loop) : Prop where
  last : l.last = some v
  onSamples : l.onSamples = 0
  count : l.count = 0
  notOkSeen : l.notOkSeen = false
  rewritten : l.rewritten = false
  testSeen : l.testSeen = false

end Loop

namespace State

/-- What the stages of a close read of configuration memory. -/
def readings (s : State) : CorridorRec × SafetyRec × (PlanSlot → Option Plan) := (s.corridorInUse, s.safetyInUse, s.readablePlan)

theorem readings_of_memory {s t : State} (h : t.memory = s.memory) : t.readings = s.readings := by
  unfold readings corridorInUse safetyInUse
  rw [damaged_of_memory h, damaged_of_memory h, h]
  congr 2
  funext k
  unfold readablePlan
  rw [damaged_of_memory h, h]

theorem readings_of_calm {s t : State} (h : s.Calm t) : t.readings = s.readings := by
  unfold readings
  rw [h.corridorInUse, h.safetyInUse, funext h.readablePlan]

/-- `t` with its loops, its ports and the mark that a second is due set back to what they are in `s`. -/
def loopsBack (s t : State) : State :=
  { t with loops := s.loops, ports := s.ports, timer := { t.timer with secondDue := s.timer.secondDue } }

/-- From `s` to `t` nothing has changed but loops, ports, the health of records and the mark that a second is due. -/
structure InLoops (s t : State) : Prop where
  frame : ({ s.loopsBack t with memory := s.memory } : State) = s
  readings : t.readings = s.readings
  pinned : t.pinned = s.pinned

namespace InLoops

variable {s t u : State}

theorem refl : s.InLoops s := ⟨rfl, rfl, rfl⟩

theorem trans (h : s.InLoops t) (g : t.InLoops u) : s.InLoops u :=
  ⟨(congrArg (fun v : State => ({ s.loopsBack v with memory := s.memory } : State)) g.frame).trans h.frame,
    g.readings.trans h.readings, g.pinned.trans h.pinned⟩

theorem each {ι : Type} (xs : List ι) (f : ι → State → State) (step : ∀ x (t : State), t.InLoops (f x t)) : s.InLoops (s.each xs f) :=
  each_induct (P := s.InLoops) xs f refl fun x t h => h.trans (step x t)

theorem of_frame (frame : s.loopsBack t = s) : s.InLoops t := by
  have memory : t.memory = s.memory := (congrArg State.memory frame :)
  exact ⟨(congrArg (fun v : State => ({ v with memory := s.memory } : State)) frame :), readings_of_memory memory,
    (congrArg State.pinned frame :)⟩

theorem sequencers (h : s.InLoops t) : t.sequencers = s.sequencers := (congrArg State.sequencers h.frame :)
theorem lists (h : s.InLoops t) : t.lists = s.lists := (congrArg State.lists h.frame :)
theorem measure (h : s.InLoops t) : t.measure = s.measure := (congrArg State.measure h.frame :)
theorem corridorMeasure (h : s.InLoops t) : t.corridorMeasure = s.corridorMeasure := (congrArg State.corridorMeasure h.frame :)
theorem corridorRate (h : s.InLoops t) : t.corridorRate = s.corridorRate := (congrArg State.corridorRate h.frame :)
theorem retained (h : s.InLoops t) : t.retained = s.retained := (congrArg State.retained h.frame :)
theorem supply (h : s.InLoops t) : t.supply = s.supply := (congrArg State.supply h.frame :)
theorem timer (h : s.InLoops t) : { t.timer with secondDue := s.timer.secondDue } = s.timer := (congrArg State.timer h.frame :)

end InLoops

variable (s : State) (i : LoopNo)

theorem inLoops_setLoop (l : Loop) : s.InLoops (s.setLoop i l) := .of_frame rfl

theorem inLoops_putLoop (l : Loop) : s.InLoops (s.putLoop i l) := by
  refine .of_frame ?_
  have frame := putLoop_frame s i l
  have timer := timer_putLoop s i l
  generalize s.putLoop i l = t at frame timer ⊢
  unfold loopsBack
  rw [← timer]
  exact frame

theorem inLoops_rejudge (f : Loop → Loop) : s.InLoops (s.rejudge i f) := inLoops_putLoop s i _

/-- A use of a record changes its health and the memory events pending at the ports. -/
theorem useRecord_frame (id : RecId) : ({ s.useRecord id with memory := s.memory, ports := s.ports } : State) = s := by
  unfold useRecord
  split
  · cases (s.health id).check with
    | good => rfl
    | oneError => rfl
    | twoErrors =>
      dsimp only
      split
      · rfl
      · unfold discover
        dsimp only
        rw [raise_ports_only]
        split <;> rfl
  · rfl

theorem inLoops_useRecord (id : RecId) : s.InLoops (s.useRecord id) := by
  have frame := useRecord_frame s id
  have readings := readings_of_calm (calm_useRecord s id)
  have pinned := pinned_of_kept (kept_useRecord s id)
  generalize s.useRecord id = t at frame readings pinned
  exact ⟨(congrArg (fun t : State => ({ s.loopsBack t with memory := s.memory } : State)) frame :), readings, pinned⟩

theorem inLoops_useLoop : s.InLoops (s.useLoop i) := by
  have read := inLoops_useRecord s (.loop i)
  unfold useLoop loseConfig
  dsimp only
  generalize s.useRecord (.loop i) = t at read ⊢
  split
  · split
    · exact read
    · exact read.trans (inLoops_putLoop t i _)
  · exact read

theorem inLoops_chatterSecondJudgement : s.InLoops s.chatterSecondJudgement := by
  unfold chatterSecondJudgement
  split
  · exact (InLoops.of_frame (s := s) (t := { s with timer := { s.timer with secondDue := false } }) rfl).trans
      (.each _ _ fun i t => inLoops_rejudge t i _)
  · exact .refl

/-- The judgements of one loop that its latest sample has made due (R12, R13, R8). -/
def settleLoop (i : LoopNo) (t : State) : State := (((t.stuckOnEntry i).stuckOnClear i).silenceEntry i).testPresenceEnd i

theorem inLoops_settleLoop : s.InLoops (s.settleLoop i) := by
  have entry (t : State) : t.InLoops (t.stuckOnEntry i) := by
    unfold stuckOnEntry; split
    · exact inLoops_rejudge t i _
    · exact .refl
  have clear (t : State) : t.InLoops (t.stuckOnClear i) := by
    unfold stuckOnClear; split
    · exact inLoops_rejudge t i _
    · exact .refl
  have silence (t : State) : t.InLoops (t.silenceEntry i) := by
    unfold silenceEntry; split
    · exact inLoops_rejudge t i _
    · exact .refl
  have test (t : State) : t.InLoops (t.testPresenceEnd i) := by
    unfold testPresenceEnd; dsimp only; split
    · exact inLoops_setLoop t i _
    · exact .refl
  exact (((entry s).trans (clear _)).trans (silence _)).trans (test _)

theorem inLoops_settleLoops : s.InLoops s.settleLoops :=
  (InLoops.each loopNos settleLoop fun i t => inLoops_settleLoop t i).trans (inLoops_chatterSecondJudgement _)

theorem inLoops_closeLoops : s.InLoops s.closeLoops := by
  unfold closeLoops
  exact (InLoops.each loopNos _ fun i t => inLoops_setLoop t i _).trans (.each loopNos useLoop fun i t => inLoops_useLoop t i)

/-! ### The values of the period -/

/-- A judgement that leaves the tally of its own loop leaves that of every loop. -/
theorem tally_rejudge {f : Loop → Loop} (h : (f (s.loop i)).tally = (s.loop i).tally) (j : LoopNo) :
    ((s.rejudge i f).loop j).tally = (s.loop j).tally := by
  by_cases e : j = i
  · subst e
    rw [loop_rejudge_self]
    exact h
  · rw [loop_rejudge_ne s f e]

theorem tally_settleLoop (j : LoopNo) : ((s.settleLoop i).loop j).tally = (s.loop j).tally := by
  have entry (t : State) : ((t.stuckOnEntry i).loop j).tally = (t.loop j).tally := by
    unfold stuckOnEntry; split
    · exact tally_rejudge t i (Loop.tally_enterStuck _ _) j
    · rfl
  have clear (t : State) : ((t.stuckOnClear i).loop j).tally = (t.loop j).tally := by
    unfold stuckOnClear; split
    · exact tally_rejudge t i (Loop.tally_clearStuck _) j
    · rfl
  have silence (t : State) : ((t.silenceEntry i).loop j).tally = (t.loop j).tally := by
    unfold silenceEntry; split
    · exact tally_rejudge t i (Loop.tally_enterSilence _ _) j
    · rfl
  have test (t : State) : ((t.testPresenceEnd i).loop j).tally = (t.loop j).tally := by
    unfold testPresenceEnd; dsimp only; split
    · by_cases e : j = i
      · subst e; rw [loop_setLoop_self]; rfl
      · rw [loop_setLoop_ne t e]
    · rfl
  unfold settleLoop
  rw [test, silence, clear, entry]

/-- The judgements of the last sample leave every period value (R10). -/
theorem value_settleLoops (j : LoopNo) : (s.settleLoops.loop j).value = (s.loop j).value := by
  refine Loop.value_of_tally ?_
  have judged : ((s.each loopNos settleLoop).loop j).tally = (s.loop j).tally :=
    each_proj (fun t => (t.loop j).tally) loopNos settleLoop s fun i t => tally_settleLoop t i j
  change ((s.each loopNos settleLoop).chatterSecondJudgement.loop j).tally = _
  rw [← judged]
  generalize s.each loopNos settleLoop = t
  unfold chatterSecondJudgement
  split
  · exact each_proj (fun t => (t.loop j).tally) loopNos _ _ fun i t => tally_rejudge t i (Loop.tally_judgeSecond _ _) j
  · rfl

theorem values_settleLoops : s.settleLoops.loops.map Loop.value = s.loops.map Loop.value :=
  Tab.ext_get fun i => by rw [Tab.get_map, Tab.get_map]; exact value_settleLoops s i

/-- A close read leaves the accumulators of every loop. -/
theorem startsAnew_useLoop {j : LoopNo} {v : PeriodValue} (h : (s.loop j).StartsAnew v) : ((s.useLoop i).loop j).StartsAnew v := by
  have read : (s.useRecord (.loop i)).loops = s.loops := (congrArg (fun t : State => t.loops) (readFrom_useRecord s (.loop i)) :)
  have kept : ((s.useRecord (.loop i)).loop j).StartsAnew v := by unfold loop; rw [read]; exact h
  unfold useLoop loseConfig
  dsimp only
  generalize s.useRecord (.loop i) = t at kept ⊢
  split
  · split
    · exact kept
    · by_cases e : j = i
      · subst e
        rw [loop_putLoop_self]
        exact ⟨kept.last, kept.onSamples, kept.count, kept.notOkSeen, kept.rewritten, kept.testSeen⟩
      · rw [loop_putLoop_ne t _ e]; exact kept
  · exact kept

/-- After the reads of phase 1 every loop's period value is its last closed period, and its accumulators start again (R10). -/
theorem startsAnew_closeLoops (j : LoopNo) : (s.closeLoops.loop j).StartsAnew (s.loop j).value := by
  have closed := each_at (fun t j => t.loop j) (fun _ => ()) (fun _ _ l => l.closed) (fun i t => t.setLoop i (t.loop i).closed) loopNos
    loopNos_nodup (fun _ _ => rfl) (fun i t => loop_setLoop_self t i _) (fun i j t e => loop_setLoop_ne t e _) s j
  rw [if_pos (mem_loopNos j)] at closed
  unfold closeLoops
  dsimp only
  refine each_induct (P := fun t => (t.loop j).StartsAnew (s.loop j).value) loopNos useLoop ?_ fun i t h => startsAnew_useLoop t i h
  rw [closed]
  exact ⟨rfl, rfl, rfl, rfl, rfl, rfl⟩

end State

end Sys2Proof.Machine
end

section
/-! PROOFS. The phases of a period close (R22), each as what it leaves of the state before it. -/

namespace Sys2Proof.Machine

open State

section ReportedCounts

variable {cs : CorridorRec} {i : Bool} {d : Option PlanRef} {n : Nat} {q : Sequencer}

/-- A Lane Count report leaves the greens given and the Last Vehicles Per Green (R104). -/
theorem reported_keeps_greens : (q.reported cs i d n).greens = q.greens ∧ (q.reported cs i d n).lastVehicles = q.lastVehicles := by
  have fromOff (q : Sequencer) : (q.fromOff cs d).greens = q.greens ∧ (q.fromOff cs d).lastVehicles = q.lastVehicles := by
    unfold Sequencer.fromOff Sequencer.warned
    split
    · exact ⟨rfl, rfl⟩
    · split <;> exact ⟨rfl, rfl⟩
  unfold Sequencer.reported
  cases q.state with
  | off => exact ⟨rfl, rfl⟩
  | darkFault => exact ⟨rfl, rfl⟩
  | unconfigured =>
    dsimp only; split
    · exact ⟨rfl, rfl⟩
    · exact fromOff _
  | warning =>
    dsimp only; split
    · exact ⟨rfl, rfl⟩
    · exact fromOff _
  | metering =>
    dsimp only; split
    · exact ⟨rfl, rfl⟩
    · split <;> exact ⟨rfl, rfl⟩
  | ending => exact ⟨rfl, rfl⟩

end ReportedCounts

namespace State

variable (s : State)

/-! ### The reads of phases 1 and 2 -/

/-- The state of a close after its reads. -/
def closeRead (s : State) : State := s.settleLoops.closeLoops.useCorridor

theorem readings_useCorridor : s.useCorridor.readings = s.readings := by
  have handed := readings_of_memory (handCorridor_spec s none s.corridorInUse).2.2.1
  have read := readings_of_calm (calm_useRecord (s.handCorridor none s.corridorInUse) .corridorSettings)
  have reported := readings_of_memory (beside_reports s.takeCorridor).memory
  exact reported.trans (read.trans handed)

theorem measure_useCorridor : s.useCorridor.measure = s.measure :=
  (beside_reports s.takeCorridor).measure.trans (readFrom_takeCorridor s).measure

theorem loops_useCorridor : s.useCorridor.loops = s.loops :=
  (beside_reports s.takeCorridor).loops.trans (congrArg State.loops (readFrom_takeCorridor s) :)

/-- What the reads of a close leave of the state before (R10, R22, R104). -/
structure CloseRead (s u : State) : Prop where
  lists : u.lists = s.lists
  measure : u.measure = s.measure
  corridorMeasure : u.corridorMeasure = s.corridorMeasure
  corridorRate : u.corridorRate = s.corridorRate
  stamp : u.stamp = s.stamp
  pinned : u.pinned = s.pinned
  timer : { u.timer with secondDue := s.timer.secondDue } = s.timer
  corridor : u.corridorInUse = s.corridorInUse
  readable : u.readablePlan = s.readablePlan
  routes : u.router.routes = s.corridorInUse.routes
  loop : ∀ i, (u.loop i).StartsAnew (s.loop i).value
  seq : ∀ r, u.seq r = (s.seq r).reported s.corridorInUse s.supply.input (s.planList r).demanded (s.corridorInUse.laneCount.get r)

theorem closeRead_reads : s.CloseRead s.closeRead := by
  have loops := (inLoops_settleLoops s).trans (inLoops_closeLoops _)
  have anew (i : LoopNo) := value_settleLoops s i ▸ startsAnew_closeLoops s.settleLoops i
  unfold closeRead
  generalize s.settleLoops.closeLoops = t at loops anew
  have kept := kept_useCorridor t
  have readings := (readings_useCorridor t).trans loops.readings
  have settings : t.corridorInUse = s.corridorInUse := (congrArg (fun x => x.1) loops.readings :)
  have router := router_useCorridor t
  have seq := seq_useCorridor t
  have measure := measure_useCorridor t
  have lists := lists_useCorridor t
  have stored := loops_useCorridor t
  generalize t.useCorridor = u at kept readings router seq measure lists stored
  have clock := clock_of_kept kept
  have timer : u.timer = t.timer := (congrArg State.timer kept :)
  have measures : u.corridorMeasure = t.corridorMeasure := (congrArg State.corridorMeasure kept :)
  have rates : u.corridorRate = t.corridorRate := (congrArg State.corridorRate kept :)
  refine ⟨lists.trans loops.lists, measure.trans loops.measure, ?_, ?_, ?_, (pinned_of_kept kept).trans loops.pinned, ?_, (congrArg (fun x => x.1) readings :),
    (congrArg (fun x => x.2.2) readings :), ?_, fun i => ?_, fun r => ?_⟩
  · exact measures.trans loops.corridorMeasure
  · exact rates.trans loops.corridorRate
  · unfold stamp; rw [clock.1, clock.2.1, loops.retained]
  · rw [timer]; exact loops.timer
  · rw [router, settings]
  · unfold State.loop; rw [stored]; exact anew i
  · rw [seq r, settings, loops.supply]
    unfold State.planList State.seq
    rw [loops.lists, loops.sequencers]

namespace CloseRead

variable {s} {u : State}

theorem planList (h : s.CloseRead u) (r : Ramp) : u.planList r = s.planList r := congrArg (fun x : Tab 6 PlanList => x.get r) h.lists

theorem meas (h : s.CloseRead u) (r : Ramp) : u.meas r = s.meas r := by unfold State.meas; rw [h.measure]

theorem greens (h : s.CloseRead u) (r : Ramp) : (u.seq r).greens = (s.seq r).greens := by
  rw [h.seq]; exact reported_keeps_greens.1

theorem lastVehicles (h : s.CloseRead u) (r : Ramp) : (u.seq r).lastVehicles = (s.seq r).lastVehicles := by
  rw [h.seq]; exact reported_keeps_greens.2

theorem stays_metering (h : s.CloseRead u) {r : Ramp} (metering : (s.seq r).state = .metering)
    (count : (s.seq r).laneCount = s.closeLanes r) : (u.seq r).state = .metering := by
  rw [h.seq, reported_same (n := s.corridorInUse.laneCount.get r) (Or.inr (Or.inl metering)) count.symm]; exact metering

theorem number (h : s.CloseRead u) : u.timer.number = s.timer.number := (congrArg PeriodTimer.number h.timer :)
theorem scrubCount (h : s.CloseRead u) : u.timer.scrubCount = s.timer.scrubCount := (congrArg PeriodTimer.scrubCount h.timer :)

end CloseRead

/-! ### Phases 2 and 3: the station results and stage 1 -/

variable (v : CloseView)

/-- The state of a close after stage 1 (R41). -/
def closeJudged : State := (s.closeStations v).closeRunnability v

/-- The FALLBACK entry of a metering ramp after stage 1 (R43, R44). -/
def runListed (s : State) (r : Ramp) (merge : Option Nat) : PlanList :=
  match (s.planList r).governingPlan with
  | none => s.planList r
  | some k => { s.planList r with fallback := if s.canRun k merge then none else some (s.fallbackFor k merge) }

theorem canRun_congr {s t : State} (h : t.readablePlan = s.readablePlan) (k : PlanSlot) (merge : Option Nat) :
    t.canRun k merge = s.canRun k merge := by
  unfold canRun; rw [h]

theorem fallbackFor_congr {s t : State} (h : t.readablePlan = s.readablePlan) (k : PlanSlot) (merge : Option Nat) :
    t.fallbackFor k merge = s.fallbackFor k merge := by
  unfold fallbackFor
  rw [h]
  cases s.readablePlan k with
  | none => rfl
  | some p =>
    dsimp only
    cases p.fallbackPlan with
    | builtin => rfl
    | slot j => dsimp only; rw [canRun_congr h]

/-- From `s` to `t` nothing has changed but the health of records, lists and the memory events at the ports. -/
structure StageOne (s t : State) : Prop where
  calm : s.Calm t
  frame : ({ t with memory := s.memory, ports := s.ports, lists := s.lists } : State) = s
  pending : ∀ c, c ≠ .memory → SamePending c s t

namespace StageOne

variable {s t u : State}

theorem refl : s.StageOne s := ⟨.refl s, rfl, fun _ _ => .refl⟩

theorem trans (h : s.StageOne t) (g : t.StageOne u) : s.StageOne u :=
  ⟨h.calm.trans g.calm, (congrArg (fun v : State => ({ v with memory := s.memory, ports := s.ports, lists := s.lists } : State))
    g.frame).trans h.frame, fun c ne => (h.pending c ne).trans (g.pending c ne)⟩

theorem each {ι : Type} (xs : List ι) (f : ι → State → State) (step : ∀ x (t : State), t.StageOne (f x t)) : s.StageOne (s.each xs f) :=
  each_induct (P := s.StageOne) xs f refl fun x t h => h.trans (step x t)

end StageOne

theorem stageOne_useRecord (id : RecId) : s.StageOne (s.useRecord id) := by
  have frame := useRecord_frame s id
  have calm := calm_useRecord s id
  have pending := fun c (ne : c ≠ EventClass.memory) => samePending_useRecord s ne id
  generalize s.useRecord id = t at frame calm pending
  exact ⟨calm, (congrArg (fun t : State => ({ t with lists := s.lists } : State)) frame :), pending⟩

theorem stageOne_setList (r : Ramp) (l : PlanList) : s.StageOne (s.setList r l) := ⟨calm_setList s r l, rfl, fun _ _ => .of_ports rfl⟩

/-- The fallback number that stage 1 finds, and the read it makes for it (R44). -/
theorem chooseFallback_spec (k : PlanSlot) (merge : Option Nat) : (s.chooseFallback k merge).2 = s.fallbackFor k merge
    ∧ s.StageOne (s.chooseFallback k merge).1 ∧ (s.chooseFallback k merge).1.lists = s.lists := by
  unfold chooseFallback fallbackFor
  cases s.readablePlan k with
  | none => exact ⟨rfl, .refl, rfl⟩
  | some p =>
    simp only [Option.map_some]
    cases p.fallbackPlan with
    | builtin => exact ⟨rfl, .refl, rfl⟩
    | slot j =>
      dsimp only
      by_cases own : j = k
      · rw [if_pos own, if_neg fun both => both.1 own]
        exact ⟨rfl, .refl, rfl⟩
      · rw [if_neg own]
        refine ⟨?_, stageOne_useRecord s (.plan j), (readFrom_useRecord s (.plan j)).lists⟩
        dsimp only
        rw [canRun_congr (funext (calm_useRecord s (.plan j)).readablePlan)]
        simp [own]

/-- Stage 1 on one ramp (R43, R44). -/
theorem runnability_spec (r : Ramp) (merge : Option Nat) : s.StageOne (s.runnability r merge)
    ∧ (s.runnability r merge).planList r = s.runListed r merge
    ∧ ∀ r', r' ≠ r → (s.runnability r merge).planList r' = s.planList r' := by
  unfold runnability runListed
  cases (s.planList r).governingPlan with
  | none => exact ⟨.refl, rfl, fun _ _ => rfl⟩
  | some k =>
    dsimp only
    have read := stageOne_useRecord s (.plan k)
    have readable := funext (calm_useRecord s (.plan k)).readablePlan
    have list := (readFrom_useRecord s (.plan k)).planList
    rw [← canRun_congr readable, ← fallbackFor_congr readable, ← list r]
    simp only [← list]
    generalize s.useRecord (.plan k) = t at read ⊢
    split
    · exact ⟨read.trans (stageOne_setList t r _), planList_setList_self t r _, fun r' ne => planList_setList_ne t ne _⟩
    · obtain ⟨number, chosen, lists⟩ := chooseFallback_spec t k merge
      rw [← number]
      generalize t.chooseFallback k merge = c at chosen lists ⊢
      have same (r' : Ramp) : c.1.planList r' = t.planList r' := congrArg (fun x : Tab 6 PlanList => x.get r') lists
      refine ⟨(read.trans chosen).trans (stageOne_setList c.1 r _), ?_, fun r' ne => ?_⟩
      · rw [planList_setList_self, same]
      · rw [planList_setList_ne c.1 ne, same]

theorem runListed_congr {s t : State} {r : Ramp} (readable : t.readablePlan = s.readablePlan) (list : t.planList r = s.planList r)
    (merge : Option Nat) : t.runListed r merge = s.runListed r merge := by
  unfold runListed
  rw [list]
  simp only [canRun_congr readable, fallbackFor_congr readable]

/-- The list of a ramp after stage 1 of a close (R43, R44). -/
def closeListed (u : State) (r : Ramp) : PlanList :=
  if v.metering r then u.runListed r ((v.results r).bind (·.merge)) else u.planList r

theorem eachRunnability_spec : let w := s.each ramps fun r t => if v.metering r then t.runnability r ((v.results r).bind (·.merge)) else t
    s.StageOne w ∧ ∀ r, w.planList r = s.closeListed v r := by
  have step (r : Ramp) (t : State) : t.StageOne (if v.metering r then t.runnability r ((v.results r).bind (·.merge)) else t) := by
    split
    · exact (runnability_spec t r _).1
    · exact .refl
  refine ⟨.each ramps _ step, fun r => ?_⟩
  obtain ⟨t, readable, list, turn⟩ := each_turn State.planList State.readablePlan
    (fun r t => if v.metering r then t.runnability r ((v.results r).bind (·.merge)) else t) ramps ramps_nodup
    (fun r t => funext (step r t).calm.readablePlan)
    (fun r r' t ne => by
      split
      · exact (runnability_spec t r _).2.2 r' ne
      · rfl) s r (mem_ramps r)
  rw [turn]
  unfold closeListed
  split
  · rw [(runnability_spec t r _).2.1]
    exact runListed_congr readable list _
  · exact list

/-- `t` with what the station results and stage 1 write set back to what it is in `u`. -/
def judgedBack (u t : State) : State :=
  { t with memory := u.memory, ports := u.ports, lists := u.lists, sequencers := u.sequencers, measure := u.measure,
           corridorMeasure := u.corridorMeasure }

/-- What the station results and stage 1 leave of the state after the reads (R22, R24 to R29, R41 to R44, R115, R121). -/
structure CloseJudged (v : CloseView) (u w : State) : Prop where
  frame : u.judgedBack w = u
  readings : w.readings = u.readings
  pending : ∀ c, c ≠ .memory → SamePending c u w
  silent : ∀ p, (w.port p).silent = (u.port p).silent
  pinned : w.pinned = u.pinned
  seq : ∀ r, w.seq r = { u.seq r with greens := Tab.replicate 2 0, redMinimum := some u.safetyInUse.redMinimum }
  meas : ∀ r, w.meas r = { u.meas r with results := v.results r }
  corridorMeasure : w.corridorMeasure = { u.corridorMeasure with bottleneck := some (bottleneckResult v.values) }
  planList : ∀ r, w.planList r = u.closeListed v r

theorem closeJudged_spec : s.CloseJudged v (s.closeJudged v) := by
  obtain ⟨frame, corridor, units⟩ := closeStations_spec s v
  unfold closeJudged closeRunnability
  dsimp only
  generalize s.closeStations v = mid at frame corridor units ⊢
  have midMemory : mid.memory = s.memory := (congrArg State.memory frame :)
  have midLists : mid.lists = s.lists := (congrArg State.lists frame :)
  have midPorts : mid.ports = s.ports := (congrArg State.ports frame :)
  have safety := stageOne_useRecord mid .safety
  have safetyLists := (readFrom_useRecord mid .safety).lists
  generalize mid.useRecord .safety = read at safety safetyLists ⊢
  have readings : read.readings = s.readings := (readings_of_calm safety.calm).trans (readings_of_memory midMemory)
  obtain ⟨red, hred⟩ : ∃ w : State, w = { read with
      sequencers := read.sequencers.map fun (q : Sequencer) => { q with redMinimum := some read.safetyInUse.redMinimum } } := ⟨_, rfl⟩
  rw [← hred]
  obtain ⟨one, listed⟩ := eachRunnability_spec red v
  have redMemory : red.memory = read.memory := by rw [hred]
  have redPorts : red.ports = read.ports := by rw [hred]
  have redLists : red.lists = s.lists := by rw [hred]; exact safetyLists.trans midLists
  have redReadings : red.readings = s.readings := (readings_of_memory redMemory).trans readings
  generalize red.each ramps (fun r t => if v.metering r then t.runnability r ((v.results r).bind (·.merge)) else t) = w at one listed
  have readTable : read.safetyInUse = s.safetyInUse := congrArg (fun x => x.2.1) readings
  have redReadable : red.readablePlan = s.readablePlan := congrArg (fun x => x.2.2) redReadings
  have redList (r : Ramp) : red.planList r = s.planList r := congrArg (fun x : Tab 6 PlanList => x.get r) redLists
  refine ⟨?_, (readings_of_calm one.calm).trans redReadings, fun c ne => ?_, fun p => ?_, ?_, fun r => ?_, fun r => ?_, ?_, fun r => ?_⟩
  · have first := congrArg s.judgedBack one.frame
    have second := congrArg s.judgedBack safety.frame
    have third := congrArg s.judgedBack frame
    rw [hred] at first
    exact (first.trans second).trans third
  · exact ((SamePending.of_ports midPorts).trans (safety.pending c ne)).trans ((SamePending.of_ports redPorts).trans (one.pending c ne))
  · have redPort : (red.port p).silent = (read.port p).silent := by unfold port; rw [redPorts]
    have midPort : (mid.port p).silent = (s.port p).silent := by unfold port; rw [midPorts]
    exact ((one.calm.silent p).trans redPort).trans ((safety.calm.silent p).trans midPort)
  · have redPinned : red.pinned = read.pinned := by rw [hred]; rfl
    have midPinned : mid.pinned = s.pinned := (congrArg State.pinned frame :)
    exact ((pinned_of_kept one.calm.kept).trans redPinned).trans ((pinned_of_kept safety.calm.kept).trans midPinned)
  · have sequencers : w.sequencers = red.sequencers := (congrArg State.sequencers one.frame :)
    have kept : read.sequencers = mid.sequencers := (congrArg State.sequencers safety.frame :)
    have own : w.seq r = { read.seq r with redMinimum := some read.safetyInUse.redMinimum } := by
      unfold State.seq; rw [sequencers, hred]; exact Tab.get_map ..
    have before : read.seq r = mid.seq r := by unfold State.seq; rw [kept]
    rw [own, before, (units r).1, readTable]
  · have measure : w.measure = read.measure := by
      have first : w.measure = red.measure := (congrArg State.measure one.frame :)
      rw [first, hred]
    have kept : read.measure = mid.measure := (congrArg State.measure safety.frame :)
    have own : w.meas r = mid.meas r := by unfold State.meas; rw [measure, kept]
    rw [own, (units r).2]
  · have first : w.corridorMeasure = red.corridorMeasure := (congrArg State.corridorMeasure one.frame :)
    have kept : read.corridorMeasure = mid.corridorMeasure := (congrArg State.corridorMeasure safety.frame :)
    rw [first, hred]
    exact kept.trans corridor
  · rw [listed]
    unfold closeListed
    rw [runListed_congr redReadable (redList r), redList]

end State

end Sys2Proof.Machine
end

section
/-! PROOFS. The later phases of a period close (R22): the hand-over of the rates, the history rings, and the state that all phases
leave. -/

namespace Sys2Proof.Machine

open State

namespace State

variable (s : State) (v : CloseView)

/-! ### Phase 5: the hand-over (R42, R54, R55, R59) -/

/-- The stage 5 results of a close. -/
def stages : Stage5s := Tab.ofFn (s.stageOf v)

/-- The corridor's allowance, held count and marks after stage 6 (R54, R55). -/
def allowed : CorridorRate := allowanceStage v.settings (bottleneckResult v.values).occupancy s.corridorRate

/-- Coordination applies at the close (R56). -/
def shares : Bool := applies v.settings (s.allowed v) (s.stages v)

/-- The corridor's rate items after stage 8 (R56, R57). -/
def corridorClosed : CorridorRate :=
  { s.allowed v with
    results := some { coordination := if s.shares v then some (sumDesired (s.stages v), excessOf (s.stages v) (s.allowed v).allowance)
                                      else none }
    notMet := notMetOf (s.shares v) (s.allowed v).allowance (s.stages v) }

/-- The final rate of a ramp with stage 5 results. -/
def finalAt (r : Ramp) (x : Stage5) : Nat := finalRateOf (s.shares v) (s.allowed v).allowance (s.stages v) r x

/-- The rates of a ramp after the close (R42, R63). -/
def rateClosed (r : Ramp) : RampRate :=
  match (s.stages v).get r with
  | some x => { previousClose := some (s.finalAt v r x), lastFinal := some (s.finalAt v r x)
                close := some (closeResultsOf x (s.finalAt v r x) ((s.planList r).topOrigin = some .fallback))
                protection := x.queueRate.isSome }
  | none => { s.rate r with previousClose := if v.metering r then (s.rate r).previousClose else none, close := none
                            protection := false }

/-- The Pending Timing of a ramp after the close (R59). -/
def timingClosed (r : Ramp) : Option Timing :=
  match (s.stages v).get r with
  | some x => some (timingOf x.limits (s.finalAt v r x))
  | none => (s.seq r).pendingTiming

theorem handOver_own (xs : Stage5s) (applied : Bool) (r : Ramp) :
    (s.handOver v xs applied r).rate r = (match xs.get r with
        | some x =>
          let final := finalRateOf applied s.corridorRate.allowance xs r x
          { previousClose := some final, lastFinal := some final
            close := some (closeResultsOf x final ((s.planList r).topOrigin = some .fallback)), protection := x.queueRate.isSome }
        | none => { s.rate r with previousClose := if v.metering r then (s.rate r).previousClose else none, close := none
                                  protection := false })
      ∧ (s.handOver v xs applied r).seq r = { s.seq r with pendingTiming := match xs.get r with
        | some x => some (timingOf x.limits (finalRateOf applied s.corridorRate.allowance xs r x))
        | none => (s.seq r).pendingTiming } := by
  unfold handOver
  cases xs.get r with
  | none => exact ⟨rate_setRate_self s r _, rfl⟩
  | some x => exact ⟨rate_setRate_self s r _, seq_modSeq_self ..⟩

theorem closeRates_spec : (s.closeRates v).corridorRate = s.corridorClosed v
    ∧ ∀ r, (s.closeRates v).rate r = s.rateClosed v r
      ∧ (s.closeRates v).seq r = { s.seq r with pendingTiming := s.timingClosed v r } := by
  have run : s.closeRates v
      = ({ s with corridorRate := s.corridorClosed v } : State).each ramps (handOver v (s.stages v) (s.shares v)) := rfl
  rw [run]
  have frame (r : Ramp) (t : State) : (t.handOver v (s.stages v) (s.shares v) r).corridorRate = t.corridorRate
      ∧ (t.handOver v (s.stages v) (s.shares v) r).lists = t.lists := by
    have own := (handOver_spec t v (s.stages v) (s.shares v) r).1
    generalize t.handOver v (s.stages v) (s.shares v) r = u at own
    exact ⟨(congrArg State.corridorRate own :), (congrArg State.lists own :)⟩
  refine ⟨each_proj State.corridorRate ramps _ _ fun r t => (frame r t).1, fun r => ?_⟩
  obtain ⟨u, reads, own, turn⟩ := each_turn (fun t r => (t.rate r, t.seq r)) (fun t => (t.corridorRate, t.lists))
    (handOver v (s.stages v) (s.shares v)) ramps ramps_nodup (fun r t => Prod.ext (frame r t).1 (frame r t).2)
    (fun r r' t ne => by
      obtain ⟨rate, seq⟩ := (handOver_spec t v (s.stages v) (s.shares v) r).2 r' ne
      exact Prod.ext rate seq)
    { s with corridorRate := s.corridorClosed v } r (mem_ramps r)
  obtain ⟨rate, seq⟩ := handOver_own u v (s.stages v) (s.shares v) r
  obtain ⟨corridor, lists⟩ := Prod.mk.inj reads
  obtain ⟨ownRate, ownSeq⟩ := Prod.mk.inj own
  obtain ⟨turnRate, turnSeq⟩ := Prod.mk.inj turn
  have list : u.planList r = s.planList r := congrArg (fun x : Tab 6 PlanList => x.get r) lists
  have allowance : u.corridorRate.allowance = (s.allowed v).allowance := (congrArg CorridorRate.allowance corridor :)
  have oldRate : u.rate r = s.rate r := ownRate
  have oldSeq : u.seq r = s.seq r := ownSeq
  rw [turnRate, turnSeq, rate, seq, allowance, list, oldRate, oldSeq]
  exact ⟨rfl, rfl⟩

/-! ### Phases 6 and 7: the rings and the conditions (R32 to R36) -/

theorem ringAppend_eq {α : Type} (ring : List α) (x : α) : ringAppend ring x = ring.drop (ring.length - 19) ++ [x] := by
  unfold ringAppend
  simp only [Config.ringCapacity]
  split
  · rw [show ring.length + 1 - 20 = ring.length - 19 by omega]
  · rw [show ring.length - 19 = 0 by omega, List.drop_zero]

/-- A ramp's measurements with its history record appended, or its ring emptied (R32). -/
def ringed (s : State) (r : Ramp) (m : RampMeasure) : RampMeasure :=
  match m.results with
  | some res => { m with history := ringAppend m.history ((s.setMeas r m).historyOf v r res) }
  | none => { m with history := [] }

theorem closeHistory_eq : closeHistory v = fun r t => t.setMeas r (ringed v { t with measure := s.measure } r (t.meas r)) := by
  funext r t
  unfold closeHistory ringed
  dsimp only
  cases (t.meas r).results with
  | none => rfl
  | some res =>
    have same : ((({ t with measure := s.measure } : State).setMeas r (t.meas r)).historyOf v r res) = t.historyOf v r res := by
      unfold historyOf
      rw [meas_setMeas_self]
      rfl
    dsimp only
    rw [same]

theorem closeHistories_spec : ({ s.each ramps (closeHistory v) with measure := s.measure } : State) = s
    ∧ ∀ r, (s.each ramps (closeHistory v)).meas r = s.ringed v r (s.meas r) := by
  rw [closeHistory_eq s]
  exact eachMeas_spec s (fun t => ({ t with measure := s.measure } : State)) (ringed v) fun _ _ _ => rfl

/-- A ramp's measurements with its station conditions set from its results (R36). -/
def conditioned (m : RampMeasure) : RampMeasure :=
  { m with mergeData := (m.results.bind (·.merge)).isSome, arrivalsData := (m.results.bind (·.arrivals)).isSome
           queueEndData := (m.results.bind (·.queueEnd)).isSome }

/-- The state of a close after phase 4. -/
def closeQueued : State := s.each ramps (closeQueue v)

/-- The state of a close before its events are raised. -/
def closeSettled : State :=
  let s := (s.closeQueued v).closeRates v
  let s := (s.each ramps (closeHistory v)).closeCorridorHistory
  let s := s.each ramps closeConditions
  { s with corridorMeasure := { s.corridorMeasure with bottleneckData := (s.corridorMeasure.bottleneck.bind (·.occupancy)).isSome } }

/-- `t` with what phases 4 to 6 write set back to what it is in `w`. -/
def settledBack (w t : State) : State :=
  { t with measure := w.measure, rates := w.rates, sequencers := w.sequencers, corridorRate := w.corridorRate
           corridorMeasure := w.corridorMeasure }

/-- The history record of the corridor at a close (R34). -/
def corridorRecord34 (s : State) : CorridorHistory :=
  let c := s.corridorRate
  let co := c.results.bind (·.coordination)
  { period := s.timer.number, bottleneck := s.corridorMeasure.bottleneck.bind (·.occupancy), allowance := c.allowance
    sumDesired := co.map (·.1), excess := co.map (·.2), heldCount := c.heldCount, allowanceHeld := c.allowanceHeld
    coordinationSuspended := c.suspended, allowanceNotMet := c.notMet }

/-- What phases 4 to 6 leave of the state `w` after stage 1, `q` being the state after phase 4. -/
structure CloseSettled (v : CloseView) (w q t : State) : Prop where
  frame : w.settledBack t = w
  queued : ({ q with measure := w.measure } : State) = w
  estimates : ∀ r, q.meas r = queueSet v w.planInUse r (w.meas r)
  corridorRate : t.corridorRate = q.corridorClosed v
  rate : ∀ r, t.rate r = q.rateClosed v r
  seq : ∀ r, t.seq r = { w.seq r with pendingTiming := q.timingClosed v r }
  meas : ∀ r, t.meas r = conditioned (ringed v t r (q.meas r))
  corridorMeasure : t.corridorMeasure = { w.corridorMeasure with
    history := ringAppend w.corridorMeasure.history t.corridorRecord34
    bottleneckData := (w.corridorMeasure.bottleneck.bind (·.occupancy)).isSome }

theorem ringed_congr {s t : State} (timer : t.timer = s.timer) (retained : t.retained = s.retained) (rates : t.rates = s.rates)
    (lists : t.lists = s.lists) (r : Ramp) (m : RampMeasure) : t.ringed v r m = s.ringed v r m := by
  have rate : (t.setMeas r m).rate r = (s.setMeas r m).rate r := congrArg (fun x : Tab 6 RampRate => x.get r) rates
  have list : (t.setMeas r m).planList r = (s.setMeas r m).planList r := congrArg (fun x : Tab 6 PlanList => x.get r) lists
  unfold ringed
  cases m.results with
  | none => rfl
  | some res =>
    have record : (t.setMeas r m).historyOf v r res = (s.setMeas r m).historyOf v r res := by
      unfold historyOf stamp
      rw [rate, list, meas_setMeas_self, meas_setMeas_self, setMeas_timer, setMeas_timer, setMeas_retained, setMeas_retained, timer,
        retained]
    dsimp only
    rw [record]

theorem closeSettled_spec : CloseSettled v s (s.closeQueued v) (s.closeSettled v) := by
  obtain ⟨queued, estimates⟩ := closeQueues_spec s v
  unfold closeSettled
  change CloseSettled v s (s.each ramps (closeQueue v)) _
  dsimp only
  unfold closeQueued
  generalize s.each ramps (closeQueue v) = q at queued estimates ⊢
  obtain ⟨corridor, units⟩ := closeRates_spec q v
  have rated := closeRates_frame q v
  generalize q.closeRates v = a at corridor units rated ⊢
  obtain ⟨ringFrame, rings⟩ := closeHistories_spec a v
  generalize a.each ramps (closeHistory v) = h at ringFrame rings ⊢
  obtain ⟨conditionFrame, conditions⟩ := closeConditions_spec h.closeCorridorHistory
  generalize h.closeCorridorHistory.each ramps closeConditions = z at conditionFrame conditions ⊢
  have zMeasure : z.corridorMeasure = { h.corridorMeasure with history := ringAppend h.corridorMeasure.history h.corridorRecord34 } :=
    (congrArg State.corridorMeasure conditionFrame :)
  have zTimer : z.timer = h.timer := (congrArg State.timer conditionFrame :)
  have zRetained : z.retained = h.retained := (congrArg State.retained conditionFrame :)
  have zRates : z.rates = h.rates := (congrArg State.rates conditionFrame :)
  have zLists : z.lists = h.lists := (congrArg State.lists conditionFrame :)
  have zSeqs : z.sequencers = h.sequencers := (congrArg State.sequencers conditionFrame :)
  have zCorridor : z.corridorRate = h.corridorRate := (congrArg State.corridorRate conditionFrame :)
  have hTimer : h.timer = a.timer := (congrArg State.timer ringFrame :)
  have hRetained : h.retained = a.retained := (congrArg State.retained ringFrame :)
  have hRates : h.rates = a.rates := (congrArg State.rates ringFrame :)
  have hLists : h.lists = a.lists := (congrArg State.lists ringFrame :)
  have hSeqs : h.sequencers = a.sequencers := (congrArg State.sequencers ringFrame :)
  have hCorridor : h.corridorRate = a.corridorRate := (congrArg State.corridorRate ringFrame :)
  have hMeasure : h.corridorMeasure = a.corridorMeasure := (congrArg State.corridorMeasure ringFrame :)
  have aMeasure : a.corridorMeasure = q.corridorMeasure := (congrArg State.corridorMeasure rated :)
  have aMeas : a.measure = q.measure := (congrArg State.measure rated :)
  have qMeasure : q.corridorMeasure = s.corridorMeasure := (congrArg State.corridorMeasure queued :)
  have qSeqs : q.sequencers = s.sequencers := (congrArg State.sequencers queued :)
  have measure : h.corridorMeasure = s.corridorMeasure := hMeasure.trans (aMeasure.trans qMeasure)
  refine ⟨?_, queued, estimates, ?_, fun r => ?_, fun r => ?_, fun r => ?_, ?_⟩
  · have first := congrArg s.settledBack conditionFrame
    have second := congrArg s.settledBack ringFrame
    have third := congrArg s.settledBack rated
    have fourth := congrArg s.settledBack queued
    exact ((first.trans second).trans third).trans fourth
  · exact (zCorridor.trans hCorridor).trans corridor
  · change z.rates.get r = _
    rw [zRates, hRates]
    exact (units r).1
  · change z.sequencers.get r = _
    rw [zSeqs, hSeqs]
    refine (units r).2.trans ?_
    unfold State.seq
    rw [qSeqs]
  · change z.meas r = _
    rw [conditions]
    have ring : h.closeCorridorHistory.meas r = ringed v z r (q.meas r) := by
      change h.meas r = _
      rw [rings, ringed_congr v (zTimer.trans hTimer) (zRetained.trans hRetained) (zRates.trans hRates) (zLists.trans hLists)]
      unfold meas
      rw [aMeas]
    rw [ring]
    rfl
  · have record : ({ z with corridorMeasure := { z.corridorMeasure with
          bottleneckData := (z.corridorMeasure.bottleneck.bind (·.occupancy)).isSome } } : State).corridorRecord34
        = h.corridorRecord34 := by
      unfold corridorRecord34
      dsimp only
      rw [zCorridor, zTimer, zMeasure]
    rw [record]
    dsimp only
    rw [zMeasure, measure]

end State

end Sys2Proof.Machine
end

section
/-! PROOFS. PERIOD_CLOSE whole: its state after, unit by unit, and the events it raises (R21, R22, R36, R61, R62, R82). -/

namespace Sys2Proof.Machine

open State

namespace State

variable (old : State)

/-- What phase 2 of the close of `old` settles for every later phase (R22). -/
def closeSeen : CloseView := old.closeRead.closeView (old.loops.map Loop.value)

/-- The state of the close of `old` after stage 1. -/
def closeOne : State := old.closeRead.closeJudged old.closeSeen

/-- The state of the close of `old` before its events are raised. -/
def closeFull : State := old.closeOne.closeSettled old.closeSeen

/-- The events of phase 7, by class (R22). -/
def closeEvent (old : State) : EventClass → Bool
  | .stationData => stationDataEvent old.closeSeen old old.closeFull
  | .queue => queueEvent old old.closeFull
  | .allowance => allowanceEvent old old.closeFull
  | .fallback => fallbackEvent (old.closeRead.closeStations old.closeSeen) old.closeOne
  | .period => true
  | _ => false

theorem queueEvent_raiseIf (s : State) (b : Bool) (c : EventClass) : queueEvent old (s.raiseIf b c) = queueEvent old s := by
  rw [raiseIf_ports_only]; rfl

theorem allowanceEvent_raiseIf (s : State) (b : Bool) (c : EventClass) : allowanceEvent old (s.raiseIf b c) = allowanceEvent old s := by
  rw [raiseIf_ports_only]; rfl

/-- The events of phase 7, in turn, on the state before them. -/
def closeRaised (old s : State) : State :=
  ((((s.raiseIf (old.closeEvent .stationData) .stationData).raiseIf (old.closeEvent .queue) .queue).raiseIf
    (old.closeEvent .allowance) .allowance).raiseIf (old.closeEvent .fallback) .fallback).nextPeriod.raise .period

/-- Phase 7 of the close of `old` as the model writes it: each event is judged on the state that the one before leaves. -/
def closeJudging (old : State) (v : CloseView) (placed : Bool) (s : State) : State :=
  let s := s.raiseIf (stationDataEvent v old s) .stationData
  let s := s.raiseIf (queueEvent old s) .queue
  let s := s.raiseIf (allowanceEvent old s) .allowance
  let s := s.raiseIf placed .fallback
  s.nextPeriod.raise .period

/-- The phases of a close after its reads. -/
def closeFrom (old : State) (v : CloseView) (u : State) : State :=
  closeJudging old v (fallbackEvent (u.closeStations v) (u.closeJudged v)) ((u.closeJudged v).closeSettled v)

theorem closePhases_from : old.closePhases
    = closeFrom old (old.closeRead.closeView (old.settleLoops.loops.map Loop.value)) old.closeRead := by
  unfold closePhases closeFrom closeJudging closeSettled closeQueued closeJudged closeRead
  rfl

theorem closeJudging_eq (s : State) : closeJudging old old.closeSeen (old.closeEvent .fallback) s
    = ((((s.raiseIf (stationDataEvent old.closeSeen old s) .stationData).raiseIf (queueEvent old s) .queue).raiseIf
      (allowanceEvent old s) .allowance).raiseIf (old.closeEvent .fallback) .fallback).nextPeriod.raise .period := by
  unfold closeJudging
  dsimp only
  rw [queueEvent_raiseIf, allowanceEvent_raiseIf, allowanceEvent_raiseIf]

theorem closePhases_eq : old.closePhases = closeRaised old old.closeFull := by
  rw [closePhases_from, values_settleLoops]
  exact closeJudging_eq old old.closeFull

theorem closeRaised_spec (s : State) :
    ({ closeRaised old s with ports := s.ports, timer := s.timer } : State) = s
    ∧ (closeRaised old s).timer = { s.timer with samples := 0, number := (s.timer.number + 1) % 65536 }
    ∧ ∀ c p, classIn c ((closeRaised old s).port p).pending = (classIn c (s.port p).pending || (old.closeEvent c && s.delivers c p)) := by
  unfold closeRaised
  refine ⟨?_, ?_, fun c p => ?_⟩
  · rw [raise_ports_only, raiseIf_ports_only, raiseIf_ports_only, raiseIf_ports_only, raiseIf_ports_only]
    rfl
  · rw [raise_ports_only, raiseIf_ports_only, raiseIf_ports_only, raiseIf_ports_only, raiseIf_ports_only]
    rfl
  · have next (t : State) (c : EventClass) : classIn c (t.nextPeriod.port p).pending = classIn c (t.port p).pending
      ∧ t.nextPeriod.delivers c p = t.delivers c p := ⟨rfl, by cases p <;> rfl⟩
    rw [pending_raise, (next _ _).1, (next _ _).2]
    simp only [pending_raiseIf, delivers_raiseIf]
    cases c <;> simp [closeEvent]

/-- The state after a close, in terms of the states after its reads (`u`), after stage 1 (`w`), after the queue estimates (`q`) and before
the events (`f`). -/
structure CloseDone (old : State) (v : CloseView) (u w q f t : State) : Prop where
  view : v = u.closeView (old.loops.map Loop.value)
  read : old.CloseRead u
  judged : CloseJudged v u w
  settled : CloseSettled v w q f
  frame : ({ t with ports := f.ports, timer := f.timer } : State) = f
  timer : t.timer = { f.timer with samples := 0, number := (f.timer.number + 1) % 65536 }
  station : ∀ p, classIn .stationData (t.port p).pending = (classIn .stationData (f.port p).pending
    || (stationDataEvent v old f && f.delivers .stationData p))
  queue : ∀ p, classIn .queue (t.port p).pending = (classIn .queue (f.port p).pending || (queueEvent old f && f.delivers .queue p))
  allowance : ∀ p, classIn .allowance (t.port p).pending = (classIn .allowance (f.port p).pending
    || (allowanceEvent old f && f.delivers .allowance p))
  fallback : ∀ p, classIn .fallback (t.port p).pending = (classIn .fallback (f.port p).pending
    || (fallbackEvent (u.closeStations v) w && f.delivers .fallback p))
  period : ∀ p, classIn .period (t.port p).pending = (classIn .period (f.port p).pending || (true && f.delivers .period p))

theorem closeDone : CloseDone old old.closeSeen old.closeRead old.closeOne (old.closeOne.closeQueued old.closeSeen) old.closeFull
    old.closePhases := by
  obtain ⟨frame, timer, pending⟩ := closeRaised_spec old old.closeFull
  have judged : CloseJudged old.closeSeen old.closeRead old.closeOne := closeJudged_spec old.closeRead old.closeSeen
  have settled : CloseSettled old.closeSeen old.closeOne (old.closeOne.closeQueued old.closeSeen) old.closeFull :=
    closeSettled_spec old.closeOne old.closeSeen
  rw [closePhases_eq]
  generalize closeRaised old old.closeFull = t at frame timer pending ⊢
  constructor
  · rfl
  · exact closeRead_reads old
  · exact judged
  · exact settled
  · exact frame
  · exact timer
  · exact pending .stationData
  · exact pending .queue
  · exact pending .allowance
  · exact pending .fallback
  · exact pending .period

theorem exec_periodClose {s : State} (h : s.running) (due : 3000 ≤ s.timer.samples) : exec .periodClose s = .next s.closePhases := by
  refine congrArg Host.Outcome.next ((whenRunning_runs h _).trans ?_)
  exact if_pos due

theorem exec_periodClose_early {s : State} (h : s.running) (early : s.timer.samples < 3000) : exec .periodClose s = .next s := by
  refine congrArg Host.Outcome.next ((whenRunning_runs h _).trans ?_)
  exact if_neg (Nat.not_le.2 early)

end State

end Sys2Proof.Machine
end

section
/-! PROOFS. The station results of a close (R23 to R29) and what the close leaves in each unit. -/

namespace Sys2Proof.Machine

open State

/-! ### Stations -/

section Stations

variable {st : List PeriodValue}

theorem mem_members {vs : PeriodValues} {belongs : Identity → Bool} {v : PeriodValue} :
    v ∈ members vs belongs ↔ ∃ i x, vs.get i = v ∧ v.ident = some x ∧ belongs x = true := by
  unfold members
  rw [List.mem_filter]
  have mem : v ∈ vs.list ↔ ∃ i, vs.get i = v := by
    rw [List.mem_iff_getElem]
    exact ⟨fun ⟨n, h, e⟩ => ⟨⟨n, vs.len ▸ h⟩, e⟩, fun ⟨i, e⟩ => ⟨i.val, vs.len.symm ▸ i.isLt, e⟩⟩
  rw [mem]
  cases v.ident <;> simp

theorem no_valid (h : ∀ v ∈ st, v.valid = false) : st.filter (·.valid) = [] :=
  List.filter_eq_nil_iff.2 fun v hv => by rw [h v hv]; decide

theorem meanOccupancy_none (h : ∀ v ∈ st, v.valid = false) : meanOccupancy st = none ∧ maxOccupancy st = none := by
  unfold meanOccupancy maxOccupancy
  rw [no_valid h]
  exact ⟨rfl, rfl⟩

theorem maxOccupancy_iff {m : Nat} : maxOccupancy st = some m ↔ (∃ v ∈ st, v.valid = true ∧ (v.onSamples + 1) / 3 = m)
    ∧ ∀ v ∈ st, v.valid = true → (v.onSamples + 1) / 3 ≤ m := by
  unfold maxOccupancy
  rw [List.max?_eq_some_iff, List.forall_mem_map]
  simp only [List.mem_map, List.mem_filter, occupancy, and_assoc, and_imp]

theorem sumCounts_none (h : st = [] ∨ ∃ v ∈ st, v.valid = false) : sumCounts st = none := by
  unfold sumCounts
  refine if_pos ?_
  rcases h with rfl | ⟨v, mem, invalid⟩
  · rfl
  · refine Bool.or_eq_true_iff.2 (Or.inr (List.any_eq_true.2 ⟨v, mem, ?_⟩))
    rw [invalid]; rfl

theorem sumCounts_some (nonempty : st ≠ []) (h : ∀ v ∈ st, v.valid = true) : sumCounts st = some (st.map (·.count)).sum := by
  unfold sumCounts
  refine if_neg fun bad => ?_
  rcases Bool.or_eq_true_iff.1 bad with empty | some_invalid
  · exact nonempty (List.isEmpty_iff.1 empty)
  · obtain ⟨v, mem, invalid⟩ := List.any_eq_true.1 some_invalid
    rw [h v mem] at invalid
    cases invalid

theorem members_nonempty {vs : PeriodValues} {belongs : Identity → Bool} :
    (!(members vs belongs).isEmpty) = true ↔ ∃ i x, (vs.get i).ident = some x ∧ belongs x = true := by
  rw [Bool.not_eq_true', List.isEmpty_eq_false_iff_exists_mem]
  constructor
  · rintro ⟨v, hv⟩
    obtain ⟨i, x, rfl, ident, belongs⟩ := mem_members.1 hv
    exact ⟨i, x, ident, belongs⟩
  · rintro ⟨i, x, ident, belongs⟩
    exact ⟨vs.get i, mem_members.2 ⟨i, x, rfl, ident, belongs⟩⟩

theorem stationEdge_iff {edge : Edge} {vs : PeriodValues} {belongs : Identity → Bool} {was now : Bool} :
    stationEdge edge (!(members vs belongs).isEmpty) was now = true ↔ stationTurns edge vs belongs was now := by
  unfold stationEdge stationTurns
  rw [Bool.and_eq_true_iff, members_nonempty]
  cases was <;> cases now <;> simp

theorem flagEdge_iff {edge : Edge} {was now : Bool} : flagEdge edge was now = true ↔ flagTurns edge was now := by
  unfold flagEdge flagTurns
  cases was <;> cases now <;> simp

theorem rampTestSeen_iff {vs : PeriodValues} {r : Ramp} :
    rampTestSeen vs r = true ↔ ∃ i x, (vs.get i).ident = some x ∧ x.ramp = some r ∧ (vs.get i).testSeen = true := by
  unfold rampTestSeen stationTest
  rw [List.any_eq_true]
  constructor
  · rintro ⟨v, hv, seen⟩
    obtain ⟨i, x, rfl, ident, ramp⟩ := mem_members.1 hv
    exact ⟨i, x, ident, of_decide_eq_true ramp, seen⟩
  · rintro ⟨i, x, ident, ramp, seen⟩
    exact ⟨vs.get i, mem_members.2 ⟨i, x, rfl, ident, decide_eq_true ramp⟩, seen⟩

/-- A lane is substituted where no passage loop of it is valid (R28). -/
theorem substituted_iff {vs : PeriodValues} {r : Ramp} {n : Nat} {greens : Tab 2 Nat} {vehicles : Nat} :
    (rampResults vs r n greens vehicles).substituted = true
      ↔ ∃ ln : LaneNo, ln.val < n ∧ (members vs (inPassage r ln)).find? (·.valid) = none := by
  have lane (ln : LaneNo) : (laneDepartures vs r ln (greens.get ln) vehicles).2 = true
      ↔ (members vs (inPassage r ln)).find? (·.valid) = none := by
    unfold laneDepartures
    cases (members vs (inPassage r ln)).find? (·.valid) <;> simp
  unfold rampResults
  dsimp only
  rw [List.any_eq_true]
  constructor
  · rintro ⟨part, mem, replaced⟩
    obtain ⟨ln, within, rfl⟩ := List.mem_map.1 mem
    exact ⟨ln, of_decide_eq_true (List.mem_filter.1 within).2, (lane ln).1 replaced⟩
  · rintro ⟨ln, within, missing⟩
    exact ⟨_, List.mem_map.2 ⟨ln, List.mem_filter.2 ⟨List.mem_finRange ln, decide_eq_true within⟩, rfl⟩, (lane ln).2 missing⟩

theorem departures_eq {vs : PeriodValues} {r : Ramp} {n : Nat} {greens : Tab 2 Nat} {vehicles : Nat} :
    (rampResults vs r n greens vehicles).departures = ((laneNos.filter fun ln => ln.val < n).map fun ln =>
      match (members vs (inPassage r ln)).find? (·.valid) with
      | some v => v.count
      | none => greens.get ln * vehicles).sum := by
  unfold rampResults lanesUpTo
  dsimp only
  rw [List.map_map]
  congr 2
  funext ln
  simp only [Function.comp, laneDepartures]
  cases (members vs (inPassage r ln)).find? (·.valid) <;> rfl

end Stations

namespace State

/-! ### The units after a close -/

namespace CloseDone

variable {old u w q f t : State} {v : CloseView}

section Frames

variable (h : CloseDone old v u w q f t)
include h

theorem memory : t.memory = w.memory := (congrArg State.memory h.frame :).trans (congrArg State.memory h.settled.frame :)
theorem lists : t.lists = w.lists := (congrArg State.lists h.frame :).trans (congrArg State.lists h.settled.frame :)
theorem measure : t.measure = f.measure := (congrArg State.measure h.frame :)
theorem rates : t.rates = f.rates := (congrArg State.rates h.frame :)
theorem sequencers : t.sequencers = f.sequencers := (congrArg State.sequencers h.frame :)
theorem corridorRate : t.corridorRate = q.corridorClosed v := (congrArg State.corridorRate h.frame :).trans h.settled.corridorRate
theorem corridorMeasure : t.corridorMeasure = f.corridorMeasure := (congrArg State.corridorMeasure h.frame :)

theorem loops : t.loops = u.loops :=
  ((congrArg State.loops h.frame :).trans (congrArg State.loops h.settled.frame :)).trans (congrArg State.loops h.judged.frame :)

theorem clock : f.timer = u.timer := (congrArg State.timer h.settled.frame :).trans (congrArg State.timer h.judged.frame :)
theorem retained : f.retained = u.retained := (congrArg State.retained h.settled.frame :).trans (congrArg State.retained h.judged.frame :)
theorem router : f.router = u.router := (congrArg State.router h.settled.frame :).trans (congrArg State.router h.judged.frame :)
theorem portsFull : f.ports = w.ports := (congrArg State.ports h.settled.frame :)

theorem pinned : t.pinned = old.pinned :=
  (((congrArg State.pinned h.frame :).trans (congrArg State.pinned h.settled.frame :)).trans h.judged.pinned).trans h.read.pinned

theorem readings : t.readings = u.readings := (readings_of_memory h.memory).trans h.judged.readings

theorem meas (r : Ramp) : t.meas r = f.meas r := by unfold State.meas; rw [h.measure]
theorem rate (r : Ramp) : t.rate r = q.rateClosed v r := by
  have same : t.rate r = f.rate r := by unfold State.rate; rw [h.rates]
  exact same.trans (h.settled.rate r)

theorem seq (r : Ramp) : t.seq r = { u.seq r with
    greens := Tab.replicate 2 0, redMinimum := some u.safetyInUse.redMinimum, pendingTiming := q.timingClosed v r } := by
  have same : t.seq r = f.seq r := by unfold State.seq; rw [h.sequencers]
  rw [same, h.settled.seq, h.judged.seq]

theorem planList (r : Ramp) : t.planList r = u.closeListed v r := by
  have same : t.planList r = w.planList r := by unfold State.planList; rw [h.lists]
  exact same.trans (h.judged.planList r)

theorem stamp : f.stamp = old.stamp := by
  rw [← h.read.stamp]; unfold State.stamp; rw [h.retained]

/-! ### What the close reads at phase 2 -/

theorem lanes (r : Ramp) : v.settings.laneCount.get r = old.closeLanes r := by
  rw [h.view]; exact congrArg (fun cs : CorridorRec => cs.laneCount.get r) h.read.corridor

theorem settings : v.settings = old.corridorInUse := by rw [h.view]; exact h.read.corridor
theorem values : v.values = old.loops.map Loop.value := by rw [h.view]; rfl
theorem state (r : Ramp) : v.states.get r = (u.seq r).state := by rw [h.view]; exact Tab.get_map ..
theorem greens (r : Ramp) : v.greens.get r = (old.seq r).greens := by
  rw [h.view, ← h.read.greens r]; exact Tab.get_map ..
theorem vehicles (r : Ramp) : v.vehicles.get r = (old.seq r).lastVehicles := by
  rw [h.view, ← h.read.lastVehicles r]; exact Tab.get_map ..

theorem configured (r : Ramp) : v.configured r = true ↔ old.closeLanes r ≠ 0 := by
  unfold CloseView.configured; rw [h.lanes]; exact decide_eq_true_iff

theorem metering (r : Ramp) : v.metering r = true ↔ old.closeLanes r ≠ 0 ∧ (u.seq r).state = .metering := by
  unfold CloseView.metering
  rw [Bool.and_eq_true_iff, h.configured, h.state, decide_eq_true_iff]

theorem results_none {r : Ramp} (e : old.closeLanes r = 0) : v.results r = none := by
  unfold CloseView.results
  exact if_neg fun c => (h.configured r).1 c e

/-- The station results of a configured ramp (R24 to R29). -/
theorem results_some {r : Ramp} (e : old.closeLanes r ≠ 0) : v.results r
    = some (rampResults (old.loops.map Loop.value) r (old.closeLanes r) (old.seq r).greens (old.seq r).lastVehicles) := by
  unfold CloseView.results
  rw [if_pos ((h.configured r).2 e), h.values, h.lanes, h.greens, h.vehicles]

/-! ### Measurements -/

theorem planInUse (r : Ramp) : w.planInUse r = t.planInUse r := by
  have readings : w.readings = t.readings := h.judged.readings.trans h.readings.symm
  have list : w.planList r = t.planList r := by unfold State.planList; rw [h.lists]
  have table : w.safetyInUse = t.safetyInUse := congrArg (fun x => x.2.1) readings
  have readable : w.readablePlan = t.readablePlan := congrArg (fun x => x.2.2) readings
  unfold State.planInUse
  rw [list, table, readable]

theorem beforeQueues (r : Ramp) : w.meas r = { old.meas r with results := v.results r } := by
  rw [h.judged.meas, h.read.meas]

/-- A ramp that is not configured has no results, no ring and no queue (R24, R30, R32). -/
theorem meas_unconfigured {r : Ramp} (e : old.closeLanes r = 0) :
    (t.meas r).results = none ∧ (t.meas r).history = [] ∧ (t.meas r).queueEstimate = 0 := by
  rw [h.meas, h.settled.meas, h.settled.estimates, h.beforeQueues, h.results_none e]
  exact ⟨rfl, rfl, rfl⟩

end Frames

end CloseDone

/-- The station results of a configured ramp with "queue held" set from the queue estimate (R29, R31). -/
def closeResults (old u : State) (r : Ramp) : RampResults :=
  let res := rampResults (old.loops.map Loop.value) r (old.closeLanes r) (old.seq r).greens (old.seq r).lastVehicles
  { res with queueHeld := decide ((u.seq r).state = .metering) && res.arrivals.isNone }

/-- The queue estimate of a configured ramp after the close (R30, R31). -/
def closeEstimate (old u t : State) (r : Ramp) : Nat :=
  if (u.seq r).state = .metering then
    queueRaise (t.planInUse r) (old.closeResults u r) (balance (old.meas r).queueEstimate (old.closeResults u r))
  else 0

namespace CloseDone

variable {old u w q f t : State} {v : CloseView}

section Measured

variable (h : CloseDone old v u w q f t)
include h

/-- The measurements of a configured ramp after phase 4. -/
theorem queued {r : Ramp} (e : old.closeLanes r ≠ 0) :
    q.meas r = { old.meas r with results := some (old.closeResults u r), queueEstimate := old.closeEstimate u t r } := by
  rw [h.settled.estimates, h.beforeQueues, h.results_some e]
  unfold queueSet closeEstimate closeResults
  dsimp only
  by_cases metering : (u.seq r).state = .metering
  · rw [if_pos ((h.metering r).2 ⟨e, metering⟩), if_pos metering, h.planInUse, decide_eq_true metering, Bool.true_and]
    rfl
  · rw [if_neg fun c => metering ((h.metering r).1 c).2, if_neg metering, decide_eq_false metering, Bool.false_and]
    rfl

theorem meas_configured {r : Ramp} (e : old.closeLanes r ≠ 0) : t.meas r = conditioned
    { old.meas r with
      results := some (old.closeResults u r), queueEstimate := old.closeEstimate u t r
      history := ringAppend (old.meas r).history ((f.setMeas r (q.meas r)).historyOf v r (old.closeResults u r)) } := by
  rw [h.meas, h.settled.meas, h.queued e]
  rfl

end Measured

end CloseDone

end State

end Sys2Proof.Machine
end

section
/-! PROOFS. PERIOD_CLOSE (O42): the history records, the lists and the events of a close. -/

namespace Sys2Proof.Machine

open State

namespace State

/-- The history record of a configured ramp at a close (R33), in terms of the states before (`old`), after the reads (`u`) and after the
close (`t`). -/
def closeRecord (old u t : State) (r : Ramp) : RampHistory :=
  let res := old.closeResults u r
  let close := if (u.seq r).state = .metering then (t.rate r).close else none
  { period := old.timer.number, stamp := old.stamp, state := (u.seq r).state, plan := (t.planList r).demanded
    origin := (t.planList r).topOrigin, merge := res.merge, arrivals := res.arrivals, departures := res.departures
    queueEnd := res.queueEnd, queueEstimate := old.closeEstimate u t r, localRate := close.map (·.localRate)
    queueRate := close.bind (·.queueRate), lowLimit := close.map (·.lowLimit), highLimit := close.map (·.highLimit)
    desiredRate := close.map (·.desiredRate), floor := close.map (·.floor), finalRate := close.map (·.finalRate)
    greens := (laneNos.filter fun ln => ln.val < old.closeLanes r).map fun ln => (old.seq r).greens.get ln
    flags :=
      { noMergeData := res.merge.isNone, queueHeld := res.queueHeld, substituted := res.substituted
        protectionActive := (close.map (·.protectionActive)).getD false
        protectionLimited := (close.map (·.protectionLimited)).getD false
        rateClamped := (close.map (·.rateClamped)).getD false
        fallback := (t.planList r).topOrigin = some .fallback
        testSeen := rampTestSeen (old.loops.map Loop.value) r } }

namespace CloseDone

variable {old u w q f t : State} {v : CloseView}

section Closed

variable (h : CloseDone old v u w q f t)
include h

theorem record {r : Ramp} (e : old.closeLanes r ≠ 0) :
    (f.setMeas r (q.meas r)).historyOf v r (old.closeResults u r) = closeRecord old u t r := by
  have rate : (f.setMeas r (q.meas r)).rate r = t.rate r := by
    unfold State.rate; rw [h.rates]; rfl
  have list : (f.setMeas r (q.meas r)).planList r = t.planList r := by
    have lists : t.lists = f.lists := (congrArg State.lists h.frame :)
    unfold State.planList; rw [lists]; rfl
  have number : (f.setMeas r (q.meas r)).timer.number = old.timer.number := by
    rw [← h.read.number]; exact congrArg PeriodTimer.number h.clock
  have stamp : (f.setMeas r (q.meas r)).stamp = old.stamp := h.stamp
  unfold historyOf closeRecord lanesUpTo
  dsimp only
  rw [rate, list, number, stamp, meas_setMeas_self, h.queued e, h.state, h.lanes, h.greens, h.values]

/-! ### The lists -/

theorem list_kept {r : Ramp} (e : old.closeLanes r = 0 ∨ (u.seq r).state ≠ .metering ∨ (old.planList r).governingPlan = none) :
    t.planList r = old.planList r := by
  rw [h.planList, closeListed, h.read.planList]
  split
  · rename_i metering
    obtain ⟨lanes, state⟩ := (h.metering r).1 metering
    have none_governs := (e.resolve_left lanes).resolve_left (not_not.2 state)
    unfold runListed
    rw [h.read.planList, none_governs]
  · rfl

theorem list_judged {r : Ramp} {k : PlanSlot} (e : old.closeLanes r ≠ 0) (metering : (u.seq r).state = .metering)
    (governs : (old.planList r).governingPlan = some k) :
    t.planList r = { old.planList r with
      fallback := if old.canRun k (meanOccupancy (members (old.loops.map Loop.value) (inMerge r))) then none
        else some (old.fallbackFor k (meanOccupancy (members (old.loops.map Loop.value) (inMerge r)))) } := by
  rw [h.planList, closeListed, if_pos ((h.metering r).2 ⟨e, metering⟩), h.results_some e,
    runListed_congr h.read.readable (h.read.planList r)]
  unfold runListed
  rw [governs]
  rfl

theorem list_entries (r : Ramp) : (t.planList r).hold = (old.planList r).hold ∧ (t.planList r).command = (old.planList r).command
    ∧ (t.planList r).schedule = (old.planList r).schedule := by
  rw [h.planList, closeListed, h.read.planList]
  split
  · unfold runListed
    rw [h.read.planList]
    cases (old.planList r).governingPlan <;> exact ⟨rfl, rfl, rfl⟩
  · exact ⟨rfl, rfl, rfl⟩

/-! ### The events -/

theorem raised {c : EventClass} {b : Bool} {event : Prop} (ne : c ≠ .memory)
    (pending : ∀ p, classIn c (t.port p).pending = (classIn c (f.port p).pending || (b && f.delivers c p))) (caused : b = true ↔ event) :
    raisedBetween c event u t := by
  intro p
  have port : f.port p = w.port p := by unfold port; rw [h.portsFull]
  have silent (p : Port) : (f.port p).silent = (u.port p).silent := by
    rw [← h.judged.silent p]; unfold State.port; rw [h.portsFull]
  rw [pending, port, h.judged.pending c ne p, delivers_congr h.router silent c p, Bool.or_eq_true_iff, Bool.and_eq_true_iff, caused]

theorem corridorData : t.corridorMeasure.bottleneckData = (bottleneckResult (old.loops.map Loop.value)).occupancy.isSome := by
  rw [h.corridorMeasure, h.settled.corridorMeasure, h.judged.corridorMeasure, h.values]
  rfl

theorem station_caused : stationDataEvent v old f = true
    ↔ (∃ r, old.closeLanes r ≠ 0
        ∧ (stationTurns u.router.edges.stationData (old.loops.map Loop.value) (inMerge r) (old.meas r).mergeData (t.meas r).mergeData
          ∨ stationTurns u.router.edges.stationData (old.loops.map Loop.value) (inArrivals r) (old.meas r).arrivalsData
              (t.meas r).arrivalsData
          ∨ stationTurns u.router.edges.stationData (old.loops.map Loop.value) (inQueueEnd r) (old.meas r).queueEndData
              (t.meas r).queueEndData))
      ∨ stationTurns u.router.edges.stationData (old.loops.map Loop.value) inBottleneck old.corridorMeasure.bottleneckData
          t.corridorMeasure.bottleneckData := by
  unfold stationDataEvent
  dsimp only
  rw [Bool.or_eq_true_iff, h.router, h.values, stationEdge_iff, h.corridorMeasure, List.any_eq_true]
  refine or_congr ⟨?_, ?_⟩ Iff.rfl
  · rintro ⟨r, -, turns⟩
    rw [Bool.and_eq_true_iff, Bool.or_eq_true_iff, Bool.or_eq_true_iff, stationEdge_iff, stationEdge_iff, stationEdge_iff, or_assoc,
      h.configured, ← h.meas] at turns
    exact ⟨r, turns⟩
  · rintro ⟨r, turns⟩
    refine ⟨r, mem_ramps r, ?_⟩
    rw [Bool.and_eq_true_iff, Bool.or_eq_true_iff, Bool.or_eq_true_iff, stationEdge_iff, stationEdge_iff, stationEdge_iff, or_assoc,
      h.configured, ← h.meas]
    exact turns

theorem fallback_caused : fallbackEvent (u.closeStations v) w = true
    ↔ ∃ r, flagTurns u.router.edges.fallback (old.planList r).fallback.isSome (t.planList r).fallback.isSome := by
  have before (r : Ramp) : (u.closeStations v).planList r = old.planList r := by
    have lists : (u.closeStations v).lists = u.lists := by
      have frame := (closeStations_spec u v).1
      generalize u.closeStations v = m at frame
      exact (congrArg State.lists frame :)
    unfold State.planList; rw [lists, h.read.lists]
  have after (r : Ramp) : w.planList r = t.planList r := by unfold State.planList; rw [h.lists]
  have router : w.router = u.router := (congrArg State.router h.judged.frame :)
  unfold fallbackEvent
  simp only [List.any_eq_true, mem_ramps, true_and, flagEdge_iff, before, after, router]

theorem period_delivered {p : Port} (routed : u.delivers .period p = true) : classIn .period (t.port p).pending = true :=
  (h.raised (by decide) h.period (Iff.of_eq (eq_self true)) p).2 (Or.inr ⟨trivial, routed⟩)

end Closed

end CloseDone

end State

end Sys2Proof.Machine
end

section
/-! PROOFS. PERIOD_CLOSE settles the period (O42), assembled from the facts of the close. -/

namespace Sys2Proof.Machine

open State

theorem inStations (r : Ramp) (ln : LaneNo) (x : Identity) : (inMerge r x = true ↔ x.role = .merge ∧ x.ramp = some r)
    ∧ (inArrivals r x = true ↔ x.role = .demand ∧ x.ramp = some r)
    ∧ (inQueueEnd r x = true ↔ x.role = .queueEnd ∧ x.ramp = some r)
    ∧ (inPassage r ln x = true ↔ x.role = .passage ∧ x.ramp = some r ∧ x.lane = some (ln.val + 1))
    ∧ (inBottleneck x = true ↔ x.role = .bottleneck) := by
  simp [inMerge, inArrivals, inQueueEnd, inPassage, inBottleneck, and_assoc]

theorem canRun_iff {s : State} {k : PlanSlot} {merge : Option Nat} :
    s.canRun k merge = true ↔ ∃ p, s.readablePlan k = some p ∧ (p.mode = .fixed ∨ merge.isSome = true) := by
  unfold canRun
  cases s.readablePlan k <;> simp

namespace State.CloseDone

variable {old u w q f t : State} {v : CloseView} (h : CloseDone old v u w q f t)
include h

/-- The period timer and the loops after a close (R10, R21). -/
theorem settles_period : t.timer.samples = 0 ∧ t.timer.number = (old.timer.number + 1) % 65536
    ∧ t.timer.scrubCount = old.timer.scrubCount := by
  rw [h.timer, h.clock, ← h.read.number, ← h.read.scrubCount]
  exact ⟨rfl, rfl, rfl⟩

theorem settles_loop (i : LoopNo) : (t.loop i).StartsAnew (old.loop i).value := by
  unfold State.loop; rw [h.loops]; exact h.read.loop i

theorem conditions (r : Ramp) : (t.meas r).mergeData = ((t.meas r).results.bind (·.merge)).isSome
    ∧ (t.meas r).arrivalsData = ((t.meas r).results.bind (·.arrivals)).isSome
    ∧ (t.meas r).queueEndData = ((t.meas r).results.bind (·.queueEnd)).isSome := by
  rw [h.meas, h.settled.meas]
  exact ⟨rfl, rfl, rfl⟩

theorem corridorRing : t.corridorMeasure.history
    = old.corridorMeasure.history.drop (old.corridorMeasure.history.length - 19) ++ [f.corridorRecord34] := by
  rw [h.corridorMeasure, h.settled.corridorMeasure, h.judged.corridorMeasure, h.read.corridorMeasure]
  exact ringAppend_eq _ _

theorem corridorRecord : f.corridorRecord34 = { period := old.timer.number
                                                bottleneck := (bottleneckResult (old.loops.map Loop.value)).occupancy
                                                allowance := t.corridorRate.allowance
                                                sumDesired := (t.corridorRate.results.bind (·.coordination)).map (·.1)
                                                excess := (t.corridorRate.results.bind (·.coordination)).map (·.2)
                                                heldCount := t.corridorRate.heldCount
                                                allowanceHeld := t.corridorRate.allowanceHeld
                                                coordinationSuspended := t.corridorRate.suspended
                                                allowanceNotMet := t.corridorRate.notMet } := by
  have rate : f.corridorRate = t.corridorRate := by rw [h.corridorRate, h.settled.corridorRate]
  unfold corridorRecord34
  dsimp only
  rw [rate, h.settled.corridorMeasure, h.judged.corridorMeasure, h.clock, h.read.number, h.values]
  rfl

theorem estimate_metering {r : Ramp} (e : old.closeLanes r ≠ 0) (metering : (u.seq r).state = .metering) :
    (t.meas r).queueEstimate = queueRaise (t.planInUse r) (old.closeResults u r)
      (balance (old.meas r).queueEstimate (old.closeResults u r)) := by
  rw [h.meas_configured e]
  exact if_pos metering

end State.CloseDone

theorem queueRaise_eq (plan : Option Plan) (res : RampResults) (estimate : Nat) :
    queueRaise plan res estimate = match plan, res.queueEnd with
    | some p, some n => if p.queueEndThreshold ≤ n then max estimate p.queueStorage else estimate
    | _, _ => estimate := by
  unfold queueRaise
  cases plan <;> cases res.queueEnd <;> rfl

/-- Settles O42. -/
theorem periodCloseSettlesThePeriod : Obligations.PeriodCloseSettlesThePeriod := by
  refine ⟨fun st => ⟨meanOccupancy_none, fun n total hn ht ne => ?_, fun m => maxOccupancy_iff, sumCounts_none, sumCounts_some⟩,
    fun vs belongs v => mem_members, inStations, fun s running => ⟨exec_periodClose_early running, fun due vs u hvs hu => ?_⟩⟩
  · subst hn ht
    exact if_neg ne
  · have h := closeDone s
    have reads : u = s.closeRead := hu
    rw [← reads] at h
    generalize s.closeSeen = v at h
    generalize s.closeOne = w at h
    generalize w.closeQueued v = q at h
    generalize s.closeFull = f at h
    refine ⟨_, exec_periodClose running due, ?_⟩
    generalize s.closePhases = t at h ⊢
    obtain ⟨samples, number, scrub⟩ := h.settles_period
    refine ⟨samples, number, scrub, fun i => ?_, fun r => ?_, fun r => h.read.stays_metering, fun r => h.meas_unconfigured, fun r e => ?_,
      fun r => h.list_kept, fun r k merge e metering governs hm => ?_, fun k merge => canRun_iff, ?_, ⟨_, h.corridorRing, ?_⟩, rfl,
      h.conditions, ?_, ?_, h.raised (by decide) h.fallback h.fallback_caused, h.raised (by decide) h.period (by simp), fun routed => ?_,
      fun routed => ?_, h.list_entries, h.pinned⟩
    · obtain ⟨last, on, count, notOk, rewritten, test⟩ := h.settles_loop i
      exact ⟨last, on, count, notOk, rewritten, test⟩
    · rw [h.seq]
    · subst hvs
      have after := h.meas_configured e
      rw [h.record e, ringAppend_eq] at after
      have estimate : (t.meas r).queueEstimate = s.closeEstimate u t r := by rw [after]; rfl
      refine ⟨s.closeResults u r, closeRecord s u t r, by rw [after]; rfl, rfl, rfl, rfl, departures_eq, substituted_iff,
        by rw [after]; rfl, rfl, rfl, rfl, rfl, rfl, rfl, rfl, rfl, rfl, estimate.symm, rfl, fun close hclose => ?_, rfl, rfl, rfl, rfl,
        rampTestSeen_iff, fun idle => ?_, fun metering => ⟨?_, fun balanced hb => ?_⟩⟩
      · subst hclose
        exact ⟨rfl, rfl, rfl, rfl, rfl, rfl, rfl, rfl, rfl, rfl⟩
      · rw [estimate]; exact if_neg idle
      · unfold closeResults; simp [metering]
      · have same : balanced = balance (s.meas r).queueEstimate (s.closeResults u r) := hb
        subst same
        exact (h.estimate_metering e metering).trans (queueRaise_eq _ _ _)
    · subst hvs hm
      exact h.list_judged e metering governs
    · rw [h.corridorMeasure, h.settled.corridorMeasure, h.judged.corridorMeasure, h.values, hvs]
    · rw [h.corridorRecord, hvs]
      exact ⟨rfl, rfl, rfl, rfl, rfl, rfl, rfl, rfl, rfl⟩
    · rw [h.corridorData, hvs]
    · subst hvs
      exact h.raised (by decide) h.station h.station_caused
    · have route : u.router.routes.of .period = .centre ∨ u.router.routes.of .period = .both := by rw [h.read.routes]; exact routed
      exact h.period_delivered (by simpa [delivers] using route)
    · have route : u.router.routes.of .period = .cabinet ∨ u.router.routes.of .period = .both := by rw [h.read.routes]; exact routed
      exact h.period_delivered (Bool.or_eq_true_iff.2 (Or.inl (by simpa using route)))

end Sys2Proof.Machine
end

section
/-! PROOFS. The rates of a close (O43): the stages 2 to 5 of a ramp, their limits, and the hand-over by PERIOD_CLOSE. -/

namespace Sys2Proof.Machine

open State

/-! ### Limits -/

section Limits

variable {lo hi x y : Nat}

theorem low_le_clampNat (h : lo ≤ hi) : lo ≤ clampNat lo hi x := le_min h (le_max_left lo x)
theorem clampNat_le_high : clampNat lo hi x ≤ hi := min_le_left hi _
theorem clampNat_mono (h : x ≤ y) : clampNat lo hi x ≤ clampNat lo hi y := min_le_min_left hi (max_le_max_left lo h)

variable (t : SafetyRec) (p : Plan) (lanes : Nat)

theorem limits_ordered : (limitsOf t p lanes).low ≤ (limitsOf t p lanes).high := min_le_right _ _

theorem limits_bounds : (limitsOf t p lanes).high ≤ p.rateMaximum ∧ (limitsOf t p lanes).high ≤ t.rateCeiling
    ∧ (limitsOf t p lanes).high ≤ (limitsOf t p lanes).cap :=
  ⟨min_le_left _ _, (min_le_right _ _).trans (min_le_left _ _), (min_le_right _ _).trans (min_le_right _ _)⟩

/-- A rate within the timing cap gives a slot interval of at least the minimum (R50, R59). -/
theorem minSlot_le_slotInterval {vehicles rate minSlot : Nat} (positive : 0 < rate) (within : rate ≤ timingCap vehicles minSlot) :
    minSlot ≤ slotIntervalOf vehicles rate := by
  unfold timingCap at within
  unfold slotIntervalOf
  have slots : rate * minSlot ≤ 36000 * vehicles := (Nat.mul_le_mul_right minSlot within).trans (Nat.div_mul_le_self _ _)
  rw [Nat.le_div_iff_mul_le (by omega)]
  calc minSlot * (2 * rate) = 2 * (rate * minSlot) := by ring
    _ ≤ 72000 * vehicles + rate := by omega

end Limits

/-! ### The stages 2 to 5 of one ramp (R45 to R53) -/

section Stages

variable {t : SafetyRec} {p : Plan} {builtin : Bool} {lanes : Nat} {previous : Option Nat} {estimate : Nat} {res : RampResults}

/-- The rate that stage 5 clamps: the greater of local rate and queue rate (R52). -/
def Stage5.wanted (x : Stage5) : Int :=
  match x.queueRate with
  | some rate => max x.localRate (rate : Int)
  | none => x.localRate

theorem stage5_desired {x : Stage5} (hx : x = stage5 t p builtin lanes previous estimate res) :
    x.desired = clampNat x.limits.low x.limits.high x.wanted.toNat ∧ (x.clamped = true ↔ (x.desired : Int) ≠ x.wanted) := by
  subst hx
  exact ⟨rfl, decide_eq_true_iff⟩

theorem stage5_floor {x : Stage5} (hx : x = stage5 t p builtin lanes previous estimate res) :
    x.floor = match p.coordinated, x.queueRate with
      | true, some rate => clampNat x.limits.low x.limits.high rate
      | _, _ => x.limits.low := by
  subst hx
  rfl

theorem stage5_limits {x : Stage5} (hx : x = stage5 t p builtin lanes previous estimate res) : x.limits = limitsOf t p lanes := by
  subst hx; rfl

/-- Floor, desired and final rate lie between the limits in that order (R52, R53). -/
theorem stage5_ordered {x : Stage5} (hx : x = stage5 t p builtin lanes previous estimate res) :
    x.limits.low ≤ x.floor ∧ x.floor ≤ x.desired ∧ x.desired ≤ x.limits.high := by
  have limits : x.limits.low ≤ x.limits.high := by rw [stage5_limits hx]; exact limits_ordered t p lanes
  have floor := stage5_floor hx
  have desired := (stage5_desired hx).1
  refine ⟨?_, ?_, by rw [desired]; exact clampNat_le_high⟩
  · rw [floor]
    split
    · exact low_le_clampNat limits
    · exact le_refl _
  · rw [floor, desired]
    split
    · rename_i rate _ active
      refine clampNat_mono ?_
      have : (rate : Int) ≤ x.wanted := by unfold Stage5.wanted; rw [active]; exact le_max_right _ _
      omega
    · exact low_le_clampNat limits

theorem stage5_protection {x : Stage5} (hx : x = stage5 t p builtin lanes previous estimate res) :
    x.queueRate.isSome = true ↔ builtin = false ∧ (p.queueKeep < estimate ∨ ∃ n, res.queueEnd = some n ∧ p.queueEndThreshold ≤ n) := by
  have active : x.queueRate.isSome = protectionActive builtin p estimate res.queueEnd := by
    subst hx
    unfold stage5
    dsimp only
    cases protectionActive builtin p estimate res.queueEnd <;> rfl
  rw [active]
  unfold protectionActive
  cases builtin <;> cases res.queueEnd <;> simp

/-- The queue rate is the arrivals' rate and the least drain that clears the queue above the keep in the flush time (R48). -/
theorem stage5_queueRate {x : Stage5} (hx : x = stage5 t p builtin lanes previous estimate res) {rate : Nat}
    (h : x.queueRate = some rate) (flush : 0 < p.flushPeriods) :
    ∃ drain, rate = res.arrivals.getD 0 * 120 + drain ∧ (estimate - p.queueKeep) * 120 ≤ drain * p.flushPeriods
      ∧ ∀ less, (estimate - p.queueKeep) * 120 ≤ less * p.flushPeriods → drain ≤ less := by
  have reckoned : rate = queueRateOf p estimate res.arrivals := by
    subst hx
    unfold stage5 at h
    dsimp only at h
    split at h
    · exact (Option.some.inj h).symm
    · cases h
  refine ⟨((estimate - p.queueKeep) * 120 + p.flushPeriods - 1) / p.flushPeriods, reckoned, ?_, fun less enough => ?_⟩
  · generalize (estimate - p.queueKeep) * 120 = above
    have division := Nat.div_add_mod (above + p.flushPeriods - 1) p.flushPeriods
    have remainder := Nat.mod_lt (above + p.flushPeriods - 1) flush
    rw [Nat.mul_comm] at division
    omega
  · rw [Nat.div_le_iff_le_mul_add_pred flush, Nat.mul_comm p.flushPeriods less]
    omega

theorem stage5_limited {x : Stage5} (hx : x = stage5 t p builtin lanes previous estimate res) :
    x.limited = true ↔ ∃ rate, x.queueRate = some rate ∧ x.limits.high < rate := by
  subst hx
  unfold stage5
  dsimp only
  cases protectionActive builtin p estimate res.queueEnd <;> simp

end Stages

/-! ### The final rate (R56 to R58) -/

section FinalRate

variable {allowance : Nat} {xs : Stage5s} {r : Ramp} {x : Stage5}

theorem mem_coordinatedSet : (r, x) ∈ coordinatedSet xs ↔ xs.get r = some x ∧ x.coordinated = true := by
  unfold coordinatedSet
  rw [List.mem_filterMap]
  constructor
  · rintro ⟨r', -, found⟩
    cases own : xs.get r' with
    | none => rw [own] at found; cases found
    | some y =>
      rw [own] at found
      dsimp only at found
      split at found
      · rename_i coordinated
        obtain ⟨rfl, rfl⟩ := Prod.mk.inj (Option.some.inj found)
        exact ⟨own, coordinated⟩
      · cases found
  · rintro ⟨own, coordinated⟩
    exact ⟨r, mem_ramps r, by rw [own]; exact if_pos coordinated⟩

theorem mem_marginRamps (own : xs.get r = some x) : r ∈ marginRamps xs ↔ x.coordinated = true ∧ 0 < x.margin := by
  unfold marginRamps
  rw [List.mem_map]
  constructor
  · rintro ⟨⟨r', y⟩, mem, rfl⟩
    obtain ⟨inSet, margin⟩ := List.mem_filter.1 mem
    obtain ⟨found, coordinated⟩ := mem_coordinatedSet.1 inSet
    obtain rfl := Option.some.inj (own.symm.trans found)
    exact ⟨coordinated, of_decide_eq_true margin⟩
  · rintro ⟨coordinated, margin⟩
    exact ⟨(r, x), List.mem_filter.2 ⟨mem_coordinatedSet.2 ⟨own, coordinated⟩, decide_eq_true margin⟩, rfl⟩

/-- A share of an excess below the sum of margins is at most the ramp's margin (R58). -/
theorem shareOf_le_margin {excess : Nat} (own : xs.get r = some x) (partly : excess < sumMargins xs) : shareOf xs excess r x ≤ x.margin := by
  have share : flooredShare excess (sumMargins xs) x.margin ≤ x.margin := by
    refine Nat.div_le_of_le_mul ?_
    exact Nat.mul_le_mul_right _ partly.le
  unfold shareOf
  split
  · rename_i mem
    have positive := ((mem_marginRamps own).1 (List.mem_of_mem_take mem)).2
    have below : flooredShare excess (sumMargins xs) x.margin < x.margin := by
      refine Nat.div_lt_of_lt_mul ?_
      exact Nat.mul_lt_mul_of_pos_right partly positive
    omega
  · omega

theorem finalRate_bounds (applied : Bool) (own : xs.get r = some x) (ordered : x.floor ≤ x.desired) :
    x.floor ≤ finalRateOf applied allowance xs r x ∧ finalRateOf applied allowance xs r x ≤ x.desired := by
  unfold finalRateOf
  dsimp only
  split
  · exact ⟨ordered, le_refl _⟩
  · split
    · exact ⟨le_refl _, ordered⟩
    · rename_i unsettled partly
      have positive : ¬ excessOf xs allowance ≤ 0 := fun none_over => unsettled (by simp [none_over])
      have share := shareOf_le_margin (xs := xs) (r := r) (excess := (excessOf xs allowance).toNat) own (by omega)
      unfold Stage5.margin at share
      omega

end FinalRate

end Sys2Proof.Machine
end

section
/-! PROOFS. PERIOD_CLOSE hands the rates over within their limits (O43). -/

namespace Sys2Proof.Machine

open State

namespace State.CloseDone

variable {old u w q f t : State} {v : CloseView} (h : CloseDone old v u w q f t)
include h

theorem queuedFrame {α : Type} (g : State → α) (e : g { q with measure := w.measure } = g q) : g q = g w :=
  e.symm.trans (congrArg g h.settled.queued)

theorem queuedRate (r : Ramp) : q.rate r = u.rate r :=
  (h.queuedFrame (fun s => s.rate r) rfl).trans (congrArg (fun s : State => s.rate r) h.judged.frame :)

theorem queuedCorridorRate : q.corridorRate = old.corridorRate :=
  ((h.queuedFrame State.corridorRate rfl).trans (congrArg State.corridorRate h.judged.frame :)).trans h.read.corridorRate

theorem queuedTiming (r : Ramp) : (q.seq r).pendingTiming = (u.seq r).pendingTiming := by
  have same : q.seq r = w.seq r := h.queuedFrame (fun s => s.seq r) rfl
  rw [same, h.judged.seq]

/-- The results and the queue estimate of a ramp stand from phase 4 on. -/
theorem measured (r : Ramp) : (t.meas r).results = (q.meas r).results ∧ (t.meas r).queueEstimate = (q.meas r).queueEstimate := by
  rw [h.meas, h.settled.meas]
  unfold conditioned ringed
  cases (q.meas r).results <;> exact ⟨rfl, rfl⟩

/-- The stages 2 to 5 that the close reckons are those of the states after the reads and after the close. -/
theorem closeStage_eq (r : Ramp) : closeStage u t r = q.stageOf v r := by
  have lanes : u.closeLanes r = old.closeLanes r := by unfold closeLanes; rw [h.read.corridor]
  have readings : t.readings = w.readings := readings_of_memory h.memory
  have table : t.safetyInUse = w.safetyInUse := congrArg (fun x => x.2.1) readings
  have queuedTable := h.queuedFrame State.safetyInUse rfl
  have plan : t.planInUse r = q.planInUse r := (h.planInUse r).symm.trans (h.queuedFrame (fun s => s.planInUse r) rfl).symm
  have list : t.planList r = q.planList r := by
    unfold State.planList
    rw [h.lists, h.queuedFrame State.lists rfl]
  have builtin : t.runsBuiltin r = q.runsBuiltin r := by unfold runsBuiltin; rw [list]
  obtain ⟨results, estimate⟩ := h.measured r
  unfold closeStage stageOf
  rw [lanes, table, ← queuedTable, plan, builtin, results, estimate, ← h.queuedRate, h.lanes]
  by_cases metering : v.metering r = true
  · refine ((if_pos ((h.metering r).1 metering)).trans ?_).trans (if_pos metering).symm
    cases q.planInUse r <;> cases (q.meas r).results <;> rfl
  · exact (if_neg fun both => metering ((h.metering r).2 both)).trans (if_neg metering).symm

theorem closeStages_eq : closeStages u t = q.stages v := by
  unfold closeStages stages
  congr 1
  exact funext h.closeStage_eq

theorem applied_eq : applies old.corridorInUse t.corridorRate (q.stages v) = q.shares v := by
  rw [h.corridorRate, ← h.settings]; rfl

theorem allowance_eq : t.corridorRate.allowance = (q.allowed v).allowance := by
  rw [h.corridorRate]; rfl

theorem queue_caused : queueEvent old f = true
    ↔ ∃ r, flagTurns u.router.edges.queue (old.rate r).protection (t.rate r).protection := by
  have after (r : Ramp) : f.rate r = t.rate r := by rw [h.rate, h.settled.rate]
  unfold queueEvent
  simp only [List.any_eq_true, mem_ramps, true_and, flagEdge_iff, after, h.router]

/-- The rates and the Pending Timing of a ramp with stage 5 results (R42, R59, R63). -/
theorem handed {r : Ramp} {x : Stage5} (own : (q.stages v).get r = some x) :
    t.rate r = { previousClose := some (q.finalAt v r x), lastFinal := some (q.finalAt v r x)
                 close := some (closeResultsOf x (q.finalAt v r x) ((t.planList r).topOrigin = some .fallback))
                 protection := x.queueRate.isSome }
    ∧ (t.seq r).pendingTiming = some (timingOf x.limits (q.finalAt v r x)) := by
  have list : q.planList r = t.planList r := by
    unfold State.planList
    rw [h.lists, h.queuedFrame State.lists rfl]
  rw [h.rate, h.seq]
  unfold rateClosed timingClosed
  rw [own, list]
  exact ⟨rfl, rfl⟩

theorem unhanded {r : Ramp} (own : (q.stages v).get r = none) : (t.rate r).close = none ∧ (t.rate r).protection = false
    ∧ (t.rate r).lastFinal = (u.rate r).lastFinal ∧ (t.seq r).pendingTiming = (u.seq r).pendingTiming
    ∧ (old.closeLanes r = 0 ∨ (u.seq r).state ≠ .metering → (t.rate r).previousClose = none) := by
  rw [h.rate, h.seq]
  unfold rateClosed timingClosed
  rw [own, ← h.queuedRate, ← h.queuedTiming]
  refine ⟨rfl, rfl, rfl, rfl, fun idle => ?_⟩
  exact if_neg fun metering => by
    obtain ⟨lanes, state⟩ := (h.metering r).1 metering
    exact idle.elim lanes fun ne => ne state

end State.CloseDone

/-- Settles O43. -/
theorem ratesStayWithinTheirLimits : Obligations.RatesStayWithinTheirLimits := by
  refine ⟨fun t p builtin lanes previous estimate res x hx => ?_, fun applied allowance xs r x own ordered =>
    finalRate_bounds applied own (ordered r x own), fun vehicles rate minSlot => minSlot_le_slotInterval, fun s u running due hu => ?_⟩
  · have limits := stage5_limits hx
    obtain ⟨low, floor, high⟩ := stage5_ordered hx
    obtain ⟨desired, clamped⟩ := stage5_desired hx
    obtain ⟨planMax, ceiling, cap⟩ := limits_bounds t p lanes
    rw [← limits] at planMax ceiling cap
    refine ⟨by rw [limits]; rfl, by rw [limits]; rfl, by rw [limits]; rfl, by rw [limits]; rfl, by rw [limits]; rfl, ?_, low, floor, high,
      planMax, ceiling, ?_, fun fixed => ?_, fun m feedback merge => ?_, stage5_protection hx, fun rate => stage5_queueRate hx,
      fun wanted hw => ?_, ?_, stage5_limited hx⟩
    · rw [limits]; exact min_comm _ _
    · rw [limits] at cap ⊢; exact cap
    · subst hx; unfold stage5 localRateOf; rw [fixed]
    · subst hx; unfold stage5 localRateOf feedbackStep; rw [feedback, merge]; rfl
    · have same : wanted = x.wanted := hw
      subst same
      exact ⟨desired, clamped⟩
    · exact stage5_floor hx
  · have h := closeDone s
    have reads : u = s.closeRead := hu
    rw [← reads] at h
    generalize s.closeSeen = v at h
    generalize s.closeOne = w at h
    generalize w.closeQueued v = q at h
    generalize s.closeFull = f at h
    refine ⟨_, exec_periodClose running due, ?_⟩
    generalize s.closePhases = t at h ⊢
    refine ⟨fun xs applied r hxs ha => ?_, h.raised (by decide) h.queue h.queue_caused⟩
    subst hxs ha
    rw [h.closeStages_eq, h.applied_eq, h.allowance_eq]
    refine ⟨fun x final own hf => ?_, h.unhanded⟩
    subst hf
    exact h.handed own

end Sys2Proof.Machine
end

section
/-! PROOFS. Coordination (R56 to R58): the excess shared out over the coordinated ramps adds up. -/

namespace Sys2Proof.Machine

open State

/-! ### Sums and counts over lists -/

section Lists

variable {α β : Type}

theorem sum_filterMap (l : List α) (f : α → Option β) (g : β → Nat) :
    ((l.filterMap f).map g).sum = (l.map fun a => (f a).elim 0 g).sum := by
  induction l with
  | nil => rfl
  | cons a l ih => cases h : f a <;> simp [h, ih]

theorem sum_add (l : List α) (f g : α → Nat) : (l.map fun a => f a + g a).sum = (l.map f).sum + (l.map g).sum := by
  induction l with
  | nil => rfl
  | cons a l ih => simp only [List.map_cons, List.sum_cons, ih]; omega

/-- The floored shares of `excess` over the margins `m`, with one more for each positive margin, reach the excess. -/
theorem mul_le_shares (l : List α) (m : α → Nat) {excess total : Nat} (positive : 0 < total) :
    excess * (l.map m).sum ≤ total * ((l.map fun a => excess * m a / total).sum + (l.filter fun a => 0 < m a).length) := by
  induction l with
  | nil => simp
  | cons a l ih =>
    have division := Nat.div_add_mod (excess * m a) total
    have remainder := Nat.mod_lt (excess * m a) positive
    simp only [List.map_cons, List.sum_cons, Nat.mul_add] at ih ⊢
    by_cases zero : 0 < m a
    · rw [List.filter_cons_of_pos (by simpa using zero), List.length_cons, Nat.mul_add]
      omega
    · have none_left : m a = 0 := by omega
      rw [List.filter_cons_of_neg (by simpa using zero), none_left]
      simp only [Nat.mul_zero, Nat.zero_div]
      omega

theorem shares_le_mul (l : List α) (m : α → Nat) (excess total : Nat) :
    total * (l.map fun a => excess * m a / total).sum ≤ excess * (l.map m).sum := by
  induction l with
  | nil => simp
  | cons a l ih =>
    have division := Nat.mul_div_le (excess * m a) total
    simp only [List.map_cons, List.sum_cons, Nat.mul_add]
    omega

theorem sum_ite (l : List α) (p : α → Prop) [DecidablePred p] :
    (l.map fun a => if p a then 1 else 0).sum = (l.filter fun a => p a).length := by
  induction l with
  | nil => rfl
  | cons a l ih =>
    by_cases h : p a
    · rw [List.filter_cons_of_pos (by simpa using h), List.length_cons, ← ih, List.map_cons, List.sum_cons, if_pos h, Nat.add_comm]
    · rw [List.filter_cons_of_neg (by simpa using h), ← ih, List.map_cons, List.sum_cons, if_neg h, Nat.zero_add]

/-- The members of a sublist are as many as the members of the whole list that it holds. -/
theorem sum_indicator [DecidableEq α] {l k : List α} (nodup : l.Nodup) (sub : k.Sublist l) :
    (l.map fun a => if a ∈ k then 1 else 0).sum = k.length := by
  have chosen : (l.filter (· ∈ k)).Perm k :=
    (List.perm_ext_iff_of_nodup (nodup.filter _) (nodup.sublist sub)).2 fun a => by
      rw [List.mem_filter, decide_eq_true_iff]
      exact ⟨And.right, fun h => ⟨sub.subset h, h⟩⟩
  rw [sum_ite, chosen.length_eq]

/-- In an ascending list, the first `n` of the members with `p` are those with fewer than `n` such members before them. -/
theorem mem_take_filter {m : Nat} {l : List (Fin m)} (ascending : l.Pairwise (· < ·)) {a : Fin m} (mem : a ∈ l) (p : Fin m → Bool) (n : Nat) :
    a ∈ (l.filter p).take n ↔ p a = true ∧ (l.filter fun b => decide (b < a) && p b).length < n := by
  obtain ⟨low, high, rfl⟩ := List.mem_iff_append.1 mem
  obtain ⟨-, above, below⟩ := List.pairwise_append.1 ascending
  obtain ⟨after, -⟩ := List.pairwise_cons.1 above
  have before : (low ++ a :: high).filter (fun b => decide (b < a) && p b) = low.filter p := by
    rw [List.filter_append]
    have lows : low.filter (fun b => decide (b < a) && p b) = low.filter p :=
      List.filter_congr fun b hb => by rw [decide_eq_true (below b hb a List.mem_cons_self), Bool.true_and]
    have highs : (a :: high).filter (fun b => decide (b < a) && p b) = [] := by
      refine List.filter_eq_nil_iff.2 fun b hb both => ?_
      have lt : b < a := of_decide_eq_true (Bool.and_eq_true_iff.1 both).1
      rcases List.mem_cons.1 hb with rfl | inHigh
      · exact lt_irrefl _ lt
      · exact lt_asymm lt (after b inHigh)
    rw [lows, highs, List.append_nil]
  have notLow : a ∉ low.filter p := fun h => lt_irrefl a (below a (List.mem_of_mem_filter h) a List.mem_cons_self)
  have notHigh : a ∉ high.filter p := fun h => lt_irrefl a (after a (List.mem_of_mem_filter h))
  rw [before, List.filter_append, List.take_append, List.mem_append]
  by_cases own : p a = true
  · rw [List.filter_cons_of_pos own]
    by_cases room : (low.filter p).length < n
    · obtain ⟨k, hk⟩ := Nat.exists_eq_add_of_lt room
      have left : n - (low.filter p).length = k + 1 := by omega
      simp [left, own, room]
    · have left : n - (low.filter p).length = 0 := by omega
      rw [left, List.take_zero]
      refine ⟨fun h => ?_, fun h => absurd h.2 room⟩
      rcases h with h | h
      · exact absurd (List.mem_of_mem_take h) notLow
      · cases h
  · rw [List.filter_cons_of_neg own]
    refine ⟨fun h => ?_, fun h => absurd h.1 own⟩
    rcases h with h | h
    · exact absurd (List.mem_of_mem_take h) notLow
    · exact absurd (List.mem_of_mem_take h) notHigh

end Lists

/-! ### The coordinated set -/

section Coordinated

variable {xs : Stage5s}

/-- A sum over the coordinated ramps. -/
def sumOver (xs : Stage5s) (g : Ramp → Stage5 → Nat) : Nat := ((coordinatedSet xs).map fun e => g e.1 e.2).sum

/-- A ramp with its stage 5 results, where it is coordinated. -/
def coordinatedAt (xs : Stage5s) (r : Ramp) : Option (Ramp × Stage5) :=
  match xs.get r with
  | some x => if x.coordinated then some (r, x) else none
  | none => none

theorem coordinatedSet_eq : coordinatedSet xs = ramps.filterMap (coordinatedAt xs) := rfl

theorem sumOver_eq (g : Ramp → Stage5 → Nat) : sumOver xs g = (ramps.map fun r => match xs.get r with
    | some x => if x.coordinated then g r x else 0
    | none => 0).sum := by
  unfold sumOver
  rw [coordinatedSet_eq, sum_filterMap]
  congr 2
  funext r
  unfold coordinatedAt
  cases xs.get r with
  | none => rfl
  | some x => dsimp only; cases x.coordinated <;> rfl

theorem sumDesired_eq : sumDesired xs = sumOver xs fun _ x => x.desired := rfl
theorem sumMargins_eq : sumMargins xs = sumOver xs fun _ x => x.desired - x.floor := rfl

/-- A ramp of the coordinated set with margin (R58). -/
def hasMargin (xs : Stage5s) (r : Ramp) : Bool :=
  match xs.get r with
  | some x => x.coordinated && decide (x.floor < x.desired)
  | none => false

theorem marginRamps_eq : marginRamps xs = ramps.filter (hasMargin xs) := by
  unfold marginRamps
  rw [coordinatedSet_eq]
  generalize ramps = l
  induction l with
  | nil => rfl
  | cons r l ih =>
    have own : coordinatedAt xs r = none ∧ hasMargin xs r = false
        ∨ ∃ x, coordinatedAt xs r = some (r, x) ∧ hasMargin xs r = decide (0 < x.margin) := by
      unfold coordinatedAt hasMargin
      cases xs.get r with
      | none => exact Or.inl ⟨rfl, rfl⟩
      | some x =>
        dsimp only
        cases x.coordinated with
        | false => exact Or.inl ⟨rfl, rfl⟩
        | true => exact Or.inr ⟨x, rfl, by unfold Stage5.margin; simp⟩
    rcases own with ⟨absent, no⟩ | ⟨x, present, margin⟩
    · rw [List.filterMap_cons_none absent, ih, List.filter_cons_of_neg (by simp [no])]
    · rw [List.filterMap_cons_some present]
      by_cases positive : 0 < x.margin
      · rw [List.filter_cons_of_pos (by simpa using positive), List.map_cons, ih, List.filter_cons_of_pos (by simpa [margin] using positive)]
      · rw [List.filter_cons_of_neg (by simpa using positive), ih, List.filter_cons_of_neg (by simpa [margin] using positive)]

theorem coordinated_nodup : ((coordinatedSet xs).map (·.1)).Nodup := by
  refine ramps_nodup.sublist ?_
  rw [coordinatedSet_eq]
  generalize ramps = l
  induction l with
  | nil => exact List.Sublist.refl _
  | cons r l ih =>
    cases own : coordinatedAt xs r with
    | none => rw [List.filterMap_cons_none own]; exact ih.cons r
    | some e =>
      have first : e.1 = r := by
        unfold coordinatedAt at own
        split at own
        · split at own
          · rw [← Option.some.inj own]
          · cases own
        · cases own
      rw [List.filterMap_cons_some own, List.map_cons, first]
      exact ih.cons_cons r

theorem marginRamps_sublist : (marginRamps xs).Sublist ((coordinatedSet xs).map (·.1)) := List.filter_sublist.map _

/-- The remainder that R58 gives out one by one, and how far it reaches. -/
theorem remainder_spec {excess : Nat} (partly : excess < sumMargins xs) :
    sumOver xs (fun _ x => flooredShare excess (sumMargins xs) x.margin) + remainderOf xs excess = excess
      ∧ remainderOf xs excess ≤ (marginRamps xs).length := by
  have positive : 0 < sumMargins xs := by omega
  have reach := mul_le_shares (coordinatedSet xs) (fun e => e.2.margin) (excess := excess) positive
  have within := shares_le_mul (coordinatedSet xs) (fun e => e.2.margin) excess (sumMargins xs)
  have count : (marginRamps xs).length = ((coordinatedSet xs).filter fun e => 0 < e.2.margin).length := List.length_map ..
  have total : ((coordinatedSet xs).map fun e => e.2.margin).sum = sumMargins xs := rfl
  have floored : ((coordinatedSet xs).map fun e => excess * e.2.margin / sumMargins xs).sum
      = sumOver xs fun _ x => flooredShare excess (sumMargins xs) x.margin := rfl
  rw [total, floored, ← count, Nat.mul_comm] at reach
  rw [total, floored, Nat.mul_comm excess] at within
  have low := Nat.le_of_mul_le_mul_left within positive
  have high := Nat.le_of_mul_le_mul_left reach positive
  have remainder : remainderOf xs excess = excess - sumOver xs fun _ x => flooredShare excess (sumMargins xs) x.margin := rfl
  omega

/-- The shares of an excess below the sum of margins add up to it (R58). -/
theorem sum_shares {excess : Nat} (partly : excess < sumMargins xs) : sumOver xs (shareOf xs excess) = excess := by
  obtain ⟨whole, reaches⟩ := remainder_spec partly
  have ones := sum_indicator coordinated_nodup ((List.take_sublist (remainderOf xs excess) _).trans (marginRamps_sublist (xs := xs)))
  rw [List.map_map, List.length_take, min_eq_left reaches] at ones
  have split : sumOver xs (shareOf xs excess) = sumOver xs (fun _ x => flooredShare excess (sumMargins xs) x.margin)
      + ((coordinatedSet xs).map ((fun r => if r ∈ (marginRamps xs).take (remainderOf xs excess) then 1 else 0) ∘ (·.1))).sum :=
    sum_add ..
  rw [split, ones, whole]

/-! ### The final rates (R56 to R58) -/

section Final

variable {allowance : Nat} {r : Ramp} {x : Stage5}

theorem finalRate_unshared (h : x.coordinated = false ∨ sumDesired xs ≤ allowance) (applied : Bool) :
    finalRateOf applied allowance xs r x = x.desired := by
  unfold finalRateOf excessOf
  refine if_pos ?_
  rcases h with h | h
  · simp [h]
  · have : (sumDesired xs : Int) - allowance ≤ 0 := by omega
    simp [this]

theorem finalRate_floor (coordinated : x.coordinated = true) (over_allowance : allowance < sumDesired xs)
    (all : allowance + sumMargins xs ≤ sumDesired xs) : finalRateOf true allowance xs r x = x.floor := by
  unfold finalRateOf excessOf
  dsimp only
  rw [if_neg (by simp [coordinated]; omega), if_pos (by omega)]

theorem finalRate_shared (coordinated : x.coordinated = true) (over_allowance : allowance < sumDesired xs)
    (part : sumDesired xs < allowance + sumMargins xs) :
    finalRateOf true allowance xs r x = x.desired - shareOf xs (sumDesired xs - allowance) r x := by
  have excess : ((sumDesired xs : Int) - allowance).toNat = sumDesired xs - allowance := by omega
  unfold finalRateOf excessOf
  dsimp only
  rw [if_neg (by simp [coordinated]; omega), if_neg (by omega), excess]

/-- The final rates of the coordinated ramps add up to the allowance (R58). -/
theorem sum_finalRates (ordered : ∀ r y, xs.get r = some y → y.floor ≤ y.desired) (over_allowance : allowance < sumDesired xs)
    (part : sumDesired xs < allowance + sumMargins xs) : sumOver xs (finalRateOf true allowance xs) = allowance := by
  have shares := sum_shares (xs := xs) (excess := sumDesired xs - allowance) (by omega)
  have whole : sumOver xs (finalRateOf true allowance xs) + sumOver xs (shareOf xs (sumDesired xs - allowance)) = sumDesired xs := by
    change sumOver xs _ + sumOver xs _ = sumOver xs fun _ x => x.desired
    unfold sumOver
    rw [← sum_add]
    congr 1
    refine List.map_congr_left fun e he => ?_
    obtain ⟨own, coordinated⟩ := mem_coordinatedSet.1 (show (e.1, e.2) ∈ coordinatedSet xs from he)
    have share := shareOf_le_margin (excess := sumDesired xs - allowance) own (by omega)
    have margin := ordered e.1 e.2 own
    unfold Stage5.margin at share
    have final := finalRate_shared (r := e.1) coordinated over_allowance part
    dsimp only
    rw [final]
    omega
  omega

/-- The remainder goes one each to the lowest-numbered ramps with margin (R58). -/
theorem finalRate_share (own : xs.get r = some x) (coordinated : x.coordinated = true)
    (over_allowance : allowance < sumDesired xs)
    (part : sumDesired xs < allowance + sumMargins xs) {before : Nat}
    (lower : before = (ramps.filter fun r' => decide (r' < r) && hasMargin xs r').length) :
    finalRateOf true allowance xs r x + flooredShare (sumDesired xs - allowance) (sumMargins xs) x.margin
      + (if x.floor < x.desired ∧ before < remainderOf xs (sumDesired xs - allowance) then 1 else 0) = x.desired := by
  have share := shareOf_le_margin (excess := sumDesired xs - allowance) own (by omega)
  have bound : x.margin ≤ x.desired := Nat.sub_le _ _
  have margin : hasMargin xs r = true ↔ x.floor < x.desired := by
    unfold hasMargin
    rw [own]
    simp [coordinated]
  have chosen : r ∈ (marginRamps xs).take (remainderOf xs (sumDesired xs - allowance))
      ↔ x.floor < x.desired ∧ before < remainderOf xs (sumDesired xs - allowance) := by
    rw [marginRamps_eq, mem_take_filter (by decide) (mem_ramps r), margin, ← lower]
  rw [finalRate_shared coordinated over_allowance part]
  unfold shareOf at share ⊢
  simp only [chosen] at share ⊢
  omega

end Final

end Coordinated

end Sys2Proof.Machine
end

section
/-! PROOFS. Coordination at PERIOD_CLOSE (O44). -/

namespace Sys2Proof.Machine

open State

/-- The floored share of a ramp in an excess over the coordinated set (R58). -/
def flooredAt (xs : Stage5s) (excess : Nat) (r : Ramp) : Nat :=
  match xs.get r with
  | some x => if x.coordinated then excess * (x.desired - x.floor) / sumMargins xs else 0
  | none => 0

theorem sum_flooredAt (xs : Stage5s) (excess : Nat) : excess - (ramps.map (flooredAt xs excess)).sum = remainderOf xs excess :=
  congrArg (excess - ·) (sumOver_eq fun _ x => flooredShare excess (sumMargins xs) x.margin).symm

theorem coordinatedSet_nonempty {xs : Stage5s} :
    (!(coordinatedSet xs).isEmpty) = true ↔ ∃ r x, xs.get r = some x ∧ x.coordinated = true := by
  rw [Bool.not_eq_true', List.isEmpty_eq_false_iff_exists_mem]
  exact ⟨fun ⟨e, he⟩ => ⟨e.1, e.2, mem_coordinatedSet.1 he⟩, fun ⟨r, x, h⟩ => ⟨(r, x), mem_coordinatedSet.2 h⟩⟩

theorem applies_iff {cs : CorridorRec} {c : CorridorRate} {xs : Stage5s} : applies cs c xs = true
    ↔ cs.coordinationEnable = true ∧ c.suspended = false ∧ ∃ r x, xs.get r = some x ∧ x.coordinated = true := by
  unfold applies
  rw [Bool.and_eq_true_iff, Bool.and_eq_true_iff, coordinatedSet_nonempty, Bool.not_eq_true', and_assoc]

theorem notMet_iff {allowance : Nat} {xs : Stage5s} :
    notMetOf true allowance xs = true ↔ allowance + sumMargins xs < sumDesired xs := by
  unfold notMetOf excessOf
  simp only [Bool.true_and, Bool.and_eq_true, decide_eq_true_eq]
  omega

namespace State.CloseDone

variable {old u w q f t : State} {v : CloseView} (h : CloseDone old v u w q f t)
include h

theorem allowed_eq : q.allowed v
    = allowanceStage old.corridorInUse (bottleneckResult (old.loops.map Loop.value)).occupancy old.corridorRate := by
  unfold allowed
  rw [h.settings, h.values, h.queuedCorridorRate]

theorem allowance_caused : allowanceEvent old f = true
    ↔ flagTurns u.router.edges.allowance old.corridorRate.notMet t.corridorRate.notMet
      ∨ flagTurns u.router.edges.allowance old.corridorRate.allowanceHeld t.corridorRate.allowanceHeld
      ∨ flagTurns u.router.edges.allowance old.corridorRate.suspended t.corridorRate.suspended := by
  have rate : f.corridorRate = t.corridorRate := by rw [h.corridorRate, h.settled.corridorRate]
  unfold allowanceEvent
  dsimp only
  rw [Bool.or_eq_true_iff, Bool.or_eq_true_iff, flagEdge_iff, flagEdge_iff, flagEdge_iff, rate, h.router, or_assoc]

/-- What coordination shows after the close (R56, R57). -/
theorem shared (h' : q.shares v = true) : t.corridorRate.results
      = some { coordination := some (sumDesired (q.stages v), (sumDesired (q.stages v) : Int) - (t.corridorRate.allowance : Int)) }
    ∧ (t.corridorRate.notMet = true ↔ t.corridorRate.allowance + sumMargins (q.stages v) < sumDesired (q.stages v)) := by
  rw [h.corridorRate]
  unfold corridorClosed
  rw [h']
  exact ⟨rfl, notMet_iff⟩

theorem unshared (h' : q.shares v = false) : t.corridorRate.results = some { coordination := none } ∧ t.corridorRate.notMet = false := by
  rw [h.corridorRate]
  unfold corridorClosed
  rw [h']
  exact ⟨rfl, rfl⟩

theorem shares_iff : q.shares v = true ↔ old.corridorInUse.coordinationEnable = true ∧ t.corridorRate.suspended = false
    ∧ ∃ r x, (q.stages v).get r = some x ∧ x.coordinated = true := by
  rw [← h.applied_eq]; exact applies_iff

end State.CloseDone

/-- Settles O44. -/
theorem coordinationSharesTheExcess : Obligations.CoordinationSharesTheExcess := by
  refine ⟨fun allowance xs ordered => ⟨fun r x own => ⟨?_, fun alone => finalRate_unshared (Or.inl alone) true,
    fun within => finalRate_unshared (Or.inr within) true, finalRate_floor⟩, fun more part => ?_, ⟨?_, ?_⟩,
    fun more part excess rest share he hs hr r x before own coordinated hb => ?_⟩, fun s u vs cs running due hvs hu hcs => ?_⟩
  · unfold finalRateOf; rfl
  · exact (sumOver_eq _).symm.trans (sum_finalRates ordered more part)
  · exact sumDesired_eq.trans (sumOver_eq _)
  · exact sumMargins_eq.trans (sumOver_eq _)
  · have floored : share = flooredAt xs excess := hs
    have own_share : flooredAt xs excess r = flooredShare excess (sumMargins xs) x.margin := by
      unfold flooredAt
      rw [own]
      exact if_pos coordinated
    rw [floored, sum_flooredAt] at hr
    rw [floored, own_share, hr, he]
    exact finalRate_share own coordinated more part hb
  · have h := closeDone s
    have reads : u = s.closeRead := hu
    rw [← reads] at h
    generalize s.closeSeen = v at h
    generalize s.closeOne = w at h
    generalize w.closeQueued v = q at h
    generalize s.closeFull = f at h
    refine ⟨_, exec_periodClose running due, ?_⟩
    generalize s.closePhases = t at h ⊢
    subst hvs hcs
    have allowed := h.allowed_eq
    refine ⟨fun o occupied => ?_, fun empty => ?_, fun xs hxs => ?_, h.raised (by decide) h.allowance h.allowance_caused⟩
    · rw [occupied] at allowed
      rw [h.corridorRate]
      unfold corridorClosed
      rw [allowed]
      exact ⟨rfl, rfl, rfl, rfl⟩
    · rw [empty] at allowed
      rw [h.corridorRate]
      unfold corridorClosed
      rw [allowed]
      exact ⟨rfl, rfl, rfl, rfl⟩
    · subst hxs
      rw [h.closeStages_eq]
      refine ⟨fun all => h.shared (h.shares_iff.2 all), fun some_not => h.unshared ?_⟩
      rw [Bool.eq_false_iff]
      intro shares
      obtain ⟨enabled, running, r, x, own, coordinated⟩ := h.shares_iff.1 shares
      rcases some_not with off | suspended | alone
      · rw [enabled] at off; cases off
      · rw [running] at suspended; cases suspended
      · rw [alone r x own] at coordinated; cases coordinated

end Sys2Proof.Machine
end

section
/-! PROOFS. A restart's reads: a record that has been used once, and corridor settings that have been read and handed over, are left
alone by every further read (R104, R141, R159, R160, R188). -/

namespace Sys2Proof.Machine

open State

namespace State

variable {s t : State}

/-! ### Records that a further use leaves alone (R159, R160) -/

/-- The record is GOOD, or its damage has been discovered. -/
def recordSettled (s : State) (id : RecId) : Prop :=
  (s.health id).check = .good ∨ (s.health id).check = .twoErrors ∧ (s.health id).damagedMark = true

theorem useRecord_settled {id : RecId} (h : s.recordSettled id) : s.useRecord id = s := by
  unfold useRecord
  obtain good | ⟨damaged, mark⟩ := h
  · rw [good]; split <;> rfl
  · rw [damaged, mark]; split <;> rfl

theorem recordSettled_congr (h : t.memory = s.memory) (id : RecId) : t.recordSettled id ↔ s.recordSettled id := by
  unfold recordSettled health; rw [h]

/-- What a use of a record does to the health of the records (R159, R160). -/
theorem health_useRecord (s : State) (id : RecId) : (s.useRecord id = s)
    ∨ ∃ x : Health, (x.check = .good ∨ x.check = .twoErrors ∧ x.damagedMark = true)
      ∧ ∀ j, (s.useRecord id).health j = if RecId.turn j = RecId.turn id then x else s.health j := by
  unfold useRecord
  split
  · cases check : (s.health id).check with
    | good => exact .inl rfl
    | oneError => exact .inr ⟨_, .inl rfl, fun j => (health_setHealth s id j { s.health id with check := .good } :)⟩
    | twoErrors =>
      dsimp only
      split
      · exact .inl rfl
      · refine .inr ⟨{ s.health id with damagedMark := true }, .inr ⟨check, rfl⟩, fun j => ?_⟩
        have found : (s.discover id).health j = (s.setHealth id { s.health id with damagedMark := true }).health j := by
          unfold discover
          dsimp only
          rw [health_raise]
          split <;> rfl
        rw [found, health_setHealth]
  · exact .inl rfl

theorem recordSettled_useRecord {id : RecId} (h : s.recordSettled id) (j : RecId) : (s.useRecord j).recordSettled id := by
  obtain same | ⟨x, settled, health⟩ := health_useRecord s j
  · rwa [same]
  · unfold recordSettled
    rw [health]
    split
    · exact settled
    · exact h

theorem recordSettled_useRecord_self {id : RecId} (h : s.memory.holds id = true) : (s.useRecord id).recordSettled id := by
  obtain same | ⟨x, settled, health⟩ := health_useRecord s id
  · rw [same]
    cases check : (s.health id).check with
    | good => exact .inl check
    | oneError => exact absurd check (same ▸ check_useRecord_self s id h)
    | twoErrors =>
      refine .inr ⟨check, ?_⟩
      by_contra unmarked
      have discovered : s.useRecord id = s.discover id := by
        unfold useRecord; rw [if_pos h, check]; dsimp only; rw [if_neg unmarked]
      have found : (s.discover id).health id = { s.health id with damagedMark := true } := by
        unfold discover
        dsimp only
        rw [health_raise]
        refine Eq.trans ?_ (health_setHealth_self s id { s.health id with damagedMark := true })
        split <;> rfl
      rw [← discovered, same] at found
      exact unmarked (by rw [found])
  · unfold recordSettled
    rw [health, if_pos rfl]
    exact settled

/-! ### Corridor settings read and handed over (R104, R141, R188) -/

/-- The corridor settings have been read and handed to the ports, the Event Router and the Arbiter. -/
structure Handed (s : State) : Prop where
  lapses : s.lapsesStand
  routes : s.router.routes = s.corridorInUse.routes
  edges : s.router.edges = s.corridorInUse.edges
  defaults : s.arbiter.defaults = s.corridorInUse.defaultHolder
  settled : s.recordSettled .corridorSettings

theorem handed_takeCorridor (s : State) : s.takeCorridor.Handed := by
  obtain ⟨lapses, defaults, memory, -⟩ := handCorridor_spec s none s.corridorInUse
  have inUse := corridorInUse_takeCorridor s
  have router := router_handCorridor s none s.corridorInUse
  unfold takeCorridor at inUse ⊢
  generalize s.handCorridor none s.corridorInUse = u at *
  have calm := calm_useRecord u .corridorSettings
  exact {
    lapses := fun p => by rw [inUse, calm.lapseTime, lapses]
    routes := by rw [inUse, router_useRecord, router]
    edges := by rw [inUse, router_useRecord, router]
    defaults := by rw [inUse, arbiter_useRecord, defaults]
    settled := recordSettled_useRecord_self rfl }

/-- A further read of corridor settings that have been read and handed over changes nothing. -/
theorem Handed.takeCorridor_eq (h : s.Handed) : s.takeCorridor = s := by
  have handed : s.handCorridor none s.corridorInUse = s := by
    rw [handCorridor_lapsesStand h.lapses, ← h.routes, ← h.edges, ← h.defaults]
  unfold takeCorridor
  rw [handed, useRecord_settled h.settled]

/-- Settings handed over stay so as long as they, the values in force and the Lapse Times stay. -/
theorem Handed.of_same (h : s.Handed) (calm : s.Calm t) (router : t.router = s.router) (arbiter : t.arbiter.defaults = s.arbiter.defaults)
    (settled : t.recordSettled .corridorSettings) : t.Handed where
  lapses := calm.lapsesStand h.lapses
  routes := by rw [router, calm.corridorInUse, h.routes]
  edges := by rw [router, calm.corridorInUse, h.edges]
  defaults := by rw [arbiter, calm.corridorInUse, h.defaults]
  settled := settled

theorem Handed.beside (h : s.Handed) (calm : s.Calm t) (beside : s.Beside t) : t.Handed :=
  h.of_same calm beside.router (by rw [beside.arbiter]) ((recordSettled_congr beside.memory _).2 h.settled)

end State

/-! ### Sequencers that a Lane Count report leaves alone (R104) -/

/-- A ramp after the start of a restart: its fault-dark flag, its Lane Count and the demand lead to its state, no Lane Count pending
(R104, R125). -/
structure Sequencer.Resting (dark : Bool) (n : Nat) (demanded : Option PlanRef) (q : Sequencer) : Prop where
  count : q.laneCount = n
  pending : q.pendingCount = none
  fault : dark = true → q.state = .darkFault
  unconfigured : dark = false → n = 0 → q.state = .unconfigured
  configured : dark = false → n ≠ 0 → q.state = .off ∨ q.state = .warning ∧ demanded ≠ none ∧ q.supplyHold = false

namespace Sequencer

variable {dark : Bool} {n : Nat} {demanded : Option PlanRef} {q : Sequencer}

theorem Resting.off_count (h : q.Resting dark n demanded) (off : q.state = .off ∨ q.state = .warning) : dark = false ∧ n ≠ 0 := by
  cases dark with
  | true =>
    have := h.fault rfl
    rw [this] at off; simp at off
  | false =>
    refine ⟨rfl, fun zero => ?_⟩
    have := h.unconfigured rfl zero
    rw [this] at off; simp at off

theorem Resting.state_cases (h : q.Resting dark n demanded) :
    q.state = .darkFault ∨ q.state = .unconfigured ∧ n = 0 ∨ q.state = .off ∧ n ≠ 0 ∨ q.state = .warning ∧ n ≠ 0 := by
  cases dark with
  | true => exact .inl (h.fault rfl)
  | false =>
    by_cases zero : n = 0
    · exact .inr (.inl ⟨h.unconfigured rfl zero, zero⟩)
    · obtain off | ⟨warning, -⟩ := h.configured rfl zero
      · exact .inr (.inr (.inl ⟨off, zero⟩))
      · exact .inr (.inr (.inr ⟨warning, zero⟩))

theorem Resting.warned (h : q.Resting dark n demanded) (off : q.state = .off) (led : demanded ≠ none)
    (free : q.supplyHold = false) (cs : CorridorRec) :
    (q.warned cs).Resting dark n demanded := by
  obtain ⟨lit, laned⟩ := h.off_count (.inl off)
  exact ⟨h.count, h.pending, by simp [lit], fun _ zero => absurd zero laned, fun _ _ => .inr ⟨rfl, led, free⟩⟩

end Sequencer

namespace State

variable {s : State}

/-- Every ramp rests, for the Lane Counts of the corridor settings in use and the demanded plans of the lists. -/
def AllResting (s : State) : Prop := ∀ r,
  (s.seq r).Resting (s.retained.faultDark.get r) (s.corridorInUse.laneCount.get r) (s.planList r).demanded

theorem setSeq_seq (s : State) (r : Ramp) : s.setSeq r (s.seq r) = s := by
  unfold setSeq seq
  rw [Tab.set_get]

/-- A report that gives a ramp the Lane Count it has, none pending, changes nothing. -/
theorem report_resting {r : Ramp} {dark : Bool} {d : Option PlanRef}
    (h : (s.seq r).Resting dark (s.corridorInUse.laneCount.get r) d) : s.report r = s := by
  have same : ∀ st, st = (s.seq r).state → s.setSeq r { s.seq r with
      state := st
      laneCount := s.corridorInUse.laneCount.get r
      pendingCount := none } = s := by
    intro st e
    rw [e, ← h.count, ← h.pending]
    exact setSeq_seq s r
  unfold report
  dsimp only
  obtain dark | ⟨unconfigured, zero⟩ | ⟨off, laned⟩ | ⟨warning, laned⟩ := h.state_cases
  · rw [dark]
    exact same _ dark.symm
  · rw [unconfigured]
    exact if_pos zero
  · rw [off]
    dsimp only
    rw [if_neg laned]
    exact same _ off.symm
  · have settled := same _ warning.symm
    rw [← h.count] at settled
    rw [warning]
    dsimp only
    rw [if_pos h.count.symm]
    exact settled

theorem AllResting.reports_eq (h : s.AllResting) : s.reports = s :=
  each_induct (P := (· = s)) ramps report rfl fun r t same => by rw [same]; exact report_resting (h r)

/-- Where nothing is left to read or to report, entry into WARNING is the entry alone (R104, R105). -/
theorem enterWarning_resting {r : Ramp} (handed : s.Handed) (after : (s.warningEntry r).AllResting) :
    s.enterWarning r = s.warningEntry r := by
  unfold enterWarning
  rw [handed.takeCorridor_eq, after.reports_eq]

end State

end Sys2Proof.Machine

end

section
/-! PROOFS. What the moves of a sequencer keep at the ports, in the rates and in the lamps: no class leaves a Pending Set, the sensed
aspects stay, and rates without a previous close stay as they are (R42, R128, R189). -/

namespace Sys2Proof.Machine

open State

namespace State

/-! ### Pending Sets that only grow (R189) -/

/-- Every class pending at a port is still pending there. -/
def Grows (s t : State) : Prop := ∀ c p, classIn c (s.port p).pending = true → classIn c (t.port p).pending = true

namespace Grows

variable {s t u : State}

theorem refl : s.Grows s := fun _ _ h => h
theorem trans (h : s.Grows t) (g : t.Grows u) : s.Grows u := fun c p pending => g c p (h c p pending)

theorem of_pending (h : ∀ p, (t.port p).pending = (s.port p).pending) : s.Grows t := fun c p pending => by rw [h]; exact pending

theorem of_ports (h : t.ports = s.ports) : s.Grows t := .of_pending fun p => by rw [port_of_ports h]

theorem each {ι : Type} (xs : List ι) (f : ι → State → State) (step : ∀ x (t : State), t.Grows (f x t)) : s.Grows (s.each xs f) :=
  each_induct (P := s.Grows) xs f refl fun x t h => h.trans (step x t)

end Grows

variable (s : State) (r : Ramp)

theorem grows_deliver (d : EventClass) (p : Port) : s.Grows (s.deliver d p) := fun c q h => by
  rw [pending_deliver, h, Bool.true_or]

theorem grows_raise (d : EventClass) : s.Grows (s.raise d) := fun c q h => by
  rw [pending_raise, h, Bool.true_or]

theorem grows_raiseIf (b : Bool) (d : EventClass) : s.Grows (s.raiseIf b d) := fun c q h => by
  rw [pending_raiseIf, h, Bool.true_or]

theorem grows_modPort (p : Port) (f : LinkPort → LinkPort) (h : ∀ x, (f x).pending = x.pending) : s.Grows (s.modPort p f) :=
  fun c q pending => by rw [SamePending.modPort (c := c) p f h]; exact pending

theorem grows_useRecord (id : RecId) : s.Grows (s.useRecord id) := by
  unfold useRecord
  split
  · cases (s.health id).check with
    | good => exact .refl
    | oneError => exact .of_ports rfl
    | twoErrors =>
      dsimp only
      split
      · exact .refl
      · unfold discover
        dsimp only
        refine Grows.trans (.of_ports ?_) (grows_raise _ _)
        split <;> rfl
  · exact .refl

theorem grows_becomeSilent (p : Port) : s.Grows (s.becomeSilent p) := by
  obtain ⟨-, ports, -⟩ := each_giveUp p recordNos (s.modPort p fun x => { x with silent := true })
  have marked : s.Grows ((s.modPort p fun x => { x with silent := true }).each recordNos (giveUp p)) :=
    (grows_modPort s p (fun x => { x with silent := true }) fun _ => rfl).trans (.of_ports ports)
  unfold becomeSilent
  dsimp only
  split
  · exact marked.trans (grows_deliver _ _ p)
  · exact marked

theorem grows_takeLapse (spare : Bool) (lapse : Nat) (p : Port) : s.Grows (s.takeLapse spare lapse p) := by
  unfold takeLapse
  dsimp only
  generalize changed : (fun x : LinkPort => ({ x with lapseTime := lapse, spared := _ } : LinkPort)) = f
  have renewed : s.Grows (s.modPort p f) := grows_modPort s p f fun x => by rw [← changed]
  generalize s.modPort p f = t at renewed ⊢
  split
  · exact renewed.trans (grows_becomeSilent t p)
  · exact renewed

theorem grows_handCorridor (sender : Option Port) (cs : CorridorRec) : s.Grows (s.handCorridor sender cs) := by
  unfold handCorridor
  dsimp only
  refine Grows.trans ?_ (.each ports3 _ fun p t => grows_takeLapse t _ _ p)
  exact .of_ports rfl

theorem grows_takeCorridor : s.Grows s.takeCorridor := (grows_handCorridor s _ _).trans (grows_useRecord _ _)

/-! ### The moves of a sequencer -/

/-- From `s` to `t` a sequencer has moved: no class has left a Pending Set, no sensed aspect has changed, and rates without a previous
close are as they were. -/
structure Moves (s t : State) : Prop where
  grows : s.Grows t
  sensed : ∀ r ln, (t.lamp r ln).sensed = (s.lamp r ln).sensed
  rates : (∀ r, (s.rate r).previousClose = none) → t.rates = s.rates

namespace Moves

variable {s t u : State}

theorem refl : s.Moves s := ⟨.refl, fun _ _ => rfl, fun _ => rfl⟩

theorem trans (h : s.Moves t) (g : t.Moves u) : s.Moves u where
  grows := h.grows.trans g.grows
  sensed := fun r ln => (g.sensed r ln).trans (h.sensed r ln)
  rates := fun fresh => by
    have same := h.rates fresh
    exact (g.rates fun r => by unfold rate; rw [same]; exact fresh r).trans same

theorem each {ι : Type} (xs : List ι) (f : ι → State → State) (step : ∀ x (t : State), t.Moves (f x t)) : s.Moves (s.each xs f) :=
  each_induct (P := s.Moves) xs f refl fun x t h => h.trans (step x t)

theorem of_same (ports : t.ports = s.ports) (lamps : t.lamps = s.lamps) (rates : t.rates = s.rates) : s.Moves t :=
  ⟨.of_ports ports, fun r ln => by unfold lamp; rw [lamps], fun _ => rates⟩

end Moves

theorem moves_setSeq (q : Sequencer) : s.Moves (s.setSeq r q) := .of_same rfl rfl rfl
theorem moves_modSeq (f : Sequencer → Sequencer) : s.Moves (s.modSeq r f) := .of_same rfl rfl rfl

theorem moves_raise (c : EventClass) : s.Moves (s.raise c) :=
  ⟨grows_raise s c, fun r ln => by unfold lamp; rw [lamps_raise], fun _ => rates_raise s c⟩

theorem moves_clearRuns (ln : LaneNo) : s.Moves (s.setLamp r ln (s.lamp r ln).runsCleared) where
  grows := .of_ports rfl
  sensed := fun r' ln' => by
    by_cases same : r' = r ∧ ln' = ln
    · obtain ⟨rfl, rfl⟩ := same
      rw [lamp_setLamp_self, LaneMonitor.runsCleared_sensed]
    · rw [lamp_setLamp_ne]
      rwa [← not_and_or]
  rates := fun _ => rfl

/-- Entry into WARNING forgets the previous close of its ramp, so that rates without one stay (R42). -/
theorem moves_forget : s.Moves (s.setRate r { s.rate r with previousClose := none }) where
  grows := .of_ports rfl
  sensed := fun _ _ => rfl
  rates := fun fresh => by
    rw [setRate_rates, ← fresh r]
    exact Tab.set_get s.rates r

theorem moves_handLane (ln : LaneNo) (st : LaneState) : s.Moves (s.handLane r ln st) := by
  unfold handLane
  dsimp only
  split
  · exact moves_modSeq s r _
  · exact (moves_modSeq s r _).trans (moves_clearRuns _ r ln)

theorem moves_handLanes (st : LaneState) : s.Moves (s.handLanes r st) := .each _ _ fun ln t => moves_handLane t r ln _
theorem moves_darkLanes : s.Moves (s.darkLanes r) := .each _ _ fun ln t => moves_handLane t r ln _

theorem moves_setRampState (st : RampState) : s.Moves (s.setRampState r st) := by
  unfold setRampState
  dsimp only
  refine Moves.trans ?_ (moves_raise _ _)
  have flagged : s.Moves (if ((s.modSeq r fun q => { q with state := st }).seq r).supplyHold = true
      then s.modSeq r fun q => { q with state := st }
      else (s.modSeq r fun q => { q with state := st }).setWasMetering r (st = .warning || st = .metering)) := by
    split
    · exact .of_same rfl rfl rfl
    · exact .of_same rfl rfl rfl
  refine flagged.trans ?_
  by_cases unconfigured : st = .unconfigured
  · rw [if_pos unconfigured]
    exact .each _ _ fun ln t => moves_clearRuns t r ln
  · rw [if_neg unconfigured]
    exact .refl

theorem moves_goDark (st : RampState) : s.Moves (s.goDark r st) :=
  ((moves_darkLanes s r).trans (moves_modSeq _ r _)).trans (moves_setRampState _ r st)

theorem moves_warningEntry : s.Moves (s.warningEntry r) :=
  (((moves_handLanes s r _).trans (moves_modSeq _ r _)).trans (moves_forget _ r)).trans (moves_setRampState _ r _)

theorem moves_endingEntry : s.Moves (s.endingEntry r) :=
  ((moves_handLanes s r _).trans (moves_modSeq _ r _)).trans (moves_setRampState _ r _)

theorem moves_offSettled : s.Moves (s.offSettled r) := by
  unfold offSettled
  dsimp only
  split <;> split
  · exact (moves_setSeq s r _).trans (moves_setRampState _ r _)
  · exact moves_setSeq s r _
  · exact moves_setRampState s r _
  · exact .refl

theorem moves_offFollowed : s.Moves (s.offFollowed r) := by
  unfold offFollowed
  split
  · exact moves_warningEntry s r
  · exact .refl

theorem moves_report : s.Moves (s.report r) := by
  have toOff {t : State} (h : s.Moves t) : s.Moves (((t.goDark r .off).offSettled r).offFollowed r) :=
    ((h.trans (moves_goDark _ r _)).trans (moves_offSettled _ r)).trans (moves_offFollowed _ r)
  have set (q : Sequencer) : s.Moves (s.setSeq r q) := moves_setSeq s r q
  unfold report
  dsimp only
  cases (s.seq r).state with
  | off =>
    dsimp only; split
    · exact (set _).trans (moves_setRampState _ r _)
    · exact set _
  | darkFault => exact set _
  | unconfigured =>
    dsimp only; split
    · exact .refl
    · exact ((set _).trans (moves_setRampState _ r _)).trans (moves_offFollowed _ r)
  | warning =>
    dsimp only; split
    · exact set _
    · exact toOff (set _)
  | metering =>
    dsimp only; split
    · exact set _
    · split
      · exact set _
      · exact (set _).trans (moves_endingEntry _ r)
  | ending => exact set _

theorem moves_reports : s.Moves s.reports := .each _ _ fun r t => moves_report t r

end State

end Sys2Proof.Machine

end

section
/-! PROOFS. The rebuild of the lists at a restart, and what it shares with the restart read of the loops: records are used, lists or
loops are written, and events are raised (R19, R83, R95, R159). -/

namespace Sys2Proof.Machine

open State

namespace State

/-- From `s` to `t` records have been used, lists and loops written, and their events raised. -/
structure Consults (s t : State) : Prop where
  frame : ({ t with memory := s.memory, ports := s.ports, lists := s.lists, loops := s.loops } : State) = s
  calm : s.Calm { t with loops := s.loops }
  grows : s.Grows t
  pending : ∀ c, Aside c → c ≠ .schedule → c ≠ .loopFault → SamePending c s t
  settled : ∀ id, s.recordSettled id → t.recordSettled id
  memory : (∀ id, s.recordSettled id) → t.memory = s.memory

namespace Consults

variable {s t u : State}

theorem refl : s.Consults s := ⟨rfl, .refl s, .refl, fun _ _ _ _ => .refl, fun _ h => h, fun _ => rfl⟩

theorem trans (h : s.Consults t) (g : t.Consults u) : s.Consults u where
  frame := (congrArg (fun v : State => ({ v with
    memory := s.memory
    ports := s.ports
    lists := s.lists
    loops := s.loops } : State)) g.frame).trans h.frame
  calm := by
    have after : ({ t with loops := s.loops } : State).Calm { u with loops := s.loops } :=
      ⟨(congrArg (fun v : State => ({ v with loops := s.loops } : State)) g.calm.kept :), g.calm.links, g.calm.damaged⟩
    exact h.calm.trans after
  grows := h.grows.trans g.grows
  pending := fun c aside schedule loopFault => (h.pending c aside schedule loopFault).trans (g.pending c aside schedule loopFault)
  settled := fun id settled => g.settled id (h.settled id settled)
  memory := fun settled => (g.memory fun id => h.settled id (settled id)).trans (h.memory settled)

theorem each {ι : Type} (xs : List ι) (f : ι → State → State) (step : ∀ x (t : State), t.Consults (f x t)) :
    s.Consults (s.each xs f) :=
  each_induct (P := s.Consults) xs f refl fun x t h => h.trans (step x t)

/-- A change of the lists and loops alone. -/
theorem of_frame (frame : ({ t with lists := s.lists, loops := s.loops } : State) = s) : s.Consults t := by
  have ports : t.ports = s.ports := (congrArg State.ports frame :)
  have memory : t.memory = s.memory := (congrArg State.memory frame :)
  have kept : ({ t with loops := s.loops } : State).kept = s.kept := (congrArg State.kept frame :)
  have holders : t.arbiter.holders = s.arbiter.holders := (congrArg (fun v : State => v.arbiter.holders) frame :)
  exact {
    frame := by rw [← ports, ← memory] at *; exact frame
    calm := .of_tables kept ports holders memory
    grows := .of_ports ports
    pending := fun _ _ _ _ => .of_ports ports
    settled := fun id h => (recordSettled_congr memory id).2 h
    memory := fun _ => memory }

/-! ### What stays -/

theorem seq (h : s.Consults t) (r : Ramp) : t.seq r = s.seq r := (congrArg (State.seq · r) h.frame :)
theorem lamps (h : s.Consults t) : t.lamps = s.lamps := (congrArg State.lamps h.frame :)
theorem rates (h : s.Consults t) : t.rates = s.rates := (congrArg State.rates h.frame :)
theorem measure (h : s.Consults t) : t.measure = s.measure := (congrArg State.measure h.frame :)
theorem retained (h : s.Consults t) : t.retained = s.retained := (congrArg State.retained h.frame :)
theorem router (h : s.Consults t) : t.router = s.router := (congrArg State.router h.frame :)
theorem arbiter (h : s.Consults t) : t.arbiter = s.arbiter := (congrArg State.arbiter h.frame :)
theorem supply (h : s.Consults t) : t.supply = s.supply := (congrArg State.supply h.frame :)
theorem corridorInUse (h : s.Consults t) : t.corridorInUse = s.corridorInUse := (h.calm.corridorInUse :)

theorem handed (h : s.Consults t) (handed : s.Handed) : t.Handed := by
  have after : ({ t with loops := s.loops } : State).Handed :=
    handed.of_same h.calm h.router (congrArg Arbiter.defaults h.arbiter) (h.settled _ handed.settled)
  exact ⟨after.lapses, after.routes, after.edges, after.defaults, after.settled⟩

end Consults

variable (s : State)

theorem consults_useRecord (id : RecId) : s.Consults (s.useRecord id) := by
  have frame := useRecord_frame s id
  have calm := calm_useRecord s id
  have grows := grows_useRecord s id
  have pending := fun c (aside : Aside c) => samePending_useRecord s aside.memory id
  have settled := fun j (h : s.recordSettled j) => recordSettled_useRecord h id
  have memory := fun h : s.recordSettled id => congrArg State.memory (useRecord_settled h)
  generalize s.useRecord id = t at *
  have lists : t.lists = s.lists := (congrArg State.lists frame :)
  have loops : t.loops = s.loops := (congrArg State.loops frame :)
  exact {
    frame := by rw [← lists, ← loops]; exact frame
    calm := by rw [← loops]; exact calm
    grows := grows
    pending := fun c aside _ _ => pending c aside
    settled := settled
    memory := fun h => memory (h id) }

theorem consults_raiseIf {d : EventClass} (ne : d ≠ .authority) (other : ∀ c, Aside c → c ≠ .schedule → c ≠ .loopFault → c ≠ d)
    (b : Bool) : s.Consults (s.raiseIf b d) := by
  have frame : ({ s.raiseIf b d with ports := s.ports } : State) = s := by rw [raiseIf_ports_only]
  have calm := calm_raiseIf s b ne
  have grows := grows_raiseIf s b d
  have pending := fun c (h : c ≠ d) => SamePending.raiseIf (s := s) h b
  have memory := memory_raiseIf s b d
  generalize s.raiseIf b d = t at *
  have lists : t.lists = s.lists := (congrArg State.lists frame :)
  have loops : t.loops = s.loops := (congrArg State.loops frame :)
  exact {
    frame := by rw [← lists, ← loops, ← memory]; exact frame
    calm := by rw [← loops]; exact calm
    grows := grows
    pending := fun c aside schedule loopFault => pending c (other c aside schedule loopFault)
    settled := fun id h => (recordSettled_congr memory id).2 h
    memory := fun _ => memory }

theorem consults_setList (r : Ramp) (l : PlanList) : s.Consults (s.setList r l) := .of_frame rfl
theorem consults_setLoop (i : LoopNo) (l : Loop) : s.Consults (s.setLoop i l) := .of_frame rfl
theorem consults_setLists (x : Tab 6 PlanList) : s.Consults { s with lists := x } := .of_frame rfl

theorem consults_readSchedules : s.Consults s.readSchedules := .each _ _ fun _ t => consults_useRecord t _

theorem consults_fallbackTest (r : Ramp) : s.Consults (s.fallbackTest r) := by
  have write (t : State) (l : PlanList) (b : Bool) : t.Consults ((t.setList r l).raiseIf b .fallback) :=
    (consults_setList t r l).trans (consults_raiseIf _ (by decide) (fun _ aside _ _ => aside.fallback) b)
  unfold fallbackTest
  cases (s.planList r).governingPlan with
  | none => exact write s _ _
  | some k =>
    have read := consults_useRecord s (.plan k)
    dsimp only
    generalize s.useRecord (.plan k) = t at read ⊢
    split
    · exact read.trans (write t _ _)
    · exact read.trans (write t _ _)

theorem consults_rebuildLists : s.Consults s.rebuildLists := by
  have read : s.Consults (if s.retained.clockValid then s.readSchedules else s) := by
    split
    · exact consults_readSchedules s
    · exact .refl
  unfold rebuildLists
  dsimp only
  generalize (if s.retained.clockValid then s.readSchedules else s) = t at read ⊢
  refine Consults.trans ?_ (consults_raiseIf _ (by decide) (fun _ _ ne _ => ne) _)
  refine Consults.trans ?_ (.each _ _ fun r t => consults_fallbackTest t r)
  exact read.trans (consults_setLists t _)

theorem kept_rebuildLists : s.rebuildLists.kept = s.kept := by
  have read : (if s.retained.clockValid then s.readSchedules else s).kept = s.kept := by
    split
    · exact (calm_readSchedules s).kept
    · rfl
  unfold rebuildLists
  dsimp only
  generalize (if s.retained.clockValid then s.readSchedules else s) = t at read ⊢
  rw [kept_raiseIf]
  refine (each_proj State.kept ramps fallbackTest _ fun r u => kept_fallbackTest u r).trans ?_
  exact read

/-! ### The entries of the rebuilt lists (R83, R95, R177) -/

/-- The immediate fallback test leaves every entry of the lists but FALLBACK alone (R74). -/
theorem listEntries_fallbackTest (r r' : Ramp) : (s.fallbackTest r).listEntries r' = s.listEntries r' := by
  have write (t : State) (fb : Option PlanRef) (b : Bool) :
      ((t.setList r { t.planList r with fallback := fb }).raiseIf b .fallback).listEntries r' = t.listEntries r' := by
    unfold listEntries
    rw [planList_raiseIf]
    by_cases same : r' = r
    · subst same; rw [planList_setList_self]
    · rw [planList_setList_ne _ same]
  unfold fallbackTest
  cases (s.planList r).governingPlan with
  | none => exact write s none _
  | some k =>
    have read : (s.useRecord (.plan k)).listEntries r' = s.listEntries r' := by
      unfold listEntries planList; rw [lists_useRecord]
    dsimp only
    generalize s.useRecord (.plan k) = t at read ⊢
    split
    · exact (write t none _).trans read
    · exact (write t _ _).trans read

/-- The entries that the rebuild gives the list of a ramp: HOLD from its flag, COMMAND OFF by the Restart Policy, and no SCHEDULE where
the clock is not valid (R83, R95, R177). -/
theorem rebuildLists_entries (r : Ramp) :
    (s.rebuildLists.planList r).hold = s.retained.hold.get r
      ∧ (s.rebuildLists.planList r).command
        = (if policyStops s.corridorInUse.restartPolicy (s.retained.wasMetering.get r) then some (.off, .restart) else none)
      ∧ (s.retained.clockValid = false → (s.rebuildLists.planList r).schedule = none) := by
  have read : (if s.retained.clockValid then s.readSchedules else s).retained = s.retained := by
    split
    · exact (consults_readSchedules s).retained
    · rfl
  have entries : ∃ a, (s.retained.clockValid = false → a = none) ∧ s.rebuildLists.listEntries r = (s.retained.hold.get r,
      (if policyStops s.corridorInUse.restartPolicy (s.retained.wasMetering.get r) then some (.off, .restart) else none), a) := by
    unfold rebuildLists
    dsimp only
    generalize (if s.retained.clockValid then s.readSchedules else s) = t at read ⊢
    refine ⟨if s.retained.clockValid = true then catchUpAction t.scheduleEntries t.retained.clock.minuteOfWeek r else none,
      fun invalid => by rw [invalid]; rfl, ?_⟩
    unfold listEntries
    rw [planList_raiseIf]
    refine (each_proj (State.listEntries · r) ramps fallbackTest _ fun r' u => listEntries_fallbackTest u r' r).trans ?_
    unfold listEntries planList rebuiltList
    dsimp only
    rw [Tab.get_ofFn, read]
  obtain ⟨a, invalid, e⟩ := entries
  obtain ⟨hold, rest⟩ := Prod.mk.inj e
  obtain ⟨command, schedule⟩ := Prod.mk.inj rest
  exact ⟨hold, command, fun h => schedule.trans (invalid h)⟩

/-- The Restart Policy's COMMAND entry, policy by policy (R177). -/
theorem policyStops_command (policy : RestartPolicy) (was : Bool) :
    (if policyStops policy was then some ((.off : Action), (.restart : Originator)) else none)
      = match policy, was with
        | .resumeSchedule, _ => none
        | .resumePrior, true => none
        | .resumePrior, false => some (.off, .restart)
        | .stayOff, _ => some (.off, .restart) := by
  cases policy <;> cases was <;> rfl

/-! ### The was-metering flags for the start states (R122, R177) -/

theorem writeWasMetering_eq : ∃ x : Tab 6 Bool,
    s.writeWasMetering = { s with retained := { s.retained with wasMetering := x } }
      ∧ ∀ r, x.get r = if (s.seq r).supplyHold = true then s.retained.wasMetering.get r else false := by
  have frame : ∃ x : Tab 6 Bool, s.writeWasMetering = { s with retained := { s.retained with wasMetering := x } } :=
    each_induct (P := fun t => ∃ x : Tab 6 Bool, t = { s with retained := { s.retained with wasMetering := x } }) ramps _ ⟨_, rfl⟩
      fun r t h => by
        obtain ⟨x, rfl⟩ := h
        split
        · exact ⟨_, rfl⟩
        · exact ⟨_, rfl⟩
  obtain ⟨x, e⟩ := frame
  refine ⟨x, e, fun r => ?_⟩
  have flags := each_at (fun t r => t.retained.wasMetering.get r) State.sequencers
    (fun qs r b => if (qs.get r).supplyHold = true then b else false)
    (fun r t => if (t.seq r).supplyHold then t else t.setWasMetering r false) ramps ramps_nodup
    (fun r t => by split <;> rfl)
    (fun r t => by
      unfold State.seq
      split
      · rfl
      · exact Tab.get_set_self _ _ _)
    (fun r r' t ne => by
      split
      · rfl
      · exact Tab.get_set_ne _ _ ne)
    s r
  rw [if_pos (mem_ramps r)] at flags
  refine Eq.trans ?_ flags
  exact (congrArg (fun t : State => t.retained.wasMetering.get r) e.symm :)

end State

end Sys2Proof.Machine

end

section
/-! PROOFS. The demanded plans followed at the end of a restart: a ramp that rests in OFF, free and with a plan demanded, goes to WARNING,
and nothing is left to read or to report on the way (R104, R105, R125). -/

namespace Sys2Proof.Machine

open State

namespace State

variable {s t : State}

theorem warns_iff {r : Ramp} : s.warns r = true
    ↔ (s.seq r).state = .off ∧ (s.seq r).supplyHold = false ∧ (s.seq r).pendingCount = none ∧ (s.planList r).demanded ≠ none := by
  unfold warns demandSeen
  cases (s.seq r).pendingCount <;> simp [Option.isSome_iff_ne_none, and_assoc]

theorem warns_congr {r : Ramp} (seq : t.seq r = s.seq r) (list : t.planList r = s.planList r) : t.warns r = s.warns r := by
  unfold warns demandSeen; rw [seq, list]

/-- What follows the demanded plans of the ramps `xs` from `s` to `t`. -/
structure Following (xs : List Ramp) (s t : State) : Prop where
  beside : s.Beside t
  calm : s.Calm t
  moves : s.Moves t
  settles : s.Settles t
  seq : ∀ r, t.seq r = if r ∈ xs ∧ s.warns r = true then (s.seq r).warned s.corridorInUse else s.seq r
  flag : ∀ r, t.retained.wasMetering.get r = if r ∈ xs ∧ s.warns r = true then true else s.retained.wasMetering.get r

theorem Following.faultDark {xs : List Ramp} (h : Following xs s t) : t.retained.faultDark = s.retained.faultDark :=
  (congrArg Retained.faultDark h.beside.retained :)

/-- The ramps rest after they have followed their demanded plans. -/
theorem Following.resting {xs : List Ramp} (h : Following xs s t) (rest : s.AllResting) : t.AllResting := by
  intro r
  rw [h.seq, h.faultDark, h.calm.corridorInUse, h.beside.planList]
  split
  · next follows =>
    obtain ⟨off, free, -, led⟩ := warns_iff.1 follows.2
    exact (rest r).warned off led free _
  · exact rest r

/-- Entry of one ramp into WARNING follows the demanded plan of that ramp. -/
theorem following_warningEntry (r : Ramp) (warns : s.warns r = true) : Following [r] s (s.warningEntry r) where
  beside := beside_warningEntry s r
  calm := calm_warningEntry s r
  moves := moves_warningEntry s r
  settles := settles_warningEntry s r
  seq := fun r' => by
    by_cases same : r' = r
    · subst same
      rw [if_pos ⟨List.mem_singleton_self _, warns⟩, seq_warningEntry]
    · rw [if_neg fun h => same (List.mem_singleton.1 h.1)]
      exact congrArg (fun row => row.1) (rampRow_warningEntry same)
  flag := fun r' => by
    by_cases same : r' = r
    · subst same
      rw [if_pos ⟨List.mem_singleton_self _, warns⟩, (turned_warningEntry s r').flag, if_neg (by simp [(warns_iff.1 warns).2.1]),
        seq_warningEntry]
      rfl
    · rw [if_neg fun h => same (List.mem_singleton.1 h.1)]
      exact congrArg (fun row => row.2.2) (rampRow_warningEntry same)

theorem following_nil : Following [] s s :=
  ⟨.refl, .refl s, .refl, .refl, fun _ => by simp, fun _ => by simp⟩

theorem Following.skip {r : Ramp} (warns : ¬ s.warns r = true) : Following [r] s s :=
  have idle (r' : Ramp) : ¬ (r' ∈ [r] ∧ s.warns r' = true) := fun ⟨mem, h⟩ => warns (List.mem_singleton.1 mem ▸ h)
  ⟨.refl, .refl s, .refl, .refl, fun r' => (if_neg (idle r')).symm, fun r' => (if_neg (idle r')).symm⟩

theorem Following.cons {r : Ramp} {xs : List Ramp} {u : State} (notMem : r ∉ xs) (h : Following [r] s t) (g : Following xs t u) :
    Following (r :: xs) s u := by
  have same {r' : Ramp} (ne : r' ≠ r) : t.seq r' = s.seq r' ∧ t.retained.wasMetering.get r' = s.retained.wasMetering.get r'
      ∧ t.warns r' = s.warns r' := by
    have seq : t.seq r' = s.seq r' := (h.seq r').trans (if_neg fun m => ne (List.mem_singleton.1 m.1))
    exact ⟨seq, (h.flag r').trans (if_neg fun m => ne (List.mem_singleton.1 m.1)), warns_congr seq (h.beside.planList r')⟩
  refine ⟨h.beside.trans g.beside, h.calm.trans g.calm, h.moves.trans g.moves, h.settles.trans g.settles, fun r' => ?_, fun r' => ?_⟩
  · rw [g.seq, h.calm.corridorInUse]
    by_cases own : r' = r
    · subst own
      rw [if_neg fun m => notMem m.1, h.seq]
      simp only [List.mem_cons, true_or, true_and]
    · obtain ⟨seq, -, warns⟩ := same own
      rw [seq, warns]
      simp only [List.mem_cons, own, false_or]
  · rw [g.flag]
    by_cases own : r' = r
    · subst own
      rw [if_neg fun m => notMem m.1, h.flag]
      simp only [List.mem_cons, true_or, true_and]
    · obtain ⟨-, flag, warns⟩ := same own
      rw [flag, warns]
      simp only [List.mem_cons, own, false_or]

/-- The step of one ramp, the settings handed over and every ramp at rest. -/
theorem following_step (handed : s.Handed) (rest : s.AllResting) (r : Ramp) :
    Following [r] s (if s.warns r then s.enterWarning r else s) := by
  split
  · next warns =>
    have entry := following_warningEntry r warns
    rw [enterWarning_resting handed (entry.resting rest)]
    exact entry
  · next idle => exact .skip idle

theorem following_each (xs : List Ramp) (nodup : xs.Nodup) (s : State) (handed : s.Handed) (rest : s.AllResting) :
    Following xs s (s.each xs fun r t => if t.warns r then t.enterWarning r else t) := by
  induction xs generalizing s with
  | nil => exact following_nil
  | cons r xs ih =>
    obtain ⟨notMem, nodup⟩ := List.nodup_cons.1 nodup
    have first := following_step handed rest r
    exact first.cons notMem (ih nodup _ (handed.beside first.calm first.beside) (first.resting rest))

/-- Where the settings have been handed over and every ramp rests, each ramp follows its demanded plan, and that is all. -/
theorem following_followDemand (handed : s.Handed) (rest : s.AllResting) : Following ramps s s.followDemand :=
  following_each ramps ramps_nodup s handed rest

/-- The state that a restart gives a ramp: by its fault-dark flag, its Lane Count, its demanded plan and its Supply Hold (R105, R125). -/
theorem Following.state (h : Following ramps s t) (rest : s.AllResting) (r : Ramp) :
    (t.seq r).state = if s.retained.faultDark.get r = true then .darkFault
      else if s.corridorInUse.laneCount.get r = 0 then .unconfigured
      else if (s.planList r).demanded = none ∨ (s.seq r).supplyHold = true then .off else .warning := by
  have own := rest r
  have seq := h.seq r
  simp only [mem_ramps, true_and] at seq
  rw [seq]
  cases dark : s.retained.faultDark.get r with
  | true =>
    have state := own.fault dark
    rw [if_neg fun w => by simp [(warns_iff.1 w).1] at state, if_pos rfl]
    exact state
  | false =>
    simp only [Bool.false_eq_true, if_false]
    by_cases zero : s.corridorInUse.laneCount.get r = 0
    · have state := own.unconfigured dark zero
      rw [if_neg fun w => by simp [(warns_iff.1 w).1] at state, if_pos zero]
      exact state
    · rw [if_neg zero]
      obtain off | ⟨warning, led, free⟩ := own.configured dark zero
      · by_cases stays : (s.planList r).demanded = none ∨ (s.seq r).supplyHold = true
        · rw [if_pos stays, if_neg]
          · exact off
          · intro w
            obtain ⟨-, free, -, led⟩ := warns_iff.1 w
            simp [free, led] at stays
        · obtain ⟨led, free⟩ := not_or.1 stays
          rw [if_neg stays, if_pos (warns_iff.2 ⟨off, by simpa using free, own.pending, led⟩)]
          rfl
      · rw [if_neg fun w => by simp [(warns_iff.1 w).1] at warning, if_neg (by simp [led, free])]
        exact warning

/-- Neither the Lane Count nor the Supply Hold of a ramp changes as it follows its demanded plan. -/
theorem Following.counts {xs : List Ramp} (h : Following xs s t) (r : Ramp) :
    (t.seq r).laneCount = (s.seq r).laneCount ∧ (t.seq r).supplyHold = (s.seq r).supplyHold := by
  rw [h.seq]
  split
  · exact ⟨rfl, rfl⟩
  · exact ⟨rfl, rfl⟩

end State

end Sys2Proof.Machine

end

section
/-! PROOFS. The start of a SUPPLY restart: the corridor settings read, the sequencers and the rates started (R30, R65, R125, R174). -/

namespace Sys2Proof.Machine

open State

namespace State

variable (s : State)

/-! ### The sequencers and the rates started (R30, R65, R125) -/

/-- The sequencer of a ramp that a SUPPLY restart starts (R125). -/
def supplyStarted (dark : Bool) (q : Sequencer) : Sequencer :=
  { ({ q with lanes := Tab.replicate 2 .dark } : Sequencer).discard with
    state := startState dark q.laneCount, pendingCount := none, supplyHold := false }

theorem darkLanes_frame (r : Ramp) : ({ s.darkLanes r with sequencers := s.sequencers, lamps := s.lamps } : State) = s :=
  each_induct (P := fun t => ({ t with sequencers := s.sequencers, lamps := s.lamps } : State) = s) laneNos _ rfl fun ln t h =>
    (congrArg (fun v : State => ({ v with sequencers := s.sequencers, lamps := s.lamps } : State)) (handLane_frame t r ln _)).trans h

theorem supplyStartSequencer_frame (r : Ramp) :
    ({ s.supplyStartSequencer r with sequencers := s.sequencers, lamps := s.lamps } : State) = s := by
  have frame := darkLanes_frame s r
  unfold supplyStartSequencer
  dsimp only
  generalize s.darkLanes r = t at frame ⊢
  exact frame

theorem seq_supplyStartSequencer_self (r : Ramp) :
    (s.supplyStartSequencer r).seq r = supplyStarted (s.retained.faultDark.get r) (s.seq r) := by
  have retained : (s.darkLanes r).retained = s.retained := (congrArg State.retained (darkLanes_frame s r) :)
  have seq := seq_of_sequencers s (sequencers_darkLanes s r)
  unfold supplyStartSequencer
  dsimp only
  rw [seq_modSeq_self, seq, retained]
  rfl

theorem seq_supplyStartSequencer_ne {r r' : Ramp} (ne : r' ≠ r) : (s.supplyStartSequencer r).seq r' = s.seq r' := by
  unfold supplyStartSequencer
  dsimp only
  rw [seq_modSeq_ne _ ne]
  unfold seq
  rw [sequencers_darkLanes, Tab.get_set_ne _ _ ne]

/-- What the starts of a SUPPLY restart write set back. -/
def unstarted (s t : State) : State :=
  { t with sequencers := s.sequencers, lamps := s.lamps, measure := s.measure, rates := s.rates }

/-- The sequencers, the rates and the queue estimates as a SUPPLY restart starts them. -/
structure SupplyStarts (s t : State) : Prop where
  frame : s.unstarted t = s
  seq : ∀ r, t.seq r = supplyStarted (s.retained.faultDark.get r) (s.seq r)
  rate : ∀ r, (t.rate r).previousClose = none ∧ (t.rate r).lastFinal = none
  estimate : ∀ r, (t.meas r).queueEstimate = 0

theorem supplyStarts_each : s.SupplyStarts ((s.each ramps supplyStartSequencer).each ramps supplyStartRates) := by
  have frame : ({ s.each ramps supplyStartSequencer with sequencers := s.sequencers, lamps := s.lamps } : State) = s :=
    each_induct (P := fun t => ({ t with sequencers := s.sequencers, lamps := s.lamps } : State) = s) ramps _ rfl fun r t h => by
      have frame := supplyStartSequencer_frame t r
      generalize t.supplyStartSequencer r = u at frame ⊢
      exact (congrArg (fun v : State => ({ v with sequencers := s.sequencers, lamps := s.lamps } : State)) frame).trans h
  have seq (r : Ramp) : (s.each ramps supplyStartSequencer).seq r = supplyStarted (s.retained.faultDark.get r) (s.seq r) := by
    have all := each_at State.seq (fun t => t.retained.faultDark) (fun d r q => supplyStarted (d.get r) q) supplyStartSequencer ramps
      ramps_nodup (fun r t => (congrArg (fun v : State => v.retained.faultDark) (supplyStartSequencer_frame t r) :))
      (fun r t => seq_supplyStartSequencer_self t r) (fun r r' t ne => seq_supplyStartSequencer_ne t ne) s r
    rwa [if_pos (mem_ramps r)] at all
  generalize s.each ramps supplyStartSequencer = u at *
  have before : s.unstarted u = s := (congrArg s.unstarted frame :)
  have rates : s.unstarted (u.each ramps supplyStartRates) = s :=
    each_induct (P := fun t => s.unstarted t = s) ramps _ before fun r t h => h
  have moved (r : Ramp) : (u.each ramps supplyStartRates).seq r = u.seq r :=
    each_proj (State.seq · r) ramps _ u fun _ _ => rfl
  have rate (r : Ramp) := each_at State.rate (fun _ => ())
    (fun _ _ (x : RampRate) => { x with previousClose := none, lastFinal := none }) supplyStartRates ramps ramps_nodup
    (fun _ _ => rfl) (fun r t => rate_setRate_self _ r _) (fun r r' t ne => rate_setRate_ne _ ne _) u r
  have meas (r : Ramp) := each_at State.meas (fun _ => ())
    (fun _ _ (x : RampMeasure) => { x with queueEstimate := 0 }) supplyStartRates ramps ramps_nodup
    (fun _ _ => rfl) (fun r t => meas_setMeas_self _ r _) (fun r r' t ne => meas_setMeas_ne _ ne _) u r
  simp only [mem_ramps, if_true] at rate meas
  exact ⟨rates, fun r => (moved r).trans (seq r), fun r => by rw [rate]; exact ⟨rfl, rfl⟩, fun r => by rw [meas]⟩

/-! ### The state from which the lists are rebuilt -/

/-- A SUPPLY restart that has read the corridor settings and started the ramps. -/
structure SupplyBegun (s u : State) : Prop where
  supply : u.supply = { s.supply with input := false, cause := .supply }
  kept : u.kept = { s.kept with supply := u.supply }
  corridor : u.corridorInUse = s.corridorInUse
  retained : u.retained = s.retained
  handed : u.Handed
  grows : s.Grows u
  pending : SamePending .restart s u
  seq : ∀ r, u.seq r = supplyStarted (s.retained.faultDark.get r) (s.seq r)
  rate : ∀ r, (u.rate r).previousClose = none ∧ (u.rate r).lastFinal = none
  estimate : ∀ r, (u.meas r).queueEstimate = 0

/-- The state before the starts of a SUPPLY restart: the cause, the Supply Input and the read of the corridor settings (R174). -/
def supplyRead (s : State) : State := ((s.setCause .supply).setSupplyInput false).takeCorridor

theorem supplyBegun : s.SupplyBegun ((s.supplyRead.each ramps supplyStartSequencer).each ramps supplyStartRates) := by
  have ports : ((s.setCause .supply).setSupplyInput false).ports = s.ports := rfl
  have seq (r : Ramp) : ((s.setCause .supply).setSupplyInput false).seq r = s.seq r := rfl
  have corridor : ((s.setCause .supply).setSupplyInput false).corridorInUse = s.corridorInUse := rfl
  have retained : ((s.setCause .supply).setSupplyInput false).retained = s.retained := rfl
  have supply : ((s.setCause .supply).setSupplyInput false).supply = { s.supply with input := false, cause := .supply } := rfl
  have kept : ((s.setCause .supply).setSupplyInput false).kept
      = { s.kept with supply := { s.supply with input := false, cause := .supply } } := rfl
  unfold supplyRead
  generalize (s.setCause .supply).setSupplyInput false = w at *
  have handed := handed_takeCorridor w
  replace kept := (kept_takeCorridor w).trans kept
  replace supply := (supply_of_kept (kept_takeCorridor w)).trans supply
  replace retained := (retained_takeCorridor w).trans retained
  replace corridor := (corridorInUse_takeCorridor w).trans corridor
  have grows := (Grows.of_ports ports).trans (grows_takeCorridor w)
  have pending := (SamePending.of_ports ports).trans (samePending_takeCorridor w (c := .restart) (by decide) (by decide))
  replace seq := fun r => (seq_takeCorridor w r).trans (seq r)
  clear ports
  generalize w.takeCorridor = v at *
  have starts := supplyStarts_each v
  generalize (v.each ramps supplyStartSequencer).each ramps supplyStartRates = u at *
  have kept' : u.kept = v.kept := (congrArg State.kept starts.frame :)
  have memory : u.memory = v.memory := (congrArg State.memory starts.frame :)
  have ports : u.ports = v.ports := (congrArg State.ports starts.frame :)
  have arbiter : u.arbiter = v.arbiter := (congrArg State.arbiter starts.frame :)
  have calm : v.Calm u := .of_tables kept' ports (congrArg Arbiter.holders arbiter) memory
  have supply' : u.supply = v.supply := supply_of_kept kept'
  exact {
    supply := supply'.trans supply
    kept := by rw [kept', kept, supply', supply]
    corridor := calm.corridorInUse.trans corridor
    retained := (congrArg State.retained starts.frame :).trans retained
    handed := handed.of_same calm (congrArg State.router starts.frame :) (congrArg Arbiter.defaults arbiter)
      ((recordSettled_congr memory _).2 handed.settled)
    grows := grows.trans (.of_ports ports)
    pending := pending.trans (.of_ports ports)
    seq := fun r => by rw [starts.seq, seq, retained]
    rate := starts.rate
    estimate := starts.estimate }

end State

end Sys2Proof.Machine

end

section
/-! PROOFS. The SUPPLY restart (R30, R65, R83, R125, R174, R177, R179, R180). -/

namespace Sys2Proof.Machine

open State

/-- The Lane Count report that follows the start of a SUPPLY restart brings a ramp to rest (R104, R125). -/
theorem Sequencer.reported_supplyStarted (dark : Bool) (q : Sequencer) (cs : CorridorRec) (d : Option PlanRef) (n : Nat) :
    ((State.supplyStarted dark q).reported cs false d n).Resting dark n d
      ∧ ((State.supplyStarted dark q).reported cs false d n).supplyHold = false := by
  unfold State.supplyStarted startState Sequencer.reported
  dsimp only
  cases dark with
  | true => exact ⟨⟨rfl, rfl, fun _ => rfl, nofun, nofun⟩, rfl⟩
  | false =>
    simp only [Bool.false_eq_true, if_false]
    by_cases bare : q.laneCount = 0
    · rw [if_pos bare]
      dsimp only
      by_cases zero : n = 0
      · rw [if_pos zero]
        exact ⟨⟨bare.trans zero.symm, rfl, nofun, fun _ _ => rfl, fun _ laned => absurd zero laned⟩, rfl⟩
      · rw [if_neg zero]
        unfold Sequencer.fromOff
        rw [if_neg zero]
        by_cases rests : d = none
        · rw [if_pos (.inl rests)]
          exact ⟨⟨rfl, rfl, nofun, fun _ z => absurd z zero, fun _ _ => .inl rfl⟩, rfl⟩
        · rw [if_neg (by simp [rests])]
          exact ⟨⟨rfl, rfl, nofun, fun _ z => absurd z zero, fun _ _ => .inr ⟨rfl, rests, rfl⟩⟩, rfl⟩
    · rw [if_neg bare]
      dsimp only
      by_cases zero : n = 0
      · exact ⟨⟨rfl, rfl, nofun, fun _ _ => if_pos zero, fun _ laned => absurd zero laned⟩, rfl⟩
      · exact ⟨⟨rfl, rfl, nofun, fun _ z => absurd z zero, fun _ _ => .inl (if_neg zero)⟩, rfl⟩

namespace State

variable {s u : State}

/-! ### The lists rebuilt and the Lane Counts reported (R83, R104) -/

/-- The entries that a restart gives the list of a ramp from the retained flags and the Restart Policy of `s` (R83, R177). -/
structure ListRebuilt (s : State) (r : Ramp) (l : PlanList) : Prop where
  hold : l.hold = s.retained.hold.get r
  command : l.command = (match s.corridorInUse.restartPolicy, s.retained.wasMetering.get r with
    | .resumeSchedule, _ => none
    | .resumePrior, true => none
    | .resumePrior, false => some (.off, .restart)
    | .stayOff, _ => some (.off, .restart))
  schedule : s.retained.clockValid = false → l.schedule = none

theorem listRebuilt (s : State) (r : Ramp) : s.ListRebuilt r (s.rebuildLists.planList r) := by
  obtain ⟨hold, command, schedule⟩ := rebuildLists_entries s r
  exact ⟨hold, command.trans (policyStops_command _ _), schedule⟩

/-- The same flags and policy give the same entries. -/
theorem ListRebuilt.of_same {r : Ramp} {l : PlanList} (h : u.ListRebuilt r l) (retained : u.retained = s.retained)
    (corridor : u.corridorInUse = s.corridorInUse) : s.ListRebuilt r l := by
  refine ⟨by rw [h.hold, retained], ?_, by rw [← retained]; exact h.schedule⟩
  have command := h.command
  rw [retained, corridor] at command
  exact command

/-- A SUPPLY restart whose lists are rebuilt and whose ramps rest, before the demanded plans are followed. -/
structure SupplyRebuilt (s u : State) : Prop where
  supply : u.supply = { s.supply with input := false, cause := .supply }
  kept : u.kept = { s.kept with supply := u.supply }
  corridor : u.corridorInUse = s.corridorInUse
  faultDark : u.retained.faultDark = s.retained.faultDark
  handed : u.Handed
  resting : u.AllResting
  grows : s.Grows u
  pending : SamePending .restart s u
  hold : ∀ r, (u.seq r).supplyHold = false
  rate : ∀ r, (u.rate r).previousClose = none ∧ (u.rate r).lastFinal = none
  estimate : ∀ r, (u.meas r).queueEstimate = 0
  list : ∀ r, s.ListRebuilt r (u.planList r)

theorem aside_restart : Aside .restart := ⟨by decide, by decide, by decide, by decide⟩

theorem SupplyBegun.rebuilt (h : s.SupplyBegun u) : s.SupplyRebuilt u.rebuildLists.writeWasMetering.reports := by
  have consults := consults_rebuildLists u
  have keptLists := kept_rebuildLists u
  have list (r : Ramp) := (listRebuilt u r).of_same h.retained h.corridor
  generalize u.rebuildLists = v at *
  have handed := consults.handed h.handed
  obtain ⟨flags, write, -⟩ := writeWasMetering_eq v
  rw [write]
  generalize written : ({ v with retained := { v.retained with wasMetering := flags } } : State) = w
  have ports : w.ports = v.ports := by rw [← written]
  have kept : w.kept = v.kept := by rw [← written]; rfl
  have faultDark : w.retained.faultDark = u.retained.faultDark := by
    rw [← written]
    exact (congrArg Retained.faultDark consults.retained :)
  have seq (r : Ramp) : w.seq r = u.seq r := by rw [← written]; exact consults.seq r
  have lists : w.lists = v.lists := by rw [← written]
  have rates : w.rates = u.rates := by rw [← written]; exact consults.rates
  have measure : w.measure = u.measure := by rw [← written]; exact consults.measure
  have corridor : w.corridorInUse = u.corridorInUse := by rw [← written]; exact consults.corridorInUse
  have handed' : w.Handed := by rw [← written]; exact ⟨handed.lapses, handed.routes, handed.edges, handed.defaults, handed.settled⟩
  clear handed write written
  have supply : w.supply = u.supply := supply_of_kept (kept.trans keptLists)
  have fresh (r : Ramp) : w.rate r = u.rate r := by unfold State.rate; rw [rates]
  have reported (r : Ramp) : w.reports.seq r = (u.seq r).reported u.corridorInUse false (w.planList r).demanded
      (u.corridorInUse.laneCount.get r) := by
    rw [seq_reports_reported, seq, corridor, supply, h.supply]
  have beside := beside_reports w
  have calm := calm_reports w
  have moves := moves_reports w
  have settles := settles_reports w
  generalize w.reports = x at *
  have faultDark' : x.retained.faultDark = w.retained.faultDark := (congrArg Retained.faultDark beside.retained :)
  have started (r : Ramp) := Sequencer.reported_supplyStarted (s.retained.faultDark.get r) (s.seq r) u.corridorInUse
    (w.planList r).demanded (u.corridorInUse.laneCount.get r)
  have same := moves.rates fun r => by rw [fresh]; exact (h.rate r).1
  have rated (r : Ramp) : x.rate r = u.rate r := by rw [← fresh]; unfold State.rate; rw [same]
  exact {
    supply := by rw [beside.supply, supply, h.supply]
    kept := by rw [calm.kept, kept, keptLists, h.kept, beside.supply, supply]
    corridor := by rw [calm.corridorInUse, corridor, h.corridor]
    faultDark := by rw [faultDark', faultDark, h.retained]
    handed := handed'.beside calm beside
    resting := fun r => by
      rw [reported, h.seq, faultDark', faultDark, h.retained, calm.corridorInUse, corridor, beside.planList]
      exact (started r).1
    grows := (h.grows.trans consults.grows).trans ((Grows.of_ports ports).trans moves.grows)
    pending := (h.pending.trans (consults.pending _ aside_restart (by decide) (by decide))).trans
      ((SamePending.of_ports ports).trans (settles.pending _ aside_restart))
    hold := fun r => by rw [reported, h.seq]; exact (started r).2
    rate := fun r => by rw [rated]; exact h.rate r
    estimate := fun r => by
      unfold meas
      rw [beside.measure, measure]
      exact h.estimate r
    list := fun r => by
      rw [beside.planList]
      unfold planList
      rw [lists]
      exact list r }

/-! ### The whole restart -/

/-- What a SUPPLY restart leaves. -/
structure SupplyRestarted (s t : State) : Prop where
  supply : t.supply = { s.supply with input := false, cause := .supply }
  kept : t.kept = { s.kept with
    supply := t.supply
    qualified := s.qualified.filter fun q => ((t.lamp q.ramp q.lane).qual q.kind).reported }
  raised : raisedBy .restart [t] s t
  grows : s.Grows t
  hold : ∀ r, (t.seq r).supplyHold = false
  rate : ∀ r, (t.rate r).previousClose = none ∧ (t.rate r).lastFinal = none
  estimate : ∀ r, (t.meas r).queueEstimate = 0
  list : ∀ r, s.ListRebuilt r (t.planList r)
  count : ∀ r, (t.seq r).laneCount = s.corridorInUse.laneCount.get r
  state : ∀ r, (t.seq r).state = if s.retained.faultDark.get r = true then .darkFault
    else if s.corridorInUse.laneCount.get r = 0 then .unconfigured
    else if (t.planList r).demanded = none then .off else .warning

/-- RESTART raised last joins the Pending Sets alone (R179). -/
theorem raisedBy_raise {c : EventClass} (h : SamePending c s u) : raisedBy c [u.raise c] s (u.raise c) := fun p => by
  rw [pending_raise, h p]
  simp [delivers_raise]

theorem supplyRestarted_eq (s : State) : s.supplyRestarted
    = (((((s.supplyRead.each ramps supplyStartSequencer).each ramps supplyStartRates).rebuildLists.writeWasMetering.reports).followDemand
        ).dropUnqualified).raise .restart := rfl

theorem supplyRestarted_spec (s : State) : s.SupplyRestarted s.supplyRestarted := by
  have rebuilt := (supplyBegun s).rebuilt
  rw [supplyRestarted_eq]
  generalize ((s.supplyRead.each ramps supplyStartSequencer).each ramps supplyStartRates).rebuildLists.writeWasMetering.reports = u
    at rebuilt
  have follows := following_followDemand rebuilt.handed rebuilt.resting
  have states := follows.state rebuilt.resting
  have same := follows.moves.rates fun r => (rebuilt.rate r).1
  generalize u.followDemand = v at *
  have settled : SamePending .restart s v := rebuilt.pending.trans (follows.settles.pending _ aside_restart)
  have raised := raisedBy_raise (settled.trans (SamePending.of_ports (t := v.dropUnqualified) rfl))
  have grows : s.Grows (v.dropUnqualified.raise .restart) :=
    (rebuilt.grows.trans follows.moves.grows).trans ((Grows.of_ports (t := v.dropUnqualified) rfl).trans (grows_raise _ _))
  have kept : (v.dropUnqualified.raise .restart).kept = { v.kept with qualified := v.qualified.filter v.stillQualifies } :=
    kept_raise _ _
  have lamp : (v.dropUnqualified.raise .restart).lamps = v.lamps := lamps_raise _ _
  have supply : (v.dropUnqualified.raise .restart).supply = v.supply := supply_raise _ _
  have rates : (v.dropUnqualified.raise .restart).rates = v.rates := rates_raise _ _
  have measure : (v.dropUnqualified.raise .restart).measure = v.measure := measure_raise _ _
  have lists : (v.dropUnqualified.raise .restart).lists = v.lists := lists_raise _ _
  have sequencers : (v.dropUnqualified.raise .restart).sequencers = v.sequencers := sequencers_raise _ _
  generalize v.dropUnqualified.raise .restart = t at *
  have seq (r : Ramp) : t.seq r = v.seq r := by unfold State.seq; rw [sequencers]
  have list (r : Ramp) : t.planList r = u.planList r := by unfold planList; rw [lists, follows.beside.lists]
  have qualified : v.qualified = s.qualified := by
    rw [follows.beside.qualified]
    exact (congrArg State.qualified rebuilt.kept :)
  have stays : v.stillQualifies = fun q => ((t.lamp q.ramp q.lane).qual q.kind).reported := by
    funext q; unfold stillQualifies State.lamp; rw [lamp]
  exact {
    supply := by rw [supply, follows.beside.supply, rebuilt.supply]
    kept := by rw [kept, follows.calm.kept, rebuilt.kept, qualified, stays, supply, follows.beside.supply]
    raised := raised
    grows := grows
    hold := fun r => by rw [seq, (follows.counts r).2, rebuilt.hold]
    rate := fun r => by unfold State.rate; rw [rates, same]; exact rebuilt.rate r
    estimate := fun r => by unfold meas; rw [measure, follows.beside.measure]; exact rebuilt.estimate r
    list := fun r => by rw [list]; exact rebuilt.list r
    count := fun r => by rw [seq, (follows.counts r).1, (rebuilt.resting r).count, rebuilt.corridor]
    state := fun r => by
      rw [seq, states, rebuilt.faultDark, rebuilt.corridor, list, rebuilt.hold]
      simp only [Bool.false_eq_true, or_false] }

end State

/-- Settles O56: what a SUPPLY restart leaves, collected from the read and the starts, the rebuild with its reports, and the demanded
plans that follow. -/
theorem supplyRestartRebuilds : Obligations.SupplyRestartRebuilds := by
  unfold Obligations.SupplyRestartRebuilds
  intro s running
  have runs : exec .supplyRestart s = .next s.supplyRestart := congrArg Host.Outcome.next (whenRunning_runs running _)
  refine ⟨fun idle => ?_, fun sampled input => ⟨s.supplyRestarted, ?_, ?_⟩⟩
  · rw [runs]
    unfold supplyRestart
    rw [if_neg (by obtain h | h := idle <;> simp [h])]
  · rw [runs]
    unfold supplyRestart
    rw [if_pos (by simp [sampled, input])]
  · have spec := supplyRestarted_spec s
    refine ⟨spec.supply, spec.kept, spec.raised, fun p c => spec.grows c p, fun r => ?_⟩
    obtain ⟨hold, command, schedule⟩ := spec.list r
    obtain ⟨previous, final⟩ := spec.rate r
    refine ⟨spec.hold r, previous, final, spec.estimate r, hold, command, schedule, fun dark => ?_, fun lit => ⟨spec.count r, ?_⟩⟩
    · rw [spec.state, if_pos dark]
    · rw [spec.state, if_neg (by simp [lit])]

end Sys2Proof.Machine

end

section
/-! PROOFS. How COLD and WARM restarts end: the lists rebuilt, the Supply Holds, the was-metering flags, the demanded plans followed and
RESTART raised, from sequencers started afresh (R83, R105, R122, R125, R173, R177, R179). -/

namespace Sys2Proof.Machine

open State

/-- A sequencer started afresh rests, with or without the Supply Hold (R125). -/
theorem Sequencer.resting_start (dark hold : Bool) (n : Nat) (d : Option PlanRef) :
    ({ Sequencer.start (startState dark n) n with supplyHold := hold } : Sequencer).Resting dark n d := by
  unfold Sequencer.start startState
  refine ⟨rfl, rfl, fun h => ?_, fun h zero => ?_, fun h laned => .inl ?_⟩
  · exact if_pos h
  · exact (if_neg (by simp [h])).trans (if_pos zero)
  · exact (if_neg (by simp [h])).trans (if_neg laned)

namespace State

variable {s u v t : State}

/-! ### The Supply Holds (R173, R178) -/

/-- The Supply Hold that a restart gives a ramp: set under the Supply Input where the ramp is configured (R173, R178). -/
def holdAtStart (u : State) (r : Ramp) : Bool := u.supply.input && decide ((u.seq r).state ≠ .unconfigured)

/-- Ramps started afresh with no Supply Hold take it where the Supply Input is asserted. -/
def withHolds (s : State) : State := if s.supply.input then s.setSupplyHolds else s

theorem withHolds_frame (s : State) : ({ s.withHolds with sequencers := s.sequencers } : State) = s := by
  unfold withHolds
  split
  · rfl
  · rfl

theorem seq_withHolds (r : Ramp) (free : (s.seq r).supplyHold = false) :
    s.withHolds.seq r = { s.seq r with supplyHold := s.holdAtStart r } := by
  unfold withHolds holdAtStart
  cases input : s.supply.input with
  | true =>
    rw [if_pos rfl]
    unfold setSupplyHolds seq
    dsimp only
    rw [Tab.get_map]
    unfold seq at free
    rw [free, Bool.false_or, Bool.true_and]
  | false =>
    rw [if_neg (by simp), Bool.false_and, ← free]

/-! ### The end of the restart -/

/-- The end of a COLD or WARM restart, from sequencers started afresh. -/
def restartEnd (u : State) : State := u.rebuildLists.withHolds.writeWasMetering.followDemand.raise .restart

/-- What the end of a COLD or WARM restart leaves. -/
structure RestartEnded (u t : State) : Prop where
  kept : t.kept = u.kept
  links : ∀ p, (t.port p).settled = (u.port p).settled
  retained : { t.retained with wasMetering := u.retained.wasMetering } = u.retained
  router : t.router = u.router
  arbiter : t.arbiter = u.arbiter
  memory : (∀ id, u.recordSettled id) → t.memory = u.memory
  rates : t.rates = u.rates
  measure : t.measure = u.measure
  sensed : ∀ r ln, (t.lamp r ln).sensed = (u.lamp r ln).sensed
  pending : ∀ c, Aside c → c ≠ .schedule → c ≠ .loopFault → c ≠ .restart → SamePending c u t
  raised : raisedBy .restart [t] u t
  list : ∀ r, u.ListRebuilt r (t.planList r)
  count : ∀ r, (t.seq r).laneCount = u.corridorInUse.laneCount.get r
  hold : ∀ r, (t.seq r).supplyHold = u.holdAtStart r
  state : ∀ r, (t.seq r).state = if u.retained.faultDark.get r = true then .darkFault
    else if u.corridorInUse.laneCount.get r = 0 then .unconfigured
    else if (t.planList r).demanded = none ∨ u.holdAtStart r = true then .off else .warning
  flag : ∀ r, t.retained.wasMetering.get r = true →
    u.holdAtStart r = true ∧ u.retained.wasMetering.get r = true ∨ (t.seq r).state = .warning

/-- Every sequencer as a COLD or WARM restart starts it (R125). -/
def StartedAfresh (u : State) : Prop := ∀ r, u.seq r
  = Sequencer.start (startState (u.retained.faultDark.get r) (u.corridorInUse.laneCount.get r)) (u.corridorInUse.laneCount.get r)

/-- A restart whose lists are rebuilt and whose Supply Holds and was-metering flags are set, before the demanded plans are followed. -/
structure RestartPoised (u v : State) : Prop where
  kept : v.kept = u.kept
  calm : u.Calm v
  retained : { v.retained with wasMetering := u.retained.wasMetering } = u.retained
  router : v.router = u.router
  arbiter : v.arbiter = u.arbiter
  memory : (∀ id, u.recordSettled id) → v.memory = u.memory
  rates : v.rates = u.rates
  measure : v.measure = u.measure
  lamps : v.lamps = u.lamps
  handed : v.Handed
  pending : ∀ c, Aside c → c ≠ .schedule → c ≠ .loopFault → SamePending c u v
  list : ∀ r, u.ListRebuilt r (v.planList r)
  seq : ∀ r, v.seq r = { u.seq r with supplyHold := u.holdAtStart r }
  flag : ∀ r, v.retained.wasMetering.get r = if u.holdAtStart r = true then u.retained.wasMetering.get r else false

theorem restartPoised (handed : u.Handed) (afresh : u.StartedAfresh) : u.RestartPoised u.rebuildLists.withHolds.writeWasMetering := by
  have consults := consults_rebuildLists u
  have keptLists := kept_rebuildLists u
  have list := listRebuilt u
  generalize u.rebuildLists = v at *
  have handed' := consults.handed handed
  have free (r : Ramp) : (v.seq r).supplyHold = false := by rw [consults.seq, afresh]; rfl
  have holdAtStart (r : Ramp) : v.holdAtStart r = u.holdAtStart r := by
    unfold State.holdAtStart; rw [consults.supply, consults.seq]
  have seqHeld (r : Ramp) : v.withHolds.seq r = { u.seq r with supplyHold := u.holdAtStart r } := by
    rw [seq_withHolds r (free r), holdAtStart, consults.seq]
  have frame := withHolds_frame v
  generalize v.withHolds = w at *
  obtain ⟨flags, write, flag⟩ := writeWasMetering_eq w
  have retained : w.retained = u.retained := (congrArg State.retained frame :).trans consults.retained
  have written : ({ w.writeWasMetering with
      sequencers := v.sequencers
      retained := v.retained } : State) = v := by
    rw [write]
    exact (congrArg (fun x : State => ({ x with retained := v.retained } : State)) frame :)
  have seq (r : Ramp) : w.writeWasMetering.seq r = w.seq r := by rw [write]; rfl
  have flag' (r : Ramp) : w.writeWasMetering.retained.wasMetering.get r
      = if (w.seq r).supplyHold = true then w.retained.wasMetering.get r else false := by
    rw [← flag, write]
  have rest : { w.writeWasMetering.retained with wasMetering := w.retained.wasMetering } = w.retained := by rw [write]
  have keptWrite : w.writeWasMetering.kept = w.kept := by rw [write]; rfl
  generalize w.writeWasMetering = x at *
  have ports : x.ports = v.ports := (congrArg State.ports written :)
  have memory : x.memory = v.memory := (congrArg State.memory written :)
  have router : x.router = v.router := (congrArg State.router written :)
  have arbiter : x.arbiter = v.arbiter := (congrArg State.arbiter written :)
  have kept : x.kept = v.kept := keptWrite.trans (congrArg State.kept frame :)
  have lists : x.lists = v.lists := (congrArg State.lists written :)
  have calm : v.Calm x := .of_tables kept ports (congrArg Arbiter.holders arbiter) memory
  have damaged : ∀ id, v.damaged id = u.damaged id := consults.calm.damaged
  have calmLists : u.Calm v := ⟨keptLists, consults.calm.links, damaged⟩
  exact {
    kept := kept.trans keptLists
    calm := calmLists.trans calm
    retained := by rw [← retained]; exact rest
    router := router.trans consults.router
    arbiter := arbiter.trans consults.arbiter
    memory := fun settled => memory.trans (consults.memory settled)
    rates := (congrArg State.rates written :).trans consults.rates
    measure := (congrArg State.measure written :).trans consults.measure
    lamps := (congrArg State.lamps written :).trans consults.lamps
    handed := handed'.of_same calm router (congrArg Arbiter.defaults arbiter) ((recordSettled_congr memory _).2 handed'.settled)
    pending := fun c aside schedule loopFault => (consults.pending c aside schedule loopFault).trans (.of_ports ports)
    list := fun r => by unfold planList; rw [lists]; exact list r
    seq := fun r => by rw [seq, seqHeld]
    flag := fun r => by rw [flag', seqHeld, retained] }

theorem RestartPoised.faultDark (h : u.RestartPoised v) : v.retained.faultDark = u.retained.faultDark :=
  (congrArg Retained.faultDark h.retained :)

theorem RestartPoised.resting (h : u.RestartPoised v) (afresh : u.StartedAfresh) : v.AllResting := fun r => by
  rw [h.seq, afresh, h.faultDark, h.calm.corridorInUse]
  exact Sequencer.resting_start _ _ _ _

theorem restartEnded (handed : u.Handed) (afresh : u.StartedAfresh) (fresh : ∀ r, (u.rate r).previousClose = none) :
    u.RestartEnded u.restartEnd := by
  have poised := restartPoised handed afresh
  unfold restartEnd
  generalize u.rebuildLists.withHolds.writeWasMetering = v at *
  have resting := poised.resting afresh
  have follows := following_followDemand poised.handed resting
  have states := follows.state resting
  have rates := follows.moves.rates fun r => by unfold rate; rw [poised.rates]; exact fresh r
  generalize v.followDemand = w at *
  have calm := calm_raise w (c := .restart) (by decide)
  have ports := raise_ports_only w .restart
  have raised : raisedBy .restart [w.raise .restart] u (w.raise .restart) :=
    raisedBy_raise ((poised.pending _ aside_restart (by decide) (by decide)).trans (follows.settles.pending _ aside_restart))
  have pending (c : EventClass) (ne : c ≠ .restart) : SamePending c w (w.raise .restart) := .raise ne
  generalize w.raise .restart = t at *
  have seq (r : Ramp) : t.seq r = w.seq r := by rw [ports]; rfl
  have list (r : Ramp) : t.planList r = v.planList r := by rw [ports, ← follows.beside.planList r]; rfl
  have memory : t.memory = v.memory := by rw [ports, ← follows.beside.memory]
  have arbiter : t.arbiter = v.arbiter := by rw [ports, ← follows.beside.arbiter]
  have router : t.router = v.router := by rw [ports, ← follows.beside.router]
  have retained : t.retained = w.retained := by rw [ports]
  have measure : t.measure = v.measure := by rw [ports, ← follows.beside.measure]
  have rates' : t.rates = w.rates := by rw [ports]
  have lamps : t.lamps = w.lamps := by rw [ports]
  have state (r : Ramp) : (t.seq r).state = if u.retained.faultDark.get r = true then .darkFault
      else if u.corridorInUse.laneCount.get r = 0 then .unconfigured
      else if (t.planList r).demanded = none ∨ u.holdAtStart r = true then .off else .warning := by
    rw [seq, states, poised.faultDark, poised.calm.corridorInUse, list, poised.seq]
  have rest : { w.retained with wasMetering := u.retained.wasMetering } = u.retained := by
    refine Eq.trans ?_ poised.retained
    exact (congrArg (fun x : Retained => { x with wasMetering := u.retained.wasMetering }) follows.beside.retained :)
  exact {
    kept := by rw [calm.kept, follows.calm.kept, poised.kept]
    links := fun p => by rw [calm.port, follows.calm.port, poised.calm.port]
    retained := by rw [retained, rest]
    router := router.trans poised.router
    arbiter := arbiter.trans poised.arbiter
    memory := fun settled => memory.trans (poised.memory settled)
    rates := by rw [rates', rates, poised.rates]
    measure := measure.trans poised.measure
    sensed := fun r ln => by
      have same := follows.moves.sensed r ln
      unfold lamp at same ⊢
      rw [lamps, same, poised.lamps]
    pending := fun c aside schedule loopFault ne =>
      ((poised.pending c aside schedule loopFault).trans (follows.settles.pending c aside)).trans (pending c ne)
    raised := raised
    list := fun r => by rw [list]; exact poised.list r
    count := fun r => by rw [seq, (follows.counts r).1, poised.seq, afresh]; rfl
    hold := fun r => by rw [seq, (follows.counts r).2, poised.seq]
    state := state
    flag := fun r set => by
      rw [retained, follows.flag] at set
      by_cases warns : v.warns r = true
      · refine .inr ?_
        rw [seq, follows.seq, if_pos ⟨mem_ramps r, warns⟩]
        rfl
      · rw [if_neg fun h => warns h.2, poised.flag] at set
        by_cases held : u.holdAtStart r = true
        · rw [if_pos held] at set
          exact .inl ⟨held, set⟩
        · rw [if_neg held] at set
          exact absurd set (by simp) }

end State

end Sys2Proof.Machine

end

section
/-! PROOFS. How COLD and WARM restarts begin: the corridor settings read, the loops and the blocks started afresh (R19, R38, R64, R125,
R140, R156, R157). -/

namespace Sys2Proof.Machine

open State

namespace State

variable (s : State)

/-! ### The restart read of the loops (R19) -/

theorem consults_restartLoop (i : LoopNo) : s.Consults (s.restartLoop i) := by
  unfold restartLoop
  dsimp only
  exact ((consults_useRecord s _).trans (consults_setLoop _ i _)).trans (consults_raiseIf _ (by decide) (fun _ _ _ ne => ne) _)

/-- What the restart read of a loop goes by: the damage of the loop records and the records themselves. -/
def loopContext (s : State) : (LoopNo → Bool) × Tab 48 LoopRec := (fun i => s.damaged (.loop i), s.memory.loops)

theorem loopContext_useRecord (id : RecId) : (s.useRecord id).loopContext = s.loopContext := by
  unfold loopContext
  simp only [damaged_useRecord, loops_of_kept (kept_useRecord s id)]

theorem loopContext_restartLoop (i : LoopNo) : (s.restartLoop i).loopContext = s.loopContext := by
  have read := loopContext_useRecord s (.loop i)
  unfold restartLoop
  dsimp only
  generalize s.useRecord (.loop i) = t at read ⊢
  rw [← read]
  unfold loopContext damaged health
  rw [memory_raiseIf]
  rfl

theorem loop_restartLoop_self (i : LoopNo) :
    (s.restartLoop i).loop i = Loop.restarted (s.loopContext.1 i) (s.loopContext.2.get i) := by
  have read := loopContext_useRecord s (.loop i)
  unfold restartLoop
  dsimp only
  generalize s.useRecord (.loop i) = t at read ⊢
  unfold loop
  rw [loops_raiseIf, ← read]
  exact Tab.get_set_self _ _ _

theorem loop_restartLoop_ne {i j : LoopNo} (ne : j ≠ i) : (s.restartLoop i).loop j = s.loop j := by
  have loops : (s.useRecord (.loop i)).loops = s.loops := (stores_of_kept (kept_useRecord s _)).1
  unfold restartLoop
  dsimp only
  generalize s.useRecord (.loop i) = t at loops ⊢
  unfold loop
  rw [loops_raiseIf, ← loops]
  exact Tab.get_set_ne _ _ ne

theorem loop_restartLoops (i : LoopNo) :
    (s.each loopNos restartLoop).loop i = Loop.restarted (s.damaged (.loop i)) (s.memory.loops.get i) := by
  have all := each_at State.loop loopContext (fun c j _ => Loop.restarted (c.1 j) (c.2.get j)) restartLoop loopNos loopNos_nodup
    (fun j t => loopContext_restartLoop t j) (fun j t => loop_restartLoop_self t j) (fun j j' t ne => loop_restartLoop_ne t ne) s i
  rwa [if_pos (mem_loopNos i)] at all

/-! ### The corridor settings read, the records and loops started (R19, R156) -/

/-- The head of a COLD or WARM restart: the Scrub Position at its start, the request for a restart gone (R170, log 20). -/
def restartHead (s : State) : State :=
  { s with
    memory := { s.memory with scrubPosition := .loop 0 }
    supply := { s.supply with warmDue := false } }

/-- A COLD or WARM restart up to the start of the loops. -/
def restartRead (s : State) : State := s.restartHead.takeCorridor.restartHolders.each loopNos restartLoop

/-- What of configuration memory no use of a record changes. -/
def bareMemory (s m : ConfigMemory) : ConfigMemory :=
  { m with health := s.health, damagedList := s.damagedList, overflow := s.overflow, correctionCount := s.correctionCount }

/-- The restart has read the corridor settings and the loops. -/
structure RestartRead (s u : State) : Prop where
  supply : u.supply = { s.supply with warmDue := false }
  retained : u.retained = s.retained
  corridor : u.corridorInUse = s.corridorInUse
  records : bareMemory s.memory u.memory = { s.memory with scrubPosition := .loop 0 }
  memory : (∀ id, s.recordSettled id) → u.memory = { s.memory with scrubPosition := .loop 0 }
  settled : ∀ id, s.recordSettled id → u.recordSettled id
  handed : u.Handed
  watch : u.router.watch = s.router.watch
  holders : u.arbiter.holders = s.corridorInUse.defaultHolder
  links : ∀ p, (u.port p).settled = (s.restartHead.takeCorridor.port p).settled
  pending : ∀ c, Aside c → c ≠ .schedule → c ≠ .loopFault → SamePending c s u
  loop : ∀ i, u.loop i = Loop.restarted (s.damaged (.loop i)) (s.memory.loops.get i)

theorem bareMemory_of_kept {s t : State} (h : t.kept = s.kept) : bareMemory s.memory t.memory = s.memory :=
  (congrArg (fun v : State => bareMemory s.memory v.memory) h :)

/-- The corridor settings read and the records of authority started, from the head of a restart. -/
structure HoldersStarted (h w : State) : Prop where
  kept : w.kept = h.kept
  retained : w.retained = h.retained
  corridor : w.corridorInUse = h.corridorInUse
  memory : (∀ id, h.recordSettled id) → w.memory = h.memory
  settled : ∀ id, h.recordSettled id → w.recordSettled id
  damaged : ∀ id, w.damaged id = h.damaged id
  handed : w.Handed
  watch : w.router.watch = h.router.watch
  holders : w.arbiter.holders = h.corridorInUse.defaultHolder
  port : ∀ p, w.port p = h.takeCorridor.port p
  pending : ∀ c, Aside c → SamePending c h w

theorem holdersStarted : s.HoldersStarted s.takeCorridor.restartHolders := by
  have handed := handed_takeCorridor s
  have kept := kept_takeCorridor s
  have retained := retained_takeCorridor s
  have corridor := corridorInUse_takeCorridor s
  have pending := fun c (aside : Aside c) => samePending_takeCorridor s (c := c) aside.authority aside.memory
  have handedMemory := (handCorridor_spec s none s.corridorInUse).2.2.1
  have read : s.takeCorridor = (s.handCorridor none s.corridorInUse).useRecord .corridorSettings := rfl
  have handedRouter := router_handCorridor s none s.corridorInUse
  generalize s.handCorridor none s.corridorInUse = u at *
  have watch : s.takeCorridor.router.watch = s.router.watch := by rw [read, router_useRecord, handedRouter]
  have memory (all : ∀ id, s.recordSettled id) : s.takeCorridor.memory = s.memory := by
    rw [read, useRecord_settled ((recordSettled_congr handedMemory _).2 (all _)), handedMemory]
  have settled (id : RecId) (h : s.recordSettled id) : s.takeCorridor.recordSettled id := by
    rw [read]
    exact recordSettled_useRecord ((recordSettled_congr handedMemory _).2 h) _
  have damaged (id : RecId) : s.takeCorridor.damaged id = s.damaged id := by
    rw [read, damaged_useRecord, damaged_of_memory handedMemory]
  clear read
  generalize taken : s.takeCorridor = v at *
  have holders : v.restartHolders.arbiter.holders = v.arbiter.defaults := rfl
  have frame : ({ v.restartHolders with arbiter := v.arbiter } : State) = v := rfl
  have handed' : v.restartHolders.Handed := ⟨handed.lapses, handed.routes, handed.edges, handed.defaults, handed.settled⟩
  generalize v.restartHolders = w at *
  have memory' : w.memory = v.memory := (congrArg State.memory frame :)
  have ports : w.ports = v.ports := (congrArg State.ports frame :)
  exact {
    kept := (congrArg State.kept frame :).trans kept
    retained := (congrArg State.retained frame :).trans retained
    corridor := (corridorInUse_of_memory memory').trans corridor
    memory := fun all => memory'.trans (memory all)
    settled := fun id h => (recordSettled_congr memory' id).2 (settled id h)
    damaged := fun id => (damaged_of_memory memory' id).trans (damaged id)
    handed := handed'
    watch := (congrArg (fun x : State => x.router.watch) frame :).trans watch
    holders := by rw [holders, handed.defaults, corridor]
    port := fun p => by rw [taken, port_of_ports ports]
    pending := fun c aside => (pending c aside).trans (.of_ports ports) }

/-- The head of a restart changes the Scrub Position and the request for a restart alone. -/
theorem restartHead_fields : s.restartHead.memory = { s.memory with scrubPosition := .loop 0 }
    ∧ s.restartHead.supply = { s.supply with warmDue := false } ∧ s.restartHead.retained = s.retained
    ∧ s.restartHead.corridorInUse = s.corridorInUse ∧ s.restartHead.router = s.router ∧ s.restartHead.ports = s.ports
    ∧ (∀ id, s.restartHead.recordSettled id ↔ s.recordSettled id) ∧ ∀ id, s.restartHead.damaged id = s.damaged id :=
  ⟨rfl, rfl, rfl, rfl, rfl, rfl, fun _ => Iff.rfl, fun id => by cases id <;> rfl⟩

theorem restartRead_spec : s.RestartRead s.restartRead := by
  obtain ⟨memory, supply, retained, corridor, router, ports, settled, damaged⟩ := restartHead_fields s
  have start := holdersStarted s.restartHead
  unfold restartRead
  have loopRecs : s.restartHead.memory.loops = s.memory.loops := by rw [memory]
  have consults : s.restartHead.takeCorridor.restartHolders.Consults
      (s.restartHead.takeCorridor.restartHolders.each loopNos restartLoop) :=
    .each _ _ fun i t => consults_restartLoop t i
  have loop := loop_restartLoops s.restartHead.takeCorridor.restartHolders
  generalize s.restartHead.takeCorridor.restartHolders.each loopNos restartLoop = u at *
  generalize s.restartHead.takeCorridor.restartHolders = w at *
  have records : bareMemory s.restartHead.memory u.memory = s.restartHead.memory :=
    bareMemory_of_kept (t := { u with loops := w.loops }) (consults.calm.kept.trans start.kept)
  exact {
    supply := by rw [consults.supply, supply_of_kept start.kept, supply]
    retained := by rw [consults.retained, start.retained, retained]
    corridor := by rw [consults.corridorInUse, start.corridor, corridor]
    records := by rw [memory] at records; exact records
    memory := fun all => by
      have whole (id : RecId) := (settled id).2 (all id)
      rw [consults.memory fun id => start.settled id (whole id), start.memory whole, memory]
    settled := fun id one => consults.settled id (start.settled id ((settled id).2 one))
    handed := consults.handed start.handed
    watch := by rw [consults.router, start.watch, router]
    holders := by rw [consults.arbiter, start.holders, corridor]
    links := fun p => (consults.calm.port p :).trans (congrArg LinkPort.settled (start.port p))
    pending := fun c aside schedule loopFault =>
      ((SamePending.of_ports ports).trans (start.pending c aside)).trans (consults.pending c aside schedule loopFault)
    loop := fun i => by rw [loop, start.damaged, damaged, loops_of_kept start.kept, loopRecs] }

/-! ### The blocks started afresh (R38, R64, R125, R140, R157) -/

theorem startedAfresh_restartSequencers : s.restartSequencers.StartedAfresh := fun r => by
  unfold restartSequencers seq
  dsimp only
  exact Tab.get_ofFn _ _

/-- The restart up to the rebuild of the lists. -/
def restartBegun (inp : Inputs) (s : State) : State := ((s.restartRead.restartMeasurements).restartField inp).restartSequencers

theorem restartBlocks_eq (inp : Inputs) : s.restartBlocks inp = (s.restartBegun inp).restartEnd := by
  unfold restartBlocks restartBegun restartRead
  generalize head : s.restartHead = h
  unfold restartHead at head
  rw [head]
  dsimp only
  generalize h.takeCorridor.restartHolders.each loopNos restartLoop = u
  generalize ((u.restartMeasurements).restartField inp).restartSequencers = v
  unfold restartEnd withHolds
  rfl

/-- What a COLD or WARM restart leaves, of the state `s` in which its blocks start. -/
structure BlocksRestarted (inp : Inputs) (s t : State) : Prop where
  supply : t.supply = { s.supply with warmDue := false }
  retained : { t.retained with wasMetering := s.retained.wasMetering } = s.retained
  flag : ∀ r, t.retained.wasMetering.get r = true →
    s.supply.input = true ∧ s.retained.wasMetering.get r = true ∨ (t.seq r).state = .warning
  records : bareMemory s.memory t.memory = { s.memory with scrubPosition := .loop 0 }
  memory : (∀ id, s.recordSettled id) → t.memory = { s.memory with scrubPosition := .loop 0 }
  router : t.router = { routes := s.corridorInUse.routes, edges := s.corridorInUse.edges, watch := s.router.watch }
  arbiter : t.arbiter = { holders := s.corridorInUse.defaultHolder, defaults := s.corridorInUse.defaultHolder }
  links : ∀ p, (t.port p).settled = (s.restartHead.takeCorridor.port p).settled
  pending : ∀ c, Aside c → c ≠ .schedule → c ≠ .loopFault → c ≠ .restart → SamePending c s t
  raised : raisedBy .restart [t] s t
  loop : ∀ i, t.loop i = Loop.restarted (s.damaged (.loop i)) (s.memory.loops.get i)
  timer : t.timer = PeriodTimer.start
  corridorMeasure : t.corridorMeasure = CorridorMeasure.start
  corridorRate : t.corridorRate = CorridorRate.start s.corridorInUse.startAllowance
  qualified : t.qualified = []
  ramp : ∀ r, t.meas r = RampMeasure.start ∧ t.rate r = RampRate.start ∧ t.button r = Button.start
    ∧ ∀ ln, (t.lamp r ln).sensed = sensedAt inp r ln
  list : ∀ r, s.ListRebuilt r (t.planList r)
  count : ∀ r, (t.seq r).laneCount = s.corridorInUse.laneCount.get r
  hold : ∀ r, (t.seq r).supplyHold = (s.supply.input && decide ((t.seq r).state ≠ .unconfigured))
  state : ∀ r, (t.seq r).state = if s.retained.faultDark.get r = true then .darkFault
    else if s.corridorInUse.laneCount.get r = 0 then .unconfigured
    else if (t.planList r).demanded = none ∨ s.supply.input = true then .off else .warning

end State

end Sys2Proof.Machine

end

section
/-! PROOFS. A COLD or WARM restart of the blocks as a whole, and the ports it leaves (R38, R64, R83, R125, R140, R156, R157, R177 to
R179, R193). -/

namespace Sys2Proof.Machine

open State

namespace State

variable (s : State)

/-- What the restart has written before the rebuild of the lists, set back. -/
def blocksBack (u v : State) : State :=
  { v with
    timer := u.timer, measure := u.measure, corridorMeasure := u.corridorMeasure, rates := u.rates
    corridorRate := u.corridorRate, lamps := u.lamps, qualified := u.qualified, buttons := u.buttons
    sequencers := u.sequencers }

/-- The measurements, the rates, the fields and the sequencers started afresh from `u`. -/
structure BlocksStarted (inp : Inputs) (u v : State) : Prop where
  frame : u.blocksBack v = u
  afresh : v.StartedAfresh
  timer : v.timer = PeriodTimer.start
  corridorMeasure : v.corridorMeasure = CorridorMeasure.start
  corridorRate : v.corridorRate = CorridorRate.start u.corridorInUse.startAllowance
  qualified : v.qualified = []
  measure : v.measure = Tab.replicate 6 RampMeasure.start
  rates : v.rates = Tab.replicate 6 RampRate.start
  buttons : v.buttons = Tab.replicate 6 Button.start
  sensed : ∀ r ln, (v.lamp r ln).sensed = sensedAt inp r ln

theorem blocksStarted (inp : Inputs) (u : State) :
    BlocksStarted inp u ((u.restartMeasurements).restartField inp).restartSequencers where
  frame := rfl
  afresh := startedAfresh_restartSequencers _
  timer := rfl
  corridorMeasure := rfl
  corridorRate := rfl
  qualified := rfl
  measure := rfl
  rates := rfl
  buttons := rfl
  sensed := fun r ln => by
    unfold restartSequencers restartField lamp
    dsimp only
    rw [Tab.get_ofFn, Tab.get_ofFn]
    rfl

variable {s} {u v t : State} {inp : Inputs}

theorem BlocksStarted.rate (h : BlocksStarted inp u v) (r : Ramp) : v.rate r = RampRate.start := by
  unfold State.rate; rw [h.rates]; exact Tab.get_replicate _ _

theorem BlocksStarted.handed (h : BlocksStarted inp u v) (handed : u.Handed) : v.Handed := by
  have memory : v.memory = u.memory := (congrArg State.memory h.frame :)
  have ports : v.ports = u.ports := (congrArg State.ports h.frame :)
  have corridor : v.corridorInUse = u.corridorInUse := corridorInUse_of_memory memory
  have arbiter : v.arbiter = u.arbiter := (congrArg State.arbiter h.frame :)
  have router : v.router = u.router := (congrArg State.router h.frame :)
  exact {
    lapses := fun p => by rw [corridor, port_of_ports ports]; exact handed.lapses p
    routes := by rw [router, corridor, handed.routes]
    edges := by rw [router, corridor, handed.edges]
    defaults := by rw [arbiter, corridor, handed.defaults]
    settled := (recordSettled_congr memory _).2 handed.settled }

/-- A ramp is UNCONFIGURED after the restart just where it starts so, and a configured one takes the Supply Hold by the Supply
Input (R125, R173). -/
theorem RestartEnded.hold_input (h : v.RestartEnded t) (afresh : v.StartedAfresh) (r : Ramp) :
    (t.seq r).supplyHold = (v.supply.input && decide ((t.seq r).state ≠ .unconfigured))
      ∧ (t.seq r).state = if v.retained.faultDark.get r = true then .darkFault
        else if v.corridorInUse.laneCount.get r = 0 then .unconfigured
        else if (t.planList r).demanded = none ∨ v.supply.input = true then .off else .warning := by
  have start : (v.seq r).state = startState (v.retained.faultDark.get r) (v.corridorInUse.laneCount.get r) := by rw [afresh]; rfl
  have state := h.state r
  rw [h.hold]
  unfold startState at start
  unfold holdAtStart at state ⊢
  by_cases dark : v.retained.faultDark.get r = true
  · rw [if_pos dark] at start state
    rw [start, state, if_pos dark]
    exact ⟨rfl, rfl⟩
  · rw [if_neg dark] at start state
    rw [if_neg dark]
    by_cases zero : v.corridorInUse.laneCount.get r = 0
    · rw [if_pos zero] at start state
      rw [start, state, if_pos zero]
      exact ⟨rfl, rfl⟩
    · rw [if_neg zero] at start state
      rw [start] at state ⊢
      simp only [ne_eq, reduceCtorEq, not_false_eq_true, decide_true, Bool.and_true] at state ⊢
      rw [if_neg zero]
      refine ⟨?_, state⟩
      rw [state]
      split <;> simp

theorem restartBlocks_spec (inp : Inputs) (s : State) : BlocksRestarted inp s (s.restartBlocks inp) := by
  have read := restartRead_spec s
  rw [restartBlocks_eq]
  unfold restartBegun
  generalize s.restartRead = u at read ⊢
  have started := blocksStarted inp u
  generalize ((u.restartMeasurements).restartField inp).restartSequencers = v at started ⊢
  have ended := restartEnded (started.handed read.handed) started.afresh fun r => by rw [started.rate]; rfl
  generalize v.restartEnd = t at ended ⊢
  have memory : v.memory = u.memory := (congrArg State.memory started.frame :)
  have ports : v.ports = u.ports := (congrArg State.ports started.frame :)
  have retained : v.retained = s.retained := (congrArg State.retained started.frame :).trans read.retained
  have supply : v.supply = { s.supply with warmDue := false } := (congrArg State.supply started.frame :).trans read.supply
  have input : v.supply.input = s.supply.input := by rw [supply]
  have corridor : v.corridorInUse = s.corridorInUse := (corridorInUse_of_memory memory).trans read.corridor
  have arbiter : v.arbiter = u.arbiter := (congrArg State.arbiter started.frame :)
  have router : v.router = u.router := (congrArg State.router started.frame :)
  have whole (all : ∀ id, s.recordSettled id) (id : RecId) : v.recordSettled id :=
    (recordSettled_congr memory id).2 (read.settled id (all id))
  have held (r : Ramp) := ended.hold_input started.afresh r
  exact {
    supply := (supply_of_kept ended.kept).trans supply
    retained := by rw [← retained]; exact ended.retained
    flag := fun r set => by
      obtain ⟨hold, was⟩ | warning := ended.flag r set
      · refine .inl ⟨?_, by rw [← retained]; exact was⟩
        rw [← input]
        exact (Bool.and_eq_true_iff.1 hold).1
      · exact .inr warning
    records := by
      have kept := bareMemory_of_kept ended.kept
      rw [memory] at kept
      rw [← read.records, ← kept]
      rfl
    memory := fun all => by rw [ended.memory (whole all), memory, read.memory all]
    router := by
      rw [ended.router, router, ← read.corridor, ← read.handed.routes, ← read.handed.edges, ← read.watch]
    arbiter := by
      rw [ended.arbiter, arbiter, ← read.holders]
      have defaults := read.handed.defaults
      rw [read.corridor, ← read.holders] at defaults
      rw [← defaults]
      exact congrArg (fun d => ({ holders := d, defaults := u.arbiter.defaults } : Arbiter)) defaults.symm
    links := fun p => by rw [ended.links, port_of_ports ports, read.links]
    pending := fun c aside schedule loopFault restart =>
      ((read.pending c aside schedule loopFault).trans (.of_ports ports)).trans (ended.pending c aside schedule loopFault restart)
    raised := ((read.pending _ aside_restart (by decide) (by decide)).trans (.of_ports ports)).raisedBy_left ended.raised
    loop := fun i => by
      have loops : t.loops = u.loops := (stores_of_kept ended.kept).1.trans (congrArg State.loops started.frame :)
      rw [← read.loop]
      unfold State.loop
      rw [loops]
    timer := (congrArg State.timer ended.kept :).trans started.timer
    corridorMeasure := (congrArg State.corridorMeasure ended.kept :).trans started.corridorMeasure
    corridorRate := by
      rw [← read.corridor]
      exact (congrArg State.corridorRate ended.kept :).trans started.corridorRate
    qualified := (congrArg State.qualified ended.kept :).trans started.qualified
    ramp := fun r => by
      refine ⟨?_, ?_, ?_, fun ln => by rw [ended.sensed, started.sensed]⟩
      · unfold meas; rw [ended.measure, started.measure]; exact Tab.get_replicate _ _
      · unfold State.rate; rw [ended.rates, started.rates]; exact Tab.get_replicate _ _
      · have buttons : t.buttons = v.buttons := (congrArg State.buttons ended.kept :)
        unfold button; rw [buttons, started.buttons]; exact Tab.get_replicate _ _
    list := fun r => (ended.list r).of_same retained corridor
    count := fun r => by rw [ended.count, corridor]
    hold := fun r => by rw [(held r).1, input]
    state := fun r => by rw [(held r).2, retained, corridor, input] }

/-! ### The ports of a restart (R146, R156, R193) -/

/-- What of a port no lapse changes. -/
def linkBare (x : LinkPort) : Receiver × Option Req × Option Req × List Answer × Baud × Nat :=
  (x.receiver, x.current, x.waiting, x.answers, x.baud, x.silenceSeconds)

theorem linkBare_settled (x : LinkPort) : linkBare x.settled = linkBare x := rfl

theorem linkBare_takeOwnLapse (sender : Option Port) (cs : CorridorRec) (p q : Port) (t : State) :
    linkBare ((takeOwnLapse sender cs p t).port q) = linkBare (t.port q) := by
  have others := (lapsed_takeOwnLapse (sender := sender) (cs := cs) t p).others
  by_cases same : q = p
  · subst same
    have own : linkBare ((t.modPort q (newLapse sender cs t q)).port q) = linkBare (t.port q) := by rw [port_modPort_self]; rfl
    rw [takeOwnLapse_eq]
    generalize t.modPort q (newLapse sender cs t q) = u at own ⊢
    split
    · obtain ⟨set, silent⟩ := port_becomeSilent u q
      rw [silent, ← own]
      rfl
    · exact own
  · rw [others q same]

theorem takeCorridor_ports (s : State) (p : Port) : linkBare (s.takeCorridor.port p) = linkBare (s.port p) := by
  have lapses (t : State) : linkBare ((t.each ports3 (takeOwnLapse none s.corridorInUse)).port p) = linkBare (t.port p) :=
    each_proj (fun v => linkBare (v.port p)) ports3 _ t fun q v => linkBare_takeOwnLapse none s.corridorInUse q p v
  have handed : linkBare ((s.handCorridor none s.corridorInUse).port p) = linkBare (s.port p) := lapses _
  unfold takeCorridor
  generalize s.handCorridor none s.corridorInUse = u at handed ⊢
  rw [← linkBare_settled, (calm_useRecord u _).port, linkBare_settled, handed]

/-- Ports of which none lapses take their Lapse Times and nothing else (R146). -/
theorem port_noLapses (cs : CorridorRec) (xs : List Port) (nodup : xs.Nodup) (s : State)
    (stays : ∀ p ∈ xs, lapsesNow none cs s p = false) (p : Port) : (s.each xs (takeOwnLapse none cs)).port p
      = if p ∈ xs then { s.port p with lapseTime := cs.lapseTime.get (portIdx p) } else s.port p := by
  induction xs generalizing s with
  | nil => rfl
  | cons x xs ih =>
    obtain ⟨notMem, nodup⟩ := List.nodup_cons.1 nodup
    have taken : takeOwnLapse none cs x s = s.modPort x (newLapse none cs s x) := by
      rw [takeOwnLapse_eq, stays x List.mem_cons_self]
      rfl
    have own : (takeOwnLapse none cs x s).port x = { s.port x with lapseTime := cs.lapseTime.get (portIdx x) } := by
      rw [taken, port_modPort_self]
      unfold newLapse
      simp
    have others (q : Port) (ne : q ≠ x) : (takeOwnLapse none cs x s).port q = s.port q := by
      rw [taken, port_modPort_ne _ ne]
    have step : s.each (x :: xs) (takeOwnLapse none cs) = (takeOwnLapse none cs x s).each xs (takeOwnLapse none cs) := rfl
    rw [step]
    generalize takeOwnLapse none cs x s = u at own others ⊢
    have ne (q : Port) (mem : q ∈ xs) : q ≠ x := fun e => notMem (e ▸ mem)
    rw [ih nodup u fun q mem => (lapsesNow_congr (others q (ne q mem))).trans (stays q (List.mem_cons_of_mem x mem))]
    by_cases same : p = x
    · subst same
      rw [if_neg notMem, own, if_pos List.mem_cons_self]
    · rw [others p same]
      simp only [List.mem_cons, same, false_or]

theorem port_handCorridor (s : State) (cs : CorridorRec) (stays : ∀ p, lapsesNow none cs s p = false) (p : Port) :
    (s.handCorridor none cs).port p = { s.port p with lapseTime := cs.lapseTime.get (portIdx p) } := by
  obtain ⟨u, values⟩ : ∃ u : State, u = { s with
    router := { s.router with routes := cs.routes, edges := cs.edges }
    arbiter := { s.arbiter with defaults := cs.defaultHolder } } := ⟨_, rfl⟩
  have taken : s.handCorridor none cs = u.each ports3 (takeOwnLapse none cs) := by rw [values]; rfl
  have port (q : Port) : u.port q = s.port q := by rw [values]; rfl
  have all : p ∈ ports3 := by cases p <;> decide
  rw [taken, port_noLapses cs ports3 (by decide) u fun q _ => (lapsesNow_congr (port q)).trans (stays q), if_pos all, port]

/-- Where no port lapses, the read of the corridor settings gives each port its Lapse Time and changes no more of it but its events
(R146). -/
theorem port_takeCorridor (s : State) (stays : ∀ p, lapsesNow none s.corridorInUse s p = false) (p : Port) :
    (s.takeCorridor.port p).settled = ({ s.port p with lapseTime := s.corridorInUse.lapseTime.get (portIdx p) } : LinkPort).settled := by
  have handed := port_handCorridor s s.corridorInUse stays p
  unfold takeCorridor
  generalize s.handCorridor none s.corridorInUse = u at handed ⊢
  rw [(calm_useRecord u _).port, handed]

end State

end Sys2Proof.Machine

end

section
/-! PROOFS. The WARM restart and the request for it (R19, R38, R64, R83, R125, R156, R176, R177, R179, R193). -/

namespace Sys2Proof.Machine

open State

namespace State

variable {s t : State} {p : Port}

/-! ### The request (R176) -/

theorem takeRequest_warmRestart (held : s.holder corridorRecord = some p) : s.takeRequest p (.warmRestart 0)
    = s.modPort p fun x => { x with
        answers := x.answers ++ [{ kind := (Req.warmRestart 0).kindByte ||| 0x80, status := .done, index := 0, payload := .empty,
                                   role := .warmRestart }] } := by
  have authority : Authority p (.warmRestart 0) s := fun i need => by
    rw [← Option.some.inj (show some corridorRecord = some i from need)]
    exact held
  have performed : s.perform p (.warmRestart 0) = .done s := by
    rw [perform_checked (by decide) (by cases p <;> decide) authority]
    rfl
  unfold takeRequest
  rw [performed]
  rfl

/-! ### The ports started afresh (R156, R193) -/

/-- The ports started afresh, the Watch Set empty. -/
structure PortsStarted (baud : Port → Baud) (s w : State) : Prop where
  frame : ({ w with ports := s.ports, router := s.router } : State) = s
  router : w.router = { s.router with watch := 0 }
  port : ∀ p, w.port p = LinkPort.start (baud p) (s.port p).lapseTime

theorem portsStarted (baud : Port → Baud) (s : State) : PortsStarted baud s (s.restartPorts baud) := by
  obtain ⟨u, watch⟩ : ∃ u : State, u = { s with router := { s.router with watch := 0 } } := ⟨_, rfl⟩
  have started : s.restartPorts baud = u.each ports3 fun p t => t.setPort p (LinkPort.start (baud p) (t.port p).lapseTime) := by
    rw [watch]; rfl
  have port (p : Port) : u.port p = s.port p := by rw [watch]; rfl
  have frame : ({ u with router := s.router } : State) = s := by rw [watch]
  have router : u.router = { s.router with watch := 0 } := by rw [watch]
  rw [started]
  clear started watch
  refine ⟨?_, ?_, fun p => ?_⟩
  · refine each_induct (P := fun t => ({ t with ports := s.ports, router := s.router } : State) = s) ports3 _ ?_ fun p t h => h
    exact (congrArg (fun t : State => ({ t with ports := s.ports } : State)) frame :)
  · rw [← router]
    exact each_proj State.router ports3 _ u fun _ _ => rfl
  · have all := each_at State.port (fun _ => ()) (fun _ p x => LinkPort.start (baud p) x.lapseTime)
      (fun p t => t.setPort p (LinkPort.start (baud p) (t.port p).lapseTime)) ports3 (by decide) (fun _ _ => rfl)
      (fun p t => port_setPort_self t p _) (fun p q t ne => port_setPort_ne t ne _) u p
    rw [if_pos (by cases p <;> decide), port] at all
    exact all

/-- No port lapses with its Silence Timer at 0 where every Lapse Time is positive (R146). -/
theorem lapsesNow_started {w : State} {cs : CorridorRec} {p : Port} (silence : (w.port p).silenceSeconds = 0)
    (positive : 0 < cs.lapseTime.get (portIdx p)) : lapsesNow none cs w p = false := by
  unfold lapsesNow
  rw [silence, decide_eq_false (p := cs.lapseTime.get (portIdx p) ≤ 0) (by omega)]
  simp

/-- AUTHORITY is pending in a port just where it is in the port with the other classes masked out. -/
theorem authority_settled {x y : LinkPort} (h : x.settled = y.settled) : classIn .authority x.pending = classIn .authority y.pending := by
  rw [← authority_masked x.pending, ← authority_masked y.pending]
  exact congrArg (fun z : LinkPort => classIn .authority z.pending) h

/-! ### The restart taken (R176) -/

/-- The state in which the blocks of a WARM restart start: the cause set, the ports started afresh. -/
def warmStart (s : State) : State := (s.setCause .warm).restartPorts fun p => (s.port p).baud

theorem warmStart_spec (s : State) : PortsStarted (fun p => (s.port p).baud) (s.setCause .warm) s.warmStart := portsStarted _ _

theorem warmStart_blocks (inp : Inputs) (s : State) : BlocksRestarted inp s.warmStart (s.warmRestart inp) := restartBlocks_spec inp _

/-- What a WARM restart starts its blocks from. -/
structure WarmStarted (s w : State) : Prop where
  supply : w.supply = { s.supply with cause := .warm }
  retained : w.retained = s.retained
  memory : w.memory = s.memory
  corridor : w.corridorInUse = s.corridorInUse
  watch : w.router.watch = 0
  port : ∀ p, w.port p = LinkPort.start (s.port p).baud (s.port p).lapseTime

theorem warmStarted (s : State) : s.WarmStarted s.warmStart := by
  have start := warmStart_spec s
  generalize s.warmStart = w at start ⊢
  have memory : w.memory = s.memory := (congrArg State.memory start.frame :)
  exact {
    supply := (congrArg State.supply start.frame :)
    retained := (congrArg State.retained start.frame :)
    memory := memory
    corridor := corridorInUse_of_memory memory
    watch := by rw [start.router]
    port := start.port }

/-- The ports that a WARM restart leaves, with the classes that none of its events brings (R156, R179, R193). -/
structure WarmPorts (s t : State) (p : Port) : Prop where
  bare : linkBare (t.port p) = (.hunting, none, none, [], (s.port p).baud, 0)
  lapseTime : (t.port p).lapseTime = s.corridorInUse.lapseTime.get (portIdx p)
  active : (∀ q, 0 < s.corridorInUse.lapseTime.get (portIdx q)) →
    (t.port p).silent = false ∧ classIn .authority (t.port p).pending = false
  pending : ∀ c, Aside c → c ≠ .schedule → c ≠ .loopFault → c ≠ .restart → classIn c (t.port p).pending = false
  restart : classIn .restart (t.port p).pending = true ↔ t.delivers .restart p = true

theorem classIn_empty (c : EventClass) : classIn c 0 = false := by cases c <;> decide

theorem warmPorts (inp : Inputs) (s : State) (p : Port) : s.WarmPorts (s.warmRestart inp) p := by
  have warm := warmStarted s
  have blocks := warmStart_blocks inp s
  generalize s.warmRestart inp = t at blocks ⊢
  generalize s.warmStart = w at warm blocks
  have ports : w.restartHead.ports = w.ports := rfl
  have corridor : w.restartHead.corridorInUse = s.corridorInUse := warm.corridor
  have links := blocks.links p
  have bare := takeCorridor_ports w.restartHead p
  have lapses := (handed_takeCorridor w.restartHead).lapses p
  rw [corridorInUse_takeCorridor, corridor] at lapses
  have active := port_takeCorridor w.restartHead
  rw [corridor] at active
  generalize w.restartHead.takeCorridor = v at *
  have empty : (w.port p).pending = 0 := by rw [warm.port]; rfl
  exact {
    bare := by
      rw [← linkBare_settled, links, linkBare_settled, bare, port_of_ports ports, warm.port]
      rfl
    lapseTime := by rw [← settled_lapseTime, links, settled_lapseTime, lapses]
    active := fun positive => by
      have stays (q : Port) : lapsesNow none s.corridorInUse w.restartHead q = false :=
        lapsesNow_started (by rw [port_of_ports ports, warm.port]; rfl) (positive q)
      have port := links.trans (active stays p)
      rw [port_of_ports ports] at port
      refine ⟨?_, ?_⟩
      · rw [← settled_silent, port, settled_silent, warm.port]
        rfl
      · rw [authority_settled port, empty]
        exact classIn_empty _
    pending := fun c aside schedule loopFault restart => by
      rw [blocks.pending c aside schedule loopFault restart p, empty]
      exact classIn_empty _
    restart := by
      have raised := blocks.raised p
      rw [empty, classIn_empty] at raised
      simpa using raised }

theorem restarted_cases (damaged : Bool) (x : LoopRec) : Loop.restarted damaged x
    = if damaged = true then Loop.afresh .configLost none
      else Loop.afresh (if x.ident.role = .unused then .unused else .ok) (some x.ident) := rfl

end State

/-- Settles O58: the request is answered with the mark that asks for the restart; the restart starts its blocks from ports started
afresh, with the stored records and the retained store as they were. -/
theorem warmRestartKeepsItsState : Obligations.WarmRestartKeepsItsState := by
  unfold Obligations.WarmRestartKeepsItsState
  refine ⟨fun p s ready held => ?_, fun inp s running => ?_⟩
  · rw [exec_ready (q := .warmRestart 0) rfl ready, takeRequest_warmRestart (s := s.arrived p (.warmRestart 0)) held]
  have runs : exec (.warmRestartTaken inp) s = .next (s.warmRestartTaken inp) := congrArg Host.Outcome.next (whenRunning_runs running _)
  refine ⟨fun idle => ?_, fun due => ⟨s.warmRestart inp, ?_, ?_⟩⟩
  · rw [runs]
    unfold warmRestartTaken
    rw [if_neg (by simp [idle])]
  · rw [runs]
    unfold warmRestartTaken
    rw [if_pos due]
  have warm := warmStarted s
  have blocks := warmStart_blocks inp s
  have ports := warmPorts inp s
  generalize s.warmRestart inp = t at *
  generalize s.warmStart = w at *
  have records := blocks.records
  rw [warm.memory] at records
  have record {α : Type} (f : ConfigMemory → α) := congrArg f records
  have damaged (i : LoopNo) : w.damaged (.loop i) = s.damaged (.loop i) := damaged_of_memory warm.memory _
  have list (r : Ramp) := (blocks.list r).of_same warm.retained warm.corridor
  have bare (p : Port) := (ports p).bare
  simp only [linkBare, Prod.mk.injEq] at bare
  refine ⟨?_, fun p => ?_, ?_, record ConfigMemory.loops, record ConfigMemory.plans, record ConfigMemory.schedule,
    record ConfigMemory.shifts, record ConfigMemory.safety, record ConfigMemory.corridor, record ConfigMemory.safetyLock,
    record ConfigMemory.scrubPosition, blocks.timer, blocks.corridorMeasure, ?_, ?_, ?_, ?_, ?_,
    fun positive => ?_, fun p => ?_, fun i => ?_, fun r => ?_, fun r => (blocks.ramp r).2.2.2, blocks.qualified, fun r => ?_⟩
  · rw [blocks.supply, warm.supply]
  · obtain ⟨receiver, current, waiting, answers, baud, silence⟩ := bare p
    exact ⟨receiver, current, waiting, answers, baud, silence⟩
  · rw [← warm.retained]
    exact blocks.retained
  · rw [blocks.corridorRate, warm.corridor]
  · rw [blocks.router, warm.watch]
  · rw [blocks.router, warm.corridor]
  · rw [blocks.router, warm.corridor]
  · rw [blocks.arbiter, warm.corridor]
  · exact ⟨by rw [blocks.arbiter, warm.corridor], fun p => (ports p).active positive⟩
  · refine ⟨(ports p).lapseTime, (ports p).restart, fun c named => ?_⟩
    refine (ports p).pending c ?_ ?_ ?_ ?_
    · obtain rfl | rfl | rfl | rfl | rfl := named <;> exact ⟨by decide, by decide, by decide, by decide⟩
    · obtain rfl | rfl | rfl | rfl | rfl := named <;> decide
    · obtain rfl | rfl | rfl | rfl | rfl := named <;> decide
    · obtain rfl | rfl | rfl | rfl | rfl := named <;> decide
  · rw [blocks.loop, damaged, warm.memory, restarted_cases]
  · obtain ⟨hold, command, schedule⟩ := list r
    exact ⟨hold, command, schedule⟩
  · obtain ⟨meas, rate, button, -⟩ := blocks.ramp r
    have state := blocks.state r
    rw [warm.retained, warm.corridor] at state
    refine ⟨meas, rate, button, fun dark => ?_, fun lit zero => ?_, fun lit laned => ?_⟩
    · rw [state, if_pos dark]
    · rw [state, if_neg (by simp [lit]), if_pos zero]
    · rw [state, if_neg (by simp [lit]), if_neg laned]
      split
      · exact .inl rfl
      · exact .inr rfl

end Sys2Proof.Machine

end

section
/-! PROOFS. The COLD restarts (R19, R38, R64, R125, R140, R156, R157, R170, R172, R175, R177, R193). -/

namespace Sys2Proof.Machine

open State

/-- Every turn of the scrub is that of a record (R162). -/
theorem RecId.turn_surjective (n : Fin 132) : ∃ id, RecId.turn id = n := by
  by_cases loop : n.val < 48
  · exact ⟨.loop ⟨n.val, loop⟩, rfl⟩
  by_cases plan : n.val < 80
  · exact ⟨.plan ⟨n.val - 48, by omega⟩, Fin.ext (by simp only [RecId.turn]; omega)⟩
  by_cases schedule : n.val < 128
  · exact ⟨.schedule ⟨n.val - 80, by omega⟩, Fin.ext (by simp only [RecId.turn]; omega)⟩
  by_cases shift : n.val < 130
  · exact ⟨.shift ⟨n.val - 128, by omega⟩, Fin.ext (by simp only [RecId.turn]; omega)⟩
  by_cases safety : n.val = 130
  · exact ⟨.safety, Fin.ext safety.symm⟩
  · exact ⟨.corridorSettings, Fin.ext (show 131 = n.val by omega)⟩

namespace State

variable {s t w : State} {k : RestartKind} {inp : Inputs} {straps : Straps} {off : Nat}

/-! ### The start of a COLD restart (R170, R172, R175) -/

/-- The retained store as a COLD restart leaves it: run on, or initialised where it was INVALID (R99, R172). -/
def storeJudged (off : Nat) (s : State) : Retained := if s.retained.valid = true then s.retained.ran off else Retained.initial

/-- What the blocks of a COLD restart start from. -/
structure ColdStarted (k : RestartKind) (inp : Inputs) (straps : Straps) (off : Nat) (s w : State) : Prop where
  supply : w.supply = { power := .running, resetLine := false, input := inp.supplyFail, sampled := inp.supplyFail, cause := k,
                        storeFoundValid := s.retained.valid, warmDue := s.supply.warmDue }
  retained : w.retained = s.storeJudged off
  memory : w.memory = { s.memory with
    health := s.memory.health.map fun h => { h with damagedMark := false }
    damagedList := [], overflow := false, correctionCount := 0, safetyLock := false }
  watch : w.router.watch = 0
  port : ∀ p, w.port p = LinkPort.start (strapBaud straps p) (s.port p).lapseTime

theorem coldStarted : ColdStarted k inp straps off s (s.coldStart k inp straps off) := by
  obtain ⟨u, judged⟩ : ∃ u : State, u = (((s.setCause k).powerUp inp).clockRan off).judgeStore := ⟨_, rfl⟩
  have started : s.coldStart k inp straps off = (u.restartPorts (strapBaud straps)).restartMemory := by rw [judged]; rfl
  have supply : u.supply = { power := .running, resetLine := false, input := inp.supplyFail, sampled := inp.supplyFail, cause := k,
                             storeFoundValid := s.retained.valid, warmDue := s.supply.warmDue }
      ∧ u.retained = s.storeJudged off := by
    rw [judged]
    have valid : (((s.setCause k).powerUp inp).clockRan off).retained.valid = s.retained.valid := rfl
    unfold judgeStore storeJudged
    rw [valid]
    cases s.retained.valid <;> exact ⟨rfl, rfl⟩
  have memory : u.memory = s.memory ∧ u.ports = s.ports := by
    rw [judged]
    unfold judgeStore
    split <;> exact ⟨rfl, rfl⟩
  rw [started]
  clear started judged
  have start := portsStarted (strapBaud straps) u
  generalize u.restartPorts (strapBaud straps) = v at start ⊢
  exact {
    supply := (congrArg State.supply start.frame :).trans supply.1
    retained := (congrArg State.retained start.frame :).trans supply.2
    memory := by
      have same : v.memory = s.memory := (congrArg State.memory start.frame :).trans memory.1
      rw [← same]
      rfl
    watch := by
      have router : v.restartMemory.router = v.router := rfl
      rw [router, start.router]
    port := fun p => by
      have port : v.restartMemory.port p = v.port p := rfl
      rw [port, start.port, port_of_ports memory.2] }

/-! ### A COLD restart where no record has an error -/

theorem health_coldStarted (good : ∀ id, (s.health id).check = .good) :
    (s.memory.health.map fun h => { h with damagedMark := false }) = Tab.replicate 132 { check := .good, damagedMark := false } :=
  Tab.ext_get fun n => by
    obtain ⟨id, rfl⟩ := RecId.turn_surjective n
    rw [Tab.get_map, Tab.get_replicate, ← good id]
    rfl

theorem ColdStarted.check (h : ColdStarted k inp straps off s w) (good : ∀ id, (s.health id).check = .good) (id : RecId) :
    (w.health id).check = .good := by
  unfold health
  rw [h.memory]
  dsimp only
  rw [health_coldStarted good, Tab.get_replicate]

theorem ColdStarted.damaged (h : ColdStarted k inp straps off s w) (good : ∀ id, (s.health id).check = .good) (id : RecId) :
    w.damaged id = false := by
  unfold State.damaged
  rw [h.check good]
  simp

theorem ColdStarted.corridor (h : ColdStarted k inp straps off s w) (good : ∀ id, (s.health id).check = .good) :
    w.corridorInUse = s.memory.corridor := by
  unfold corridorInUse
  rw [h.damaged good, h.memory]
  rfl

/-- The ports of a COLD restart, but for their Pending Sets (R156, R193). -/
theorem coldPorts (start : ColdStarted k inp straps off s w) (blocks : BlocksRestarted inp w t)
    (corridor : w.corridorInUse = s.memory.corridor) (positive : ∀ p, 0 < s.memory.corridor.lapseTime.get (portIdx p)) (p : Port) :
    { t.port p with pending := 0 } = LinkPort.start (strapBaud straps p) (s.memory.corridor.lapseTime.get (portIdx p)) := by
  have ports : w.restartHead.ports = w.ports := rfl
  have inUse : w.restartHead.corridorInUse = s.memory.corridor := corridor
  have taken := port_takeCorridor w.restartHead
  rw [inUse] at taken
  have stays (q : Port) : lapsesNow none s.memory.corridor w.restartHead q = false :=
    lapsesNow_started (by rw [port_of_ports ports, start.port]; rfl) (positive q)
  have port := (blocks.links p).trans (taken stays p)
  rw [port_of_ports ports, start.port] at port
  exact (congrArg (fun x : LinkPort => ({ x with pending := 0 } : LinkPort)) port :)

/-- RESTART is pending after a COLD restart just where it is delivered (R179, R189). -/
theorem coldRestart_pending (start : ColdStarted k inp straps off s w) (blocks : BlocksRestarted inp w t) (p : Port) :
    classIn .restart (t.port p).pending = true ↔ t.delivers .restart p = true := by
  have raised := blocks.raised p
  have empty : (w.port p).pending = 0 := by rw [start.port]; rfl
  rw [empty, classIn_empty] at raised
  simpa using raised

theorem initial_flags (r : Ramp) : Retained.initial.hold.get r = false ∧ Retained.initial.faultDark.get r = false
    ∧ Retained.initial.wasMetering.get r = false :=
  ⟨Tab.get_replicate _ _, Tab.get_replicate _ _, Tab.get_replicate _ _⟩

/-- The was-metering flag by which the Restart Policy judges: that of a store found VALID, else clear (R172, R177). -/
theorem wasMetering_storeJudged (r : Ramp) :
    (s.storeJudged off).wasMetering.get r = (s.retained.valid && s.retained.wasMetering.get r) := by
  unfold storeJudged
  cases s.retained.valid with
  | true => rfl
  | false => exact (initial_flags r).2.2

/-- The retained store that a COLD restart leaves, but for the was-metering flags (R99, R172). -/
structure StoreKept (off : Nat) (s t : State) : Prop where
  valid : t.retained.valid = true
  initial : s.retained.valid = false → t.retained.clock = DateTime.epoch ∧ t.retained.clockValid = false
    ∧ t.retained.incident = none ∧ ∀ r, t.retained.hold.get r = false ∧ t.retained.faultDark.get r = false
  kept : s.retained.valid = true → t.retained.clock = (s.retained.ran off).clock
    ∧ t.retained.clockValid = s.retained.clockValid ∧ t.retained.incident = s.retained.incident
    ∧ t.retained.hold = s.retained.hold ∧ t.retained.faultDark = s.retained.faultDark

theorem storeKept {x : Tab 6 Bool} (h : { t.retained with wasMetering := x } = s.storeJudged off) : StoreKept off s t := by
  have fields : t.retained.valid = (s.storeJudged off).valid ∧ t.retained.clock = (s.storeJudged off).clock
      ∧ t.retained.clockValid = (s.storeJudged off).clockValid ∧ t.retained.incident = (s.storeJudged off).incident
      ∧ t.retained.hold = (s.storeJudged off).hold ∧ t.retained.faultDark = (s.storeJudged off).faultDark := by
    rw [← h]
    exact ⟨rfl, rfl, rfl, rfl, rfl, rfl⟩
  obtain ⟨valid, clock, clockValid, incident, hold, faultDark⟩ := fields
  unfold storeJudged at *
  cases found : s.retained.valid with
  | true =>
    rw [if_pos found] at *
    exact ⟨valid.trans found, fun invalid => absurd (found.symm.trans invalid) (by simp), fun _ =>
      ⟨clock, clockValid, incident, hold, faultDark⟩⟩
  | false =>
    have unfit : ¬ s.retained.valid = true := by simp [found]
    rw [if_neg unfit] at *
    refine ⟨valid, fun _ => ⟨clock, clockValid, incident, fun r => ?_⟩, fun fit => absurd fit unfit⟩
    rw [hold, faultDark]
    exact ⟨(initial_flags r).1, (initial_flags r).2.1⟩

/-- The configuration memory that a COLD restart leaves where no record has an error (R170). -/
theorem memory_coldRestart (start : ColdStarted k inp straps off s w) (blocks : BlocksRestarted inp w t)
    (good : ∀ id, (s.health id).check = .good) : t.memory = { s.memory with
      health := Tab.replicate 132 { check := .good, damagedMark := false }
      damagedList := [], overflow := false, correctionCount := 0, safetyLock := false, scrubPosition := .loop 0 } := by
  rw [blocks.memory fun id => .inl (start.check good id), start.memory, health_coldStarted good]

end State

/-- Settles O57: a part in which the restart is not due is left as the model has it; the other starts its blocks from the judged store,
the cleared marks and the ports started afresh. -/
theorem coldRestartsStartEveryBlock : Obligations.ColdRestartsStartEveryBlock := by
  unfold Obligations.ColdRestartsStartEveryBlock
  intro inp straps off s
  have power : exec (.coldPower inp straps off) s = .next (s.coldPower inp straps off) := rfl
  have line : exec (.coldLine inp straps off) s = .next (s.coldLine inp straps off) := rfl
  unfold coldPower at power
  unfold coldLine at line
  refine ⟨fun powered => ?_, fun unpowered asserted => ⟨(s.clockRan off).setPower .heldAtReset, ?_, rfl, rfl, rfl⟩, fun running => ?_,
    fun c k due good positive => ⟨s.coldRestart k inp straps off, ?_, ?_⟩⟩
  · rw [power]
    cases e : s.supply.power with
    | unpowered => exact absurd e powered
    | heldAtReset => rfl
    | running => rfl
  · rw [power, unpowered]
    dsimp only
    rw [if_pos asserted]
  · rw [line]
    cases e : s.supply.power with
    | unpowered => rfl
    | heldAtReset => exact absurd e running
    | running => rfl
  · obtain ⟨rfl, rfl, unpowered, released⟩ | ⟨rfl, rfl, held⟩ := due
    · rw [power, unpowered]
      dsimp only
      rw [if_neg (by simp [released])]
    · rw [line, held]
  have start := coldStarted (k := k) (inp := inp) (straps := straps) (off := off) (s := s)
  have blocks : BlocksRestarted inp (s.coldStart k inp straps off) (s.coldRestart k inp straps off) := restartBlocks_spec inp _
  generalize s.coldRestart k inp straps off = t at *
  generalize s.coldStart k inp straps off = w at *
  have corridor := start.corridor good
  have input : w.supply.input = inp.supplyFail := by rw [start.supply]
  have store : StoreKept off s t := storeKept (blocks.retained.trans start.retained)
  have flags : t.retained.hold = w.retained.hold ∧ t.retained.faultDark = w.retained.faultDark
      ∧ t.retained.clockValid = w.retained.clockValid := by
    rw [← blocks.retained]
    exact ⟨rfl, rfl, rfl⟩
  refine ⟨?_, store.valid, fun r set => ?_, store.initial, store.kept, memory_coldRestart start blocks good, fun i => ?_, blocks.timer,
    blocks.corridorMeasure, ?_, blocks.ramp, ?_, ?_, coldPorts start blocks corridor positive, coldRestart_pending start blocks,
    fun r => ?_⟩
  · rw [blocks.supply, start.supply]
  · refine (blocks.flag r set).imp_left fun ⟨failing, was⟩ => ?_
    rw [start.retained, wasMetering_storeJudged] at was
    exact ⟨(Bool.and_eq_true_iff.1 was).1, input.symm.trans failing⟩
  · rw [blocks.loop, start.damaged good, start.memory]
    rfl
  · rw [blocks.corridorRate, corridor]
  · rw [blocks.arbiter, corridor]
  · rw [blocks.router, corridor, start.watch]
  · obtain ⟨hold, command, schedule⟩ := blocks.list r
    rw [corridor, start.retained, wasMetering_storeJudged] at command
    refine ⟨by rw [hold, flags.1], command, fun invalid => schedule (flags.2.2.symm.trans invalid), by rw [blocks.count, corridor], ?_, ?_⟩
    · rw [blocks.state, corridor, input, flags.2.1]
    · rw [blocks.hold, input]

end Sys2Proof.Machine

end
